-- ==== Sys2Proof/Word.lean ====
section
/-!
DEFINITION. The two bit-vector types of the model: a byte of a serial line, and the 32-bit wrapping quantity of
the accounts and totals (conventions of spec/00_scope.md, "Arithmetic": wrapping is modulo 2 to the width).
Everything else the manual counts is a natural number or an integer.
-/

namespace Sys2Proof

/-- A byte of a frame on Line A or Line B. -/
abbrev Byte := BitVec 8

/-- A 32-bit wrapping quantity: a total, a tally, a time stamp (two's complement where the manual says signed). -/
abbrev Word32 := BitVec 32

end Sys2Proof
end

