-- ==== Sys2Proof/Syntax.lean ====
section
/-!
DEFINITION. The commands of the Eskamp 740: one constructor of `Instr` for each row of spec/opcode_table.json.

A request row carries the line it arrives on, the tag byte and the raw body bytes (spec/11, section 11.3); its kind
is the row's own. An event row carries the index of the unit it reaches and the levels or counts the field presents
(DESIGN CHOICE, log 19).
-/

namespace Sys2Proof

/-- The two serial lines (R172 to R174). -/
inductive LinkLine where
  | a | b
  deriving DecidableEq, Repr

/-- A command of the block. -/
inductive Instr where
  /-- POWER_ON (R181): whether the stored image's sum check holds, the levels of the meter phases (bit m is
  channel m) and the level of LOCAL present at power-on. -/
  | powerOn (storeGood : Bool) (phaseA phaseB : BitVec 24) (localIn : Bool)
  /-- SECOND_TICK (R32): the levels it samples: request contacts (bit k closed), proof contacts (bit 0 set A), LOCAL. -/
  | secondTick (contacts : BitVec 16) (proofs : BitVec 2) (localIn : Bool)
  | readStatus (ln : LinkLine) (tag : Byte) (body : List Byte)
  | readTank (ln : LinkLine) (tag : Byte) (body : List Byte)
  | readMeter (ln : LinkLine) (tag : Byte) (body : List Byte)
  | readFrequencyInput (ln : LinkLine) (tag : Byte) (body : List Byte)
  | readLine (ln : LinkLine) (tag : Byte) (body : List Byte)
  | readGroup (ln : LinkLine) (tag : Byte) (body : List Byte)
  | readArbiter (ln : LinkLine) (tag : Byte) (body : List Byte)
  | readTrain (ln : LinkLine) (tag : Byte) (body : List Byte)
  | readSets (ln : LinkLine) (tag : Byte) (body : List Byte)
  | readTransfer (ln : LinkLine) (tag : Byte) (body : List Byte)
  | readLink (ln : LinkLine) (tag : Byte) (body : List Byte)
  | fetchNotices (ln : LinkLine) (tag : Byte) (body : List Byte)
  | takeSnapshot (ln : LinkLine) (tag : Byte) (body : List Byte)
  | readSnapshot (ln : LinkLine) (tag : Byte) (body : List Byte)
  | releaseSnapshot (ln : LinkLine) (tag : Byte) (body : List Byte)
  | defineTank (ln : LinkLine) (tag : Byte) (body : List Byte)
  | loadStrapping (ln : LinkLine) (tag : Byte) (body : List Byte)
  | defineMeter (ln : LinkLine) (tag : Byte) (body : List Byte)
  | defineFrequencyInput (ln : LinkLine) (tag : Byte) (body : List Byte)
  | defineLines (ln : LinkLine) (tag : Byte) (body : List Byte)
  | defineGroup (ln : LinkLine) (tag : Byte) (body : List Byte)
  | setSupplyBands (ln : LinkLine) (tag : Byte) (body : List Byte)
  | setProductionBands (ln : LinkLine) (tag : Byte) (body : List Byte)
  | setBalance (ln : LinkLine) (tag : Byte) (body : List Byte)
  | defineTrain (ln : LinkLine) (tag : Byte) (body : List Byte)
  | defineSets (ln : LinkLine) (tag : Byte) (body : List Byte)
  | defineTransferPump (ln : LinkLine) (tag : Byte) (body : List Byte)
  | setNoticeTrigger (ln : LinkLine) (tag : Byte) (body : List Byte)
  | saveConfiguration (ln : LinkLine) (tag : Byte) (body : List Byte)
  | seedTank (ln : LinkLine) (tag : Byte) (body : List Byte)
  | reseedTank (ln : LinkLine) (tag : Byte) (body : List Byte)
  | tankService (ln : LinkLine) (tag : Byte) (body : List Byte)
  | draw (ln : LinkLine) (tag : Byte) (body : List Byte)
  | cancelDraw (ln : LinkLine) (tag : Byte) (body : List Byte)
  | endDraw (ln : LinkLine) (tag : Byte) (body : List Byte)
  /-- END_DRAW_NON_SPECIFIC (R110): kind 0x4A whose line byte is 0xFF (R184). -/
  | endDrawNonSpecific (ln : LinkLine) (tag : Byte)
  | maskLines (ln : LinkLine) (tag : Byte) (body : List Byte)
  | setRotation (ln : LinkLine) (tag : Byte) (body : List Byte)
  | arbiterMode (ln : LinkLine) (tag : Byte) (body : List Byte)
  | dispatch (ln : LinkLine) (tag : Byte) (body : List Byte)
  | resetLine (ln : LinkLine) (tag : Byte) (body : List Byte)
  | trainMode (ln : LinkLine) (tag : Byte) (body : List Byte)
  | startTrain (ln : LinkLine) (tag : Byte) (body : List Byte)
  | stopTrain (ln : LinkLine) (tag : Byte) (body : List Byte)
  | flushTrain (ln : LinkLine) (tag : Byte) (body : List Byte)
  | resetTrain (ln : LinkLine) (tag : Byte) (body : List Byte)
  | setWaters (ln : LinkLine) (tag : Byte) (body : List Byte)
  | setSupplyFloor (ln : LinkLine) (tag : Byte) (body : List Byte)
  | setAllowance (ln : LinkLine) (tag : Byte) (body : List Byte)
  | startTransfer (ln : LinkLine) (tag : Byte) (body : List Byte)
  | stopTransfer (ln : LinkLine) (tag : Byte) (body : List Byte)
  | startShoreFill (ln : LinkLine) (tag : Byte) (body : List Byte)
  | stopShoreFill (ln : LinkLine) (tag : Byte) (body : List Byte)
  | pressureSetService (ln : LinkLine) (tag : Byte) (body : List Byte)
  | resetPressureSet (ln : LinkLine) (tag : Byte) (body : List Byte)
  /-- UNKNOWN_KIND_REQUEST (R174): a good frame whose kind byte is `kind`. -/
  | unknownKindRequest (ln : LinkLine) (kind tag : Byte) (body : List Byte)
  | frameDiscard (ln : LinkLine)
  | receiverGapTimeout (ln : LinkLine)
  | frameWhileBusy (ln : LinkLine)
  | replySent (ln : LinkLine)
  /-- STORE_WRITE_COMPLETE (R180): whether the read-back sum check holds. -/
  | storeWriteComplete (checkHolds : Bool)
  | authorityChange
  /-- METER_EDGE (R29): the levels of phase A and phase B of channel `m` at the event. -/
  | meterEdge (m : Fin 24) (levelA levelB : Bool)
  /-- FREQUENCY_GATE_END (R44): the gate of input `i` ends with the count `f`. -/
  | frequencyGateEnd (i : Fin 16) (f : Nat)
  /-- INPUT_FAULT_ENTRY (R45): the gate end of count `f` that puts input `i` in FAULT. -/
  | inputFaultEntry (i : Fin 16) (f : Nat)
  /-- INPUT_FAULT_CLEARED (R45): the gate end of count `f` that returns input `i` to GOOD. -/
  | inputFaultCleared (i : Fin 16) (f : Nat)
  | contactAssertion (k : Fin 16)
  | contactRelease (k : Fin 16)
  | drawTimedOut (k : Fin 16)
  | drawStalled (k : Fin 16)
  | drawAges (k : Fin 16)
  | holdTimerExpiry
  | setProved (x : Fin 2)
  | setStartProofFailed (x : Fin 2)
  | setProofLost (x : Fin 2)
  | alternationExpiry
  | primeTimerExpiry (n : Fin 3)
  | rampTimerExpiry (n : Fin 3)
  /-- QUALIFICATION_HOLD_COMPLETE (R140): the gate end of count `f` at input `i` whose reading completes a hold. -/
  | qualificationHoldComplete (i : Fin 16) (f : Nat)
  | divertMaxExpiry (n : Fin 3)
  | productStallExpiry (n : Fin 3)
  | minRunExpiry (n : Fin 3)
  | flushRequest (n : Fin 3)
  | flushWaitExpiry (n : Fin 3)
  | restTimerExpiry (n : Fin 3)
  | reviewTimerExpiry
  | transferStalled
  /-- BYTE_RECEIVED (R172): the byte, and whether its stop bit was good. -/
  | byteReceived (ln : LinkLine) (b : Byte) (stopGood : Bool)
  deriving DecidableEq, Repr

end Sys2Proof
end

