-- ==== Sys2Proof/WellFormed.lean ====
section
/-!
DEFINITION. Which commands can reach the part at all: a body that a frame can carry (at most 198 bytes, spec/11,
section 11.1), a gate count that the last frequency can hold (0 to 65,535, R42), and, for UNKNOWN_KIND_REQUEST, a kind
that is not one of the request kinds (R174). The meanings are total and do not rest on this check.
-/

namespace Sys2Proof

/-- The codes of the request kinds (spec/11, section 11.3). -/
def requestKinds : List Nat :=
  [0x01, 0x02, 0x03, 0x04, 0x05, 0x06, 0x07, 0x08, 0x09, 0x0A, 0x0B, 0x0C, 0x0D, 0x0E, 0x0F] ++
  [0x20, 0x21, 0x22, 0x23, 0x24, 0x25, 0x26, 0x27, 0x28, 0x29, 0x2A, 0x2B, 0x2C, 0x2F] ++
  [0x40, 0x41, 0x42, 0x48, 0x49, 0x4A, 0x4B, 0x4C, 0x4D, 0x4E, 0x4F] ++
  [0x50, 0x51, 0x52, 0x53, 0x54, 0x55, 0x58, 0x59, 0x5A, 0x5B, 0x5C, 0x5D, 0x60, 0x61]

/-- A body that a frame of length at most 200 can carry. -/
def bodyFits (body : List Byte) : Bool := body.length ≤ 198

/-- A count that one gate can hold (R42; DESIGN CHOICE, log 24). -/
def gateCountFits (f : Nat) : Bool := f ≤ 65535

/-- The well-formedness check of a command. -/
def Instr.wf : Instr → Bool
  | .powerOn _ _ _ _ => true
  | .secondTick _ _ _ => true
  | .readStatus _ _ b | .readTank _ _ b | .readMeter _ _ b | .readFrequencyInput _ _ b | .readLine _ _ b
  | .readGroup _ _ b | .readArbiter _ _ b | .readTrain _ _ b | .readSets _ _ b | .readTransfer _ _ b
  | .readLink _ _ b | .fetchNotices _ _ b | .takeSnapshot _ _ b | .readSnapshot _ _ b | .releaseSnapshot _ _ b
  | .defineTank _ _ b | .loadStrapping _ _ b | .defineMeter _ _ b | .defineFrequencyInput _ _ b
  | .defineLines _ _ b | .defineGroup _ _ b | .setSupplyBands _ _ b | .setProductionBands _ _ b
  | .setBalance _ _ b | .defineTrain _ _ b | .defineSets _ _ b | .defineTransferPump _ _ b
  | .setNoticeTrigger _ _ b | .saveConfiguration _ _ b | .seedTank _ _ b | .reseedTank _ _ b
  | .tankService _ _ b | .draw _ _ b | .cancelDraw _ _ b | .endDraw _ _ b | .maskLines _ _ b
  | .setRotation _ _ b | .arbiterMode _ _ b | .dispatch _ _ b | .resetLine _ _ b | .trainMode _ _ b
  | .startTrain _ _ b | .stopTrain _ _ b | .flushTrain _ _ b | .resetTrain _ _ b | .setWaters _ _ b
  | .setSupplyFloor _ _ b | .setAllowance _ _ b | .startTransfer _ _ b | .stopTransfer _ _ b
  | .startShoreFill _ _ b | .stopShoreFill _ _ b | .pressureSetService _ _ b | .resetPressureSet _ _ b => bodyFits b
  | .endDrawNonSpecific _ _ => true
  | .unknownKindRequest _ kind _ b => bodyFits b && !requestKinds.contains kind.toNat
  | .frameDiscard _ | .receiverGapTimeout _ | .frameWhileBusy _ | .replySent _ => true
  | .storeWriteComplete _ | .authorityChange => true
  | .meterEdge _ _ _ => true
  | .frequencyGateEnd _ f | .inputFaultEntry _ f | .inputFaultCleared _ f
  | .qualificationHoldComplete _ f => gateCountFits f
  | .contactAssertion _ | .contactRelease _ | .drawTimedOut _ | .drawStalled _ | .drawAges _ => true
  | .holdTimerExpiry | .setProved _ | .setStartProofFailed _ | .setProofLost _ | .alternationExpiry => true
  | .primeTimerExpiry _ | .rampTimerExpiry _ | .divertMaxExpiry _ | .productStallExpiry _ | .minRunExpiry _ => true
  | .flushRequest _ | .flushWaitExpiry _ | .restTimerExpiry _ | .reviewTimerExpiry | .transferStalled => true
  | .byteReceived _ _ _ => true

end Sys2Proof
end

