-- ==== Sys2Proof/Decode.lean ====
section
/-!
DEFINITION. The table's rows carry no bits ("fields": [] in every row of spec/opcode_table.json, and no match or
mask), so no word spells a command. A command reaches the part as an event or as bytes on a line (BYTE_RECEIVED).
-/

namespace Sys2Proof

/-- The command that a word spells by the table's bits: none, since no row of the table gives bits. -/
def decodeTableWord (_nbits _w : Nat) : Option Instr := none

end Sys2Proof
end

