-- ==== Sys2Proof/Config.lean ====
section
/-!
DEFINITION. What the part fixes, and the FREE VALUES: constants with no body, so that no proof can rest on what
they are. A claim that holds of the model holds whatever they are.
-/

namespace Sys2Proof.Config

/-- Part code and revision of READ STATUS (R182). -/
def partCode : Nat := 740
/-- Revision of READ STATUS (R182). -/
def revision : Nat := 1
/-- The notice queue holds at most 32 notices (R176). -/
def queueCapacity : Nat := 32
/-- The in-service set holds at most 8 draws (R92). -/
def inServiceCapacity : Nat := 8
/-- The start byte of a frame (spec/10, section 10.1). -/
def startByte : Byte := 0xE7

/-- FREE VALUE (DESIGN CHOICE, log 10): how the n-th choice falls that a rule leaves to "either order".
The users take it modulo the number of orders; nothing constrains it. -/
opaque pick : Nat → Nat

/-- FREE VALUE (DESIGN CHOICE, log 13): what `moved` becomes when the exact net (the argument) lies outside the range
-60,000 to 60,000 that R162 gives the field; the manual states no value there. -/
opaque movedOutOfRange : Int → Int

/-- FREE VALUE (DESIGN CHOICE, log 14): the two bytes of READ METER's rate when the exact rate (the argument) does not fit a
signed 16-bit field (R185); the manual states no value there. -/
opaque rateOutOfRange : Int → BitVec 16

end Sys2Proof.Config
end

