-- ==== Sys2Proof/Machine/State.lean ====
section
/-!
DEFINITION. The state of the Eskamp 740 as plain data: one structure for each record the manual gives (spec/01 R1,
02 R25, 03 R42, 04 R59, 05 R79, R82, R83, R91, 07 R122, 08 R136, 09 R158, R162, R168, 10 R172 to R180), the output
pins, the queue of waiting commands, and `State.reset`, power-on with no stored image (R181; DESIGN CHOICE, log 1).
-/

namespace Sys2Proof.Machine

/-! ### Outcomes -/

/-- No command of the part ends in a fault: every trouble is a reply, a notice or a state (INVENTORY.md, "Faults").
The type has no constructor. -/
inductive Fault where
  deriving DecidableEq, Repr

/-- Why a command has no meaning. -/
inductive Refusal where
  /-- Raised by an arm of `exec` whose command has no meaning yet; no arm raises it in this model. Safe: it stops. -/
  | notModelled (mnemonic : String)
  deriving DecidableEq, Repr

/-! ### Shared shapes -/

/-- A running timer with the length it was started with (R138 and the records that name a length; DESIGN CHOICE, log 21). -/
structure Timer where
  count : Nat
  length : Nat
  deriving DecidableEq, Repr

/-- A timer that is not running. -/
def Timer.idle : Timer := ⟨0, 0⟩

/-- A timer started at 0 toward a length. -/
def Timer.start (length : Nat) : Timer := ⟨0, length⟩

/-! ### Tanks (R1 to R4) -/

/-- The side of a tank (R1). -/
inductive Side where
  | port | stbd | centre
  deriving DecidableEq, Repr

/-- The five tank states (R2). -/
inductive TankState where
  | unconfigured | unknown | inService | quarantine | isolated
  deriving DecidableEq, Repr

/-- The states a start state or TANK SERVICE may name (R1, R17). -/
inductive ServiceState where
  | inService | quarantine | isolated
  deriving DecidableEq, Repr

/-- A requested state as a tank state. -/
def ServiceState.toTankState : ServiceState → TankState
  | .inService => .inService
  | .quarantine => .quarantine
  | .isolated => .isolated

/-- The result of the last reconciliation (R1, R54). -/
inductive Agreement where
  | unchecked | agree | disagree
  deriving DecidableEq, Repr

/-- Where a seed came from (R1, R20). -/
inductive SeedOrigin where
  | automatic | seed | reseed
  deriving DecidableEq, Repr

/-- The transfer role of a tank (R15). -/
inductive TransferRole where
  | none | source | dest
  deriving DecidableEq, Repr

/-- A point of a strapping table (R50). -/
structure StrapPoint where
  head : Nat
  volume : Nat
  deriving DecidableEq, Repr

/-- The eight definition fields of a tank (R1). -/
structure TankDef where
  tag : List Byte
  side : Side
  capacity : Nat
  lowMark : Nat
  fillStop : Nat
  tolerance : Nat
  quietTime : Nat
  startState : ServiceState
  deriving DecidableEq, Repr

/-- The default definition of a tank (R4). -/
def TankDef.default : TankDef :=
  { tag := List.replicate 8 0x20, side := .centre, capacity := 500, lowMark := 0, fillStop := 500,
    tolerance := 20, quietTime := 60, startState := .inService }

/-- A tank record (R1). -/
structure Tank where
  defn : TankDef
  strapping : List StrapPoint
  state : TankState
  seeded : Bool
  seedVolume : Nat
  seedOrigin : Option SeedOrigin
  volume : Nat
  unbooked : Word32
  credited : Word32
  debited : Word32
  quietTimer : Nat
  levelHead : Option Nat
  levelVolume : Option Nat
  agreement : Agreement
  duty : Bool
  fillTrains : List (Fin 3)
  transferRole : TransferRole
  shoreTarget : Bool
  deriving DecidableEq, Repr

/-- An unseeded tank of state `st` with a definition and a strapping table, as R4 gives it at power-on. -/
def Tank.fresh (defn : TankDef) (strapping : List StrapPoint) (st : TankState) : Tank :=
  { defn := defn, strapping := strapping, state := st, seeded := false, seedVolume := 0, seedOrigin := none,
    volume := 0, unbooked := 0, credited := 0, debited := 0, quietTimer := 0, levelHead := none, levelVolume := none,
    agreement := .unchecked, duty := false, fillTrains := [], transferRole := .none, shoreTarget := false }

/-- The record of a tank without a definition (R4). -/
def Tank.unconfigured : Tank := Tank.fresh .default [] .unconfigured

/-! ### Meter channels (R25, R26) -/

/-- The counting mode (R25). -/
inductive MeterMode where
  | single | quad1 | quad4
  deriving DecidableEq, Repr

/-- The role of a channel (R25, R33). -/
inductive MeterRole where
  | none | supply | product (n : Fin 3) | transfer | shore | line (k : Fin 16)
  deriving DecidableEq, Repr

/-- The definition of a channel (R25). -/
structure MeterDef where
  mode : MeterMode
  kFactor : Nat
  role : MeterRole
  deriving DecidableEq, Repr

/-- The default definition of a channel (R26). -/
def MeterDef.default : MeterDef := { mode := .single, kFactor := 1, role := .none }

/-- A meter channel record (R25). `completed` holds the ten completed slots, newest first; `phaseA` and `phaseB` are
the phase reference, high as `true`. -/
structure Meter where
  defined : Bool
  defn : MeterDef
  residue : Nat
  netTotal : Word32
  completed : List Int
  openSlot : Int
  phaseA : Bool
  phaseB : Bool
  phaseErrors : Nat
  strayNoticed : Bool
  deriving DecidableEq, Repr

/-- A channel with a definition or the default one, its running fields cleared (R26, R40). -/
def Meter.fresh (defn : Option MeterDef) (phaseA phaseB : Bool) : Meter :=
  { defined := defn.isSome, defn := defn.getD .default, residue := 0, netTotal := 0, completed := List.replicate 10 0,
    openSlot := 0, phaseA := phaseA, phaseB := phaseB, phaseErrors := 0, strayNoticed := false }

/-! ### Frequency inputs (R42, R43) -/

/-- The role of an input (R42). -/
inductive InputRole where
  | none | level (t : Fin 12) | salinity (n : Fin 3)
  deriving DecidableEq, Repr

/-- The fault state of an input (R42, R45). -/
inductive FaultState where
  | good | fault
  deriving DecidableEq, Repr

/-- A frequency input record (R42); the window is oldest first. -/
structure FrequencyInput where
  defined : Bool
  role : InputRole
  lastFrequency : Option Nat
  lastRaw : Option Nat
  fault : FaultState
  outRun : Nat
  inRun : Nat
  window : List Nat
  head : Option Nat
  deriving DecidableEq, Repr

/-- An input with the stored role, or not defined (R43). -/
def FrequencyInput.fresh (role : Option InputRole) : FrequencyInput :=
  { defined := role.isSome, role := role.getD .none, lastFrequency := none, lastRaw := none, fault := .good,
    outRun := 0, inRun := 0, window := [], head := none }

/-! ### Supply Evaluator (R59, R60) -/

/-- The settings of the evaluator that the store saves (R59). -/
structure EvaluatorSettings where
  supplyBands : List Nat
  hysteresis : Nat
  productionBands : List Nat
  productionHysteresis : Nat
  balanceBand : Nat
  balanceLimit : Nat
  reviewPeriod : Nat
  deriving DecidableEq, Repr

/-- The default settings (R60). -/
def EvaluatorSettings.default : EvaluatorSettings :=
  { supplyBands := [500, 400, 300, 220, 150, 100, 50], hysteresis := 20, productionBands := [850, 600, 350],
    productionHysteresis := 50, balanceBand := 500, balanceLimit := 0, reviewPeriod := 900 }

/-- The evaluator record (R59): `reserve` is Q, `capacity` is Cap, `level` is the effective supply level SL. -/
structure Evaluator where
  settings : EvaluatorSettings
  reserve : Nat
  capacity : Nat
  ratio : Option Nat
  computed : Nat
  floor : Nat
  level : Nat
  callCount : Nat
  imbalance : Int
  reviewTimer : Nat
  dutyTank : Option (Fin 12)
  dutyCandidates : List (Fin 12)
  fillCandidates : List (Fin 12)
  deriving DecidableEq, Repr

/-- The evaluator at power-on (R60). -/
def Evaluator.fresh (settings : EvaluatorSettings) : Evaluator :=
  { settings := settings, reserve := 0, capacity := 0, ratio := none, computed := 7, floor := 0, level := 7,
    callCount := 0, imbalance := 0, reviewTimer := 0, dutyTank := none, dutyCandidates := [], fillCandidates := [] }

/-! ### Draw lines, groups and the Arbiter (R79, R82, R83, R91) -/

/-- The source of a line and the origin of a draw (R79, R82). -/
inductive Source where
  | contact | message | flush (n : Fin 3)
  deriving DecidableEq, Repr

/-- The states of a line (R80). -/
inductive LineState where
  | unconfigured | idle | pending | flowing | suspended | releaseWait | fault
  deriving DecidableEq, Repr

/-- The definition fields of a line (R79). -/
structure LineDef where
  group : Fin 6
  flow : Nat
  defaultBatch : Nat
  maxBatch : Nat
  maxDuration : Nat
  stallTime : Nat
  source : Source
  deriving DecidableEq, Repr

/-- The default definition of a line (R79). -/
def LineDef.default : LineDef :=
  { group := 0, flow := 1, defaultBatch := 1, maxBatch := 1, maxDuration := 600, stallTime := 30, source := .message }

/-- A draw record (R82). -/
structure Draw where
  requested : Option Nat
  delivered : Nat
  origin : Source
  wait : Nat
  aged : Bool
  grantSequence : Option Word32
  duration : Nat
  stall : Nat
  suspendedSince : Option Word32
  deriving DecidableEq, Repr

/-- The record of a draw at its registration (R82). -/
def Draw.registered (requested : Option Nat) (origin : Source) : Draw :=
  { requested := requested, delivered := 0, origin := origin, wait := 0, aged := false, grantSequence := none,
    duration := 0, stall := 0, suspendedSince := none }

/-- A line record (R79). `contactClosed` is the contact sample, `asserted` the debounced contact, `masked` the mask. -/
structure DrawLine where
  defined : Bool
  defn : LineDef
  metered : Bool
  contactClosed : Bool
  asserted : Bool
  masked : Bool
  state : LineState
  draw : Option Draw
  deriving DecidableEq, Repr

/-- A line at power-on: IDLE when defined and metered, UNCONFIGURED otherwise (R81, R91). -/
def DrawLine.fresh (defn : Option LineDef) (metered : Bool) : DrawLine :=
  { defined := defn.isSome, defn := defn.getD .default, metered := metered, contactClosed := false, asserted := false,
    masked := false, state := if defn.isSome && metered then .idle else .unconfigured, draw := none }

/-- The saved fields of a group (R83). -/
structure GroupDef where
  admitLevel : Nat
  patience : Nat
  deriving DecidableEq, Repr

/-- A group record (R83); the rotation order is top first. -/
structure Group where
  defn : GroupDef
  rotation : List (Fin 16)
  deriving DecidableEq, Repr

/-- The default admit levels and patiences of G0 to G5 (R83). -/
def GroupDef.defaults : Vector GroupDef 6 :=
  #v[⟨7, 60⟩, ⟨7, 300⟩, ⟨5, 300⟩, ⟨4, 300⟩, ⟨2, 300⟩, ⟨1, 300⟩]

/-- The arbiter mode (R91). -/
inductive ArbiterMode where
  | auto | manual
  deriving DecidableEq, Repr

/-- The supply state (R91, R122). -/
inductive SupplyState where
  | down | up
  deriving DecidableEq, Repr

/-- The Arbiter record (R91). `preemptedNow` is the model's own: the lines preempted at the event being taken, with
the grant sequence each held (R116; DESIGN CHOICE, log 22); it is empty between commands. -/
structure Arbiter where
  pendingList : List (Fin 16)
  inService : List (Fin 16)
  grantCounter : Word32
  mode : ArbiterMode
  levelHeld : Nat
  supplyHeld : SupplyState
  capacityHeld : Nat
  stoppedAt : Option (Fin 16)
  hold : Option Timer
  supplyLossHold : Nat
  preemptedNow : List (Fin 16 × Word32)
  deriving DecidableEq, Repr

/-- The Arbiter at power-on (R91). -/
def Arbiter.fresh (supplyLossHold : Nat) : Arbiter :=
  { pendingList := [], inService := [], grantCounter := 0, mode := .auto, levelHeld := 7, supplyHeld := .down,
    capacityHeld := 0, stoppedAt := none, hold := none, supplyLossHold := supplyLossHold, preemptedNow := [] }

/-! ### Pressure sets (R122, R123) -/

/-- The states of a set (R122). -/
inductive SetState where
  | offLine | idle | starting | running | failed
  deriving DecidableEq, Repr

/-- The saved fields of a set (R122). -/
structure SetDef where
  capacity : Nat
  ratedPower : Nat
  deriving DecidableEq, Repr

/-- A pressure set record (R122). The start timer carries the start proof time in force when the start began (R125). -/
structure PressureSet where
  defn : SetDef
  state : SetState
  proofClosed : Bool
  startTimer : Timer
  lossTimer : Nat
  deriving DecidableEq, Repr

/-- The settings of the plant record of the sets (R122). -/
structure SetSettings where
  reserve : Nat
  startProof : Nat
  changeover : Nat
  alternation : Nat
  deriving DecidableEq, Repr

/-- The plant record of the Pressure Sets with both set records (R122). Set A is 0 and set B is 1. The length of the
alternation timer is the period it counts toward, in hours. -/
structure PressureSets where
  sets : Vector PressureSet 2
  settings : SetSettings
  duty : Fin 2
  supply : SupplyState
  grantCapacity : Nat
  alternationTimer : Option Timer
  deriving DecidableEq, Repr

/-- The Pressure Sets at power-on with the definitions loaded (R123). -/
def PressureSets.fresh (a b : SetDef) (settings : SetSettings) : PressureSets :=
  { sets := #v[⟨a, .idle, false, .idle, 0⟩, ⟨b, .idle, false, .idle, 0⟩], settings := settings,
    duty := if a.capacity > 0 then 0 else 1, supply := .down, grantCapacity := 0,
    alternationTimer := if settings.alternation > 0 then some (.start settings.alternation) else none }

/-! ### Trains (R136, R137) -/

/-- The mode of a train (R136). -/
inductive TrainMode where
  | auto | manual | disabled
  deriving DecidableEq, Repr

/-- The states of a train (R136). -/
inductive TrainState where
  | off | priming | ramping | diverting | producing | flushWait | flushing | fault
  deriving DecidableEq, Repr

/-- The running states (R138). -/
def TrainState.running : TrainState → Bool
  | .priming | .ramping | .diverting | .producing => true
  | .off | .flushWait | .flushing | .fault => false

/-- The stop causes (R143, R153). -/
inductive StopCause where
  | callDropped | hostStop | restricted | shed | noTarget | quality | noProduct | modeDisabled | manualFlush
  deriving DecidableEq, Repr

/-- The fault causes of a train (R146). -/
inductive FaultCause where
  | quality | noProduct | unflushed
  deriving DecidableEq, Repr

/-- A salinity reading (R48). -/
inductive Salinity where
  | ppm (value : Nat) | fault
  deriving DecidableEq, Repr

/-- The definition fields of a train (R136). -/
structure TrainDef where
  ratedPower : Nat
  primeTime : Nat
  rampTime : Nat
  qualificationHold : Nat
  divertMax : Nat
  salinityLimit : Nat
  flushVolume : Nat
  flushWaitMax : Nat
  minRun : Nat
  minRest : Nat
  productStall : Nat
  flushLine : Fin 16
  deriving DecidableEq, Repr

/-- The default definition of a train (R137). -/
def TrainDef.default : TrainDef :=
  { ratedPower := 0, primeTime := 60, rampTime := 30, qualificationHold := 120, divertMax := 900, salinityLimit := 500,
    flushVolume := 150, flushWaitMax := 300, minRun := 900, minRest := 300, productStall := 60, flushLine := 15 }

/-- A train record (R136). `stage` is the prime, ramp or divert max timer of the present stage. -/
structure Train where
  defn : TrainDef
  mode : TrainMode
  state : TrainState
  stopCause : Option StopCause
  faultCause : Option FaultCause
  retry : Bool
  target : Option (Fin 12)
  reading : Salinity
  stage : Option Timer
  qualification : Timer
  stall : Timer
  runTimer : Nat
  startedAt : Word32
  producingSince : Option Word32
  rest : Option Timer
  flushRemaining : Nat
  flushPlaced : Bool
  flushWait : Timer
  runningSeconds : Word32
  produced : Word32
  diverted : Word32
  deriving DecidableEq, Repr

/-- A train at power-on (R137; the fields R137 does not list; DESIGN CHOICE, log 2). -/
def Train.fresh (defn : TrainDef) : Train :=
  { defn := defn, mode := .auto, state := .off, stopCause := none, faultCause := none, retry := false, target := none,
    reading := .fault, stage := none, qualification := .idle, stall := .idle, runTimer := 0, startedAt := 0,
    producingSince := none, rest := none, flushRemaining := 0, flushPlaced := false, flushWait := .idle,
    runningSeconds := 0, produced := 0, diverted := 0 }

/-- The waters state (R136, R150). -/
inductive Waters where
  | restricted | opened
  deriving DecidableEq, Repr

/-! ### Transfer and Shore Unit, Power Allowance (R158, R162, R168) -/

/-- The origin of a transfer (R162). -/
inductive TransferOrigin where
  | host | balance
  deriving DecidableEq, Repr

/-- The causes of a transfer's end, in the code order of R186. -/
inductive TransferCause where
  | complete | sourceLow | destFull | stopped | stalled | abortedTank | shed
  deriving DecidableEq, Repr

/-- The causes of a shore fill's end, in the code order of R186. -/
inductive ShoreCause where
  | complete | full | stopped | abortedTank
  deriving DecidableEq, Repr

/-- The fields of the transfer record that are present while a transfer runs (R162). -/
structure TransferRun where
  origin : TransferOrigin
  source : Fin 12
  dest : Fin 12
  litres : Nat
  deriving DecidableEq, Repr

/-- The last end of a transfer (R162). -/
structure TransferEnd where
  cause : TransferCause
  source : Fin 12
  dest : Fin 12
  moved : Int
  deriving DecidableEq, Repr

/-- The saved settings of the transfer pump (R162). -/
structure PumpDef where
  ratedPower : Nat
  stallTime : Nat
  deriving DecidableEq, Repr

/-- The transfer record (R162); `run` is present exactly while a transfer runs. -/
structure TransferRecord where
  pump : PumpDef
  run : Option TransferRun
  moved : Int
  stall : Timer
  lastEnd : Option TransferEnd
  deriving DecidableEq, Repr

/-- The target and the litres of an active shore fill; 0 litres means until full (R168). -/
structure ShoreRun where
  target : Fin 12
  litres : Nat
  deriving DecidableEq, Repr

/-- The last end of a shore fill (R168). -/
structure ShoreEnd where
  cause : ShoreCause
  target : Fin 12
  filled : Int
  deriving DecidableEq, Repr

/-- The shore fill record (R168); `run` is present exactly while a fill is active; `filled` is exact (DESIGN CHOICE, log 31). -/
structure ShoreRecord where
  run : Option ShoreRun
  filled : Int
  lastEnd : Option ShoreEnd
  deriving DecidableEq, Repr

/-- A holder of headroom (R158). -/
inductive Holder where
  | train (n : Fin 3) | pump
  deriving DecidableEq, Repr

/-- The Power Allowance record (R158); the committed load and the effective allowance are derived (Machine/Flags.lean). -/
structure PowerRecord where
  allowance : Nat
  holders : List Holder
  deriving DecidableEq, Repr

/-! ### Notices (R176, R186) -/

/-- Causes of TANK_STATE in code order (R19, R186). -/
inductive TankCause where
  | defined | redefined | undefined | service | autoSeed | seed | reseed
  deriving DecidableEq, Repr

/-- Causes of DUTY_CHANGED in code order; the first two are those of NO_SUPPLY (R68, R69, R186). -/
inductive DutyCause where
  | low | leftService | appeared | review
  deriving DecidableEq, Repr

/-- Causes of SUPPLY_LEVEL in code order (R63, R186). -/
inductive LevelCause where
  | reserve | bands | floor
  deriving DecidableEq, Repr

/-- Causes of a draw's end in the code order of DRAW_ENDED (R106, R186). -/
inductive EndCause where
  | complete | ended | cancelled | timedOut | stalled | supplyLost
  deriving DecidableEq, Repr

/-- Causes of LINE_FAULT in code order (R107, R186). -/
inductive LineFaultCause where
  | timedOut | stalled
  deriving DecidableEq, Repr

/-- Causes of SET_FAILED in code order (R186). -/
inductive SetFailCause where
  | startProof | proofLost
  deriving DecidableEq, Repr

/-- Causes of SET_CHANGEOVER in code order (R124, R129, R186). -/
inductive ChangeoverCause where
  | proofFailed | proofLost | service | recovery | alternation
  deriving DecidableEq, Repr

/-- Causes of SHED in code order (R161, R186). -/
inductive ShedCause where
  | allowance | setReserve
  deriving DecidableEq, Repr

/-- Causes of STRAY_FLOW in code order (R38, R186). -/
inductive StrayCause where
  | supply | transfer | shore | line
  deriving DecidableEq, Repr

/-- The kind, subject, cause and value of a notice, by kind (R186). -/
inductive NoticeBody where
  | tankState (t : Fin 12) (cause : TankCause) (state : TankState)
  | disagree (t : Fin 12) (entered : Bool) (difference : Int)
  | levelFault (i : Fin 16) (entered : Bool) (frequency : Nat)
  | dutyChanged (t : Fin 12) (cause : DutyCause) (previous : Option (Fin 12))
  | noSupply (t : Fin 12) (cause : DutyCause) (reserve : Nat)
  | supplyLevel (cause : LevelCause) (level : Nat)
  | drawEnded (k : Fin 16) (cause : EndCause) (delivered : Nat)
  | aged (k : Fin 16) (group : Fin 6) (wait : Nat)
  | lineFault (k : Fin 16) (cause : LineFaultCause) (delivered : Nat)
  | setFailed (x : Fin 2) (cause : SetFailCause) (timer : Nat)
  | setChangeover (x : Fin 2) (cause : ChangeoverCause) (previous : Fin 2)
  | trainFault (n : Fin 3) (cause : FaultCause) (remaining : Nat)
  | transferEnded (source : Fin 12) (cause : TransferCause) (moved : Int)
  | shoreEnded (target : Fin 12) (cause : ShoreCause) (filled : Int)
  | shed (holder : Holder) (cause : ShedCause) (effective : Nat)
  | strayFlow (m : Fin 24) (cause : StrayCause) (total : Word32)
  | saveDone
  | saveFailed
  | configDefaulted
  deriving DecidableEq, Repr

/-- A notice: the seconds since power-on at the event that posted it, and what it says (R176). -/
structure Notice where
  time : Word32
  body : NoticeBody
  deriving DecidableEq, Repr

/-! ### Message Link (R172 to R180) -/

/-- The state of a receiver; `kept` holds the bytes kept in BODY in the order received (R172). -/
inductive Receiver where
  | hunt
  | length
  | body (n : Nat) (kept : List Byte)
  | check (n : Nat) (kept : List Byte)
  deriving DecidableEq, Repr

/-- One serial line. `reply` holds the bytes of the reply frame being sent, empty when none is (DESIGN CHOICE, log 18). -/
structure SerialLine where
  receiver : Receiver
  discards : Nat
  busy : Bool
  reply : List Byte
  deriving DecidableEq, Repr

/-- A serial line at power-on (R172, R181). -/
def SerialLine.fresh : SerialLine := { receiver := .hunt, discards := 0, busy := false, reply := [] }

/-- The figures of one tank in the snapshot (R179). -/
structure TankFigures where
  volume : Nat
  levelVolume : Option Nat
  trusted : Nat
  deriving DecidableEq, Repr

/-- A latched snapshot image (R179). -/
structure Snapshot where
  time : Word32
  tanks : Vector TankFigures 12
  netTotals : Vector Word32 24
  strayTotal : Word32
  deriving DecidableEq, Repr

/-- A saved tank: its definition and its strapping table (R4, R180). -/
structure SavedTank where
  defn : TankDef
  strapping : List StrapPoint
  deriving DecidableEq, Repr

/-- The image of the configuration store (spec/10, section 10.6). -/
structure Image where
  tanks : Vector (Option SavedTank) 12
  meters : Vector (Option MeterDef) 24
  inputs : Vector (Option InputRole) 16
  lines : Vector (Option LineDef) 16
  groups : Vector GroupDef 6
  evaluator : EvaluatorSettings
  trains : Vector TrainDef 3
  setA : SetDef
  setB : SetDef
  setSettings : SetSettings
  supplyLossHold : Nat
  pump : PumpDef
  trigger : Nat
  deriving DecidableEq, Repr

/-- The defaults loaded when the stored image is missing or fails its check (R181). -/
def Image.defaults : Image :=
  { tanks := Vector.replicate 12 none, meters := Vector.replicate 24 none, inputs := Vector.replicate 16 none,
    lines := Vector.replicate 16 none, groups := GroupDef.defaults, evaluator := .default,
    trains := Vector.replicate 3 .default, setA := ⟨0, 0⟩, setB := ⟨0, 0⟩, setSettings := ⟨0, 15, 8, 24⟩,
    supplyLossHold := 30, pump := ⟨0, 60⟩, trigger := 1 }

/-- The result of the last completed store write (R182). -/
inductive LastWrite where
  | none | done | failed
  deriving DecidableEq, Repr

/-- The Message Link. `localSample` is LOCAL at the last tick, `localAsserted` its debounced state (R174); `stored` is
the image of the configuration store, `writing` that of a store write in flight (R180). -/
structure Link where
  lineA : SerialLine
  lineB : SerialLine
  localSample : Bool
  localAsserted : Bool
  queue : List Notice
  overflow : Bool
  trigger : Nat
  snapshot : Option Snapshot
  stored : Option Image
  writing : Option Image
  lastWrite : LastWrite
  deriving DecidableEq, Repr

/-! ### Output pins -/

/-- The output pins of the part (spec/00_scope.md, "Field connections"): `true` is on, open or asserted. -/
structure Outputs where
  outlet : Vector Bool 12
  inlet : Vector Bool 12
  suction : Vector Bool 12
  lineValve : Vector Bool 16
  feedPump : Vector Bool 3
  hpPump : Vector Bool 3
  divertValve : Vector Bool 3
  productValve : Vector Bool 3
  setRun : Vector Bool 2
  transferPump : Bool
  shoreValve : Bool
  attn : Bool
  deriving DecidableEq, Repr

/-- Every output off, closed or released (R4, R79, R123, R137, R162, R168). -/
def Outputs.off : Outputs :=
  { outlet := Vector.replicate 12 false, inlet := Vector.replicate 12 false, suction := Vector.replicate 12 false,
    lineValve := Vector.replicate 16 false, feedPump := Vector.replicate 3 false, hpPump := Vector.replicate 3 false,
    divertValve := Vector.replicate 3 false, productValve := Vector.replicate 3 false,
    setRun := Vector.replicate 2 false, transferPump := false, shoreValve := false, attn := false }

/-! ### Events of a tick -/

/-- The events a tick brings about at the units (DESIGN CHOICE, log 5). Each is taken by the command of its row. -/
inductive Due where
  | contactAssertion (k : Fin 16)
  | contactRelease (k : Fin 16)
  | authorityChange
  | drawTimedOut (k : Fin 16)
  | drawStalled (k : Fin 16)
  | drawAges (k : Fin 16)
  | holdExpiry
  | setProved (x : Fin 2)
  | setStartProofFailed (x : Fin 2)
  | setProofLost (x : Fin 2)
  | alternation
  | prime (n : Fin 3)
  | ramp (n : Fin 3)
  | divertMax (n : Fin 3)
  | productStall (n : Fin 3)
  | minRun (n : Fin 3)
  | flushRequest (n : Fin 3)
  | flushWait (n : Fin 3)
  | rest (n : Fin 3)
  | review
  | transferStall
  deriving DecidableEq, Repr

/-! ### The whole state -/

/-- The state of the Eskamp 740 and the queue of the commands that wait for it. -/
structure State where
  now : Word32
  tanks : Vector Tank 12
  meters : Vector Meter 24
  strayTotal : Word32
  inputs : Vector FrequencyInput 16
  eval : Evaluator
  lines : Vector DrawLine 16
  groups : Vector Group 6
  arb : Arbiter
  sets : PressureSets
  trains : Vector Train 3
  waters : Waters
  startOrder : List (Fin 3)
  transfer : TransferRecord
  shore : ShoreRecord
  power : PowerRecord
  link : Link
  out : Outputs
  due : List Due
  choices : Nat
  pending : List Instr
  deriving DecidableEq, Repr

/-- The machine right after reset: power-on with no stored image, so the defaults are loaded and CONFIG_DEFAULTED is the
one notice, which asserts ATTN (R181); meter phases low and LOCAL released (DESIGN CHOICE, log 1). -/
def State.reset : State :=
  { now := 0
    tanks := Vector.replicate 12 .unconfigured
    meters := Vector.replicate 24 (.fresh none false false)
    strayTotal := 0
    inputs := Vector.replicate 16 (.fresh none)
    eval := .fresh .default
    lines := Vector.replicate 16 (.fresh none false)
    groups := #v[⟨⟨7, 60⟩, []⟩, ⟨⟨7, 300⟩, []⟩, ⟨⟨5, 300⟩, []⟩, ⟨⟨4, 300⟩, []⟩, ⟨⟨2, 300⟩, []⟩, ⟨⟨1, 300⟩, []⟩]
    arb := .fresh 30
    sets := .fresh ⟨0, 0⟩ ⟨0, 0⟩ ⟨0, 15, 8, 24⟩
    trains := Vector.replicate 3 (.fresh .default)
    waters := .restricted
    startOrder := [0, 1, 2]
    transfer := ⟨⟨0, 60⟩, none, 0, .idle, none⟩
    shore := ⟨none, 0, none⟩
    power := ⟨0, []⟩
    link := ⟨.fresh, .fresh, false, false, [⟨0, .configDefaulted⟩], false, 1, none, none, none, .none⟩
    out := { Outputs.off with attn := true }
    due := []
    choices := 0
    pending := [] }

end Sys2Proof.Machine
end

