-- ==== Sys2Proof/Machine/Ops.lean ====
section
/-!
DEFINITION. Named operations over the state: updating one record, posting a notice (R176), taking a free choice
(DESIGN CHOICE, log 10), taking an event of the last tick (DESIGN CHOICE, log 5), and 32-bit arithmetic of the accounts.
-/

namespace Sys2Proof.Machine

/-! ### Indices -/

/-- The tanks in ascending index. -/
def allTanks : List (Fin 12) := List.finRange 12
/-- The meter channels in ascending index. -/
def allMeters : List (Fin 24) := List.finRange 24
/-- The frequency inputs in ascending index. -/
def allInputs : List (Fin 16) := List.finRange 16
/-- The draw lines in ascending index. -/
def allLines : List (Fin 16) := List.finRange 16
/-- The groups in ascending index. -/
def allGroups : List (Fin 6) := List.finRange 6
/-- The trains in ascending index. -/
def allTrains : List (Fin 3) := List.finRange 3
/-- The pressure sets, A then B. -/
def allSets : List (Fin 2) := List.finRange 2

/-! ### Updating one record -/

/-- Replaces the element at one index by a function of it. -/
def upd {α : Type} {n : Nat} (v : Vector α n) (i : Fin n) (f : α → α) : Vector α n :=
  v.set i.val (f v[i]) i.isLt

/-- Applies a function to every element, with its index. -/
def updAll {α β : Type} {n : Nat} (v : Vector α n) (f : Fin n → α → β) : Vector β n :=
  Vector.ofFn fun i => f i v[i]

/-- Changes one tank record. -/
def State.modTank (s : State) (t : Fin 12) (f : Tank → Tank) : State := { s with tanks := upd s.tanks t f }
/-- Changes one meter channel record. -/
def State.modMeter (s : State) (m : Fin 24) (f : Meter → Meter) : State := { s with meters := upd s.meters m f }
/-- Changes one frequency input record. -/
def State.modInput (s : State) (i : Fin 16) (f : FrequencyInput → FrequencyInput) : State :=
  { s with inputs := upd s.inputs i f }
/-- Changes one line record. -/
def State.modLine (s : State) (k : Fin 16) (f : DrawLine → DrawLine) : State := { s with lines := upd s.lines k f }
/-- Changes one group record. -/
def State.modGroup (s : State) (g : Fin 6) (f : Group → Group) : State := { s with groups := upd s.groups g f }
/-- Changes one train record. -/
def State.modTrain (s : State) (n : Fin 3) (f : Train → Train) : State := { s with trains := upd s.trains n f }
/-- Changes one pressure set record. -/
def State.modSet (s : State) (x : Fin 2) (f : PressureSet → PressureSet) : State :=
  { s with sets := { s.sets with sets := upd s.sets.sets x f } }
/-- Changes the Arbiter record. -/
def State.modArb (s : State) (f : Arbiter → Arbiter) : State := { s with arb := f s.arb }
/-- Changes the evaluator record. -/
def State.modEval (s : State) (f : Evaluator → Evaluator) : State := { s with eval := f s.eval }
/-- Changes the link record. -/
def State.modLink (s : State) (f : Link → Link) : State := { s with link := f s.link }

/-- The record of a serial line. -/
def Link.serial (l : Link) : LinkLine → SerialLine
  | .a => l.lineA
  | .b => l.lineB

/-- Changes the record of a serial line. -/
def State.modSerial (s : State) (ln : LinkLine) (f : SerialLine → SerialLine) : State :=
  match ln with
  | .a => { s with link := { s.link with lineA := f s.link.lineA } }
  | .b => { s with link := { s.link with lineB := f s.link.lineB } }

/-! ### Counting -/

/-- Adds `d` and stops at the end of a range (conventions, "saturating"). -/
def satAdd (limit x d : Nat) : Nat := min limit (x + d)

/-- One tick of a running timer: it counts up to its length and waits there for its expiry to be taken (DESIGN CHOICE, log 5). -/
def Timer.tick (t : Timer) : Timer := { t with count := if t.count < t.length then t.count + 1 else t.count }

/-- Whether a timer has reached its length. -/
def Timer.expired (t : Timer) : Bool := t.length ≤ t.count

/-- Adds a litre's sign to a 32-bit wrapping total (R31, R38). -/
def addSign (x : Word32) (forward : Bool) : Word32 := if forward then x + 1 else x - 1

/-- A litre's sign as an integer. -/
def signOf (forward : Bool) : Int := if forward then 1 else -1

/-! ### Notices -/

/-- Posts a notice at the present second; a full queue discards it and sets the overflow flag (R176). -/
def post (n : NoticeBody) (s : State) : State :=
  if s.link.queue.length < Config.queueCapacity then
    { s with link := { s.link with queue := s.link.queue ++ [⟨s.now, n⟩] } }
  else
    { s with link := { s.link with overflow := true } }

/-! ### Free choices and events of a tick -/

/-- Takes the next free choice among `n` orders (DESIGN CHOICE, log 10). -/
def takeChoice (n : Nat) (s : State) : Nat × State :=
  (Config.pick s.choices % n, { s with choices := s.choices + 1 })

/-- Takes an event of the last tick: with the event due and still true of the state (`still`), it is removed and the
effect happens; otherwise the event finds nothing and changes nothing (DESIGN CHOICE, logs 5 and 6). -/
def takeDue (d : Due) (still : State → Bool) (effect : State → State) (s : State) : State :=
  if s.due.contains d && still s then effect { s with due := s.due.erase d } else s

/-! ### Meter activation -/

/-- The owner of a role hands its activation to the channel: the stray spell ends (R38). -/
def activateRole (r : MeterRole) (s : State) : State :=
  { s with meters := updAll s.meters fun _ m => if m.defined && m.defn.role == r then { m with strayNoticed := false } else m }

end Sys2Proof.Machine
end

