-- ==== Sys2Proof/Machine/Flags.lean ====
section
/-!
DEFINITION. The derived conditions and values of the manual: trusted volume, fill measure (R55), LOW, FULL (R14), quiet
(R12), whether a meter role is active (R33), free capacity and fitting (R96), usable sets (R124), headroom (R158, R159),
the trains' counts (R148), ATTN (R177), and the output pins (R16, R79, R122, R138, R162, R168).
-/

namespace Sys2Proof.Machine

/-! ### Tanks -/

/-- Whether the tank has a definition (R2). -/
def Tank.defined (k : Tank) : Bool := k.state != .unconfigured

/-- The trusted volume (R55). -/
def Tank.trusted (k : Tank) : Nat :=
  match k.agreement, k.levelVolume with
  | .disagree, some lv => min k.volume lv
  | _, _ => k.volume

/-- The fill measure (R55). -/
def Tank.fillMeasure (k : Tank) : Nat :=
  match k.levelVolume with
  | some lv => max k.volume lv
  | none => k.volume

/-- LOW: the trusted volume of a defined tank is at or below its low mark (R14). An UNCONFIGURED tank is reported not LOW in
READ TANK (DESIGN CHOICE, log 32). -/
def Tank.low (k : Tank) : Bool := k.defined && k.trusted ≤ k.defn.lowMark

/-- FULL: the fill measure of a defined tank is at or above its fill stop mark (R14). -/
def Tank.full (k : Tank) : Bool := k.defined && k.defn.fillStop ≤ k.fillMeasure

/-- Quiet: the quiet timer of a defined tank is at or past its quiet time (R12). -/
def Tank.quiet (k : Tank) : Bool := k.defined && k.defn.quietTime ≤ k.quietTimer

/-- The tank holds a role: the BUSY condition of DEFINE TANK and LOAD STRAPPING (R5, R50). -/
def Tank.holdsRole (k : Tank) : Bool :=
  k.duty || !k.fillTrains.isEmpty || k.transferRole != .none || k.shoreTarget

/-- A duty candidate: IN_SERVICE and not LOW (R59). -/
def Tank.dutyCandidate (k : Tank) : Bool := k.state == .inService && !k.low

/-- A fill candidate: IN_SERVICE and not FULL (R59). -/
def Tank.fillCandidate (k : Tank) : Bool := k.state == .inService && !k.full

/-! ### Meters -/

/-- Whether a role is active (R33). -/
def roleActive (r : MeterRole) (s : State) : Bool :=
  match r with
  | .none => false
  | .supply => s.eval.dutyTank.isSome
  | .product _ => true
  | .transfer => s.transfer.run.isSome
  | .shore => s.shore.run.isSome
  | .line k => s.lines[k].state == .flowing

/-- Whether the operation a role feeds is in flight (R39). -/
def roleBusy (r : MeterRole) (s : State) : Bool :=
  match r with
  | .none | .supply => false
  | .product n => s.trains[n].state == .producing
  | .transfer => s.transfer.run.isSome
  | .shore => s.shore.run.isSome
  | .line k => s.lines[k].state == .pending || s.lines[k].state == .flowing || s.lines[k].state == .suspended

/-- The rate of a channel in litres per minute (R32). -/
def Meter.rate (m : Meter) : Int := m.completed.sum * 6

/-! ### The Arbiter -/

/-- The group of a line. -/
def groupOf (s : State) (k : Fin 16) : Fin 6 := s.lines[k].defn.group

/-- The nominal flow of a line. -/
def flowOf (s : State) (k : Fin 16) : Nat := s.lines[k].defn.flow

/-- Whether a line is FLOWING. -/
def isFlowing (s : State) (k : Fin 16) : Bool := s.lines[k].state == .flowing

/-- The sum of the nominal flows of some lines. -/
def flowSum (s : State) (ks : List (Fin 16)) : Nat := (ks.map (flowOf s)).sum

/-- The sum of the nominal flows of the FLOWING draws (R96). -/
def flowingFlow (s : State) : Nat := flowSum s (allLines.filter (isFlowing s))

/-- The free capacity (R96). -/
def freeCapacity (s : State) : Nat := s.arb.capacityHeld - flowingFlow s

/-- The level condition of R96: the group is G0, or its admit level is at least the supply level held. -/
def levelAdmits (s : State) (k : Fin 16) : Bool :=
  groupOf s k == 0 || s.arb.levelHeld ≤ s.groups[groupOf s k].defn.admitLevel

/-- Admissible: PENDING, unmasked and admitted by level (R96). -/
def admissible (s : State) (k : Fin 16) : Bool :=
  s.lines[k].state == .pending && !s.lines[k].masked && levelAdmits s k

/-- Fits: fewer than 8 draws in service and a nominal flow within the free capacity (R96); worked out for any line, though
R96 speaks of an admissible one (DESIGN CHOICE, log 34). -/
def fits (s : State) (k : Fin 16) : Bool :=
  s.arb.inService.length < Config.inServiceCapacity && flowOf s k ≤ freeCapacity s

/-- The in-service draws in rank order, highest-ranked first: group ascending, then grant order (R92). -/
def rankOrder (s : State) : List (Fin 16) :=
  allGroups.flatMap fun g => s.arb.inService.filter fun k => groupOf s k == g

/-! ### Pressure sets -/

/-- Usable: a capacity above 0 and a state IDLE, STARTING or RUNNING (R124). -/
def PressureSet.usable (p : PressureSet) : Bool :=
  0 < p.defn.capacity && (p.state == .idle || p.state == .starting || p.state == .running)

/-- The set that is not duty. -/
def otherSet (x : Fin 2) : Fin 2 := if x = 0 then 1 else 0

/-! ### Power -/

/-- The set reserve: the larger of the two sets' rated powers (R158). -/
def setReserve (s : State) : Nat := max s.sets.sets[0].defn.ratedPower s.sets.sets[1].defn.ratedPower

/-- The effective allowance: the allowance less the set reserve, not below 0 (R158). -/
def effectiveAllowance (s : State) : Nat := s.power.allowance - setReserve s

/-- The rated power of a holder. -/
def holderPower (s : State) : Holder → Nat
  | .train n => s.trains[n].defn.ratedPower
  | .pump => s.transfer.pump.ratedPower

/-- The committed load: the sum of the rated powers of the holders (R158). -/
def committedLoad (s : State) : Nat := (s.power.holders.map (holderPower s)).sum

/-- The headroom check for a rated power (R159). -/
def headroomGranted (s : State) (p : Nat) : Bool := committedLoad s + p ≤ effectiveAllowance s

/-! ### Trains -/

/-- A train is rested while its rest timer is absent (R136). -/
def Train.rested (w : Train) : Bool := w.rest.isNone

/-- A train in PRIMING or RAMPING (R147). -/
def someTrainStarting (s : State) : Bool :=
  allTrains.any fun n => s.trains[n].state == .priming || s.trains[n].state == .ramping

/-- The count A: the AUTO trains in the running states (R148). -/
def autoRunning (s : State) : Nat :=
  (allTrains.filter fun n => s.trains[n].mode == .auto && s.trains[n].state.running).length

/-- Whether a line carries source FLUSH of a train (R90, R156). -/
def flushLineValid (s : State) (n : Fin 3) : Bool :=
  s.lines[s.trains[n].defn.flushLine].defined && s.lines[s.trains[n].defn.flushLine].defn.source == .flush n

/-! ### Link -/

/-- The line that holds authority: Line B while the debounced LOCAL is asserted (R174). -/
def authority (s : State) : LinkLine := if s.link.localAsserted then .b else .a

/-- The urgent kinds (R177). -/
def NoticeBody.urgent : NoticeBody → Bool
  | .noSupply _ _ _ | .setFailed _ _ _ | .trainFault _ _ _ | .lineFault _ _ _ => true
  | _ => false

/-- ATTN (R177). -/
def attn (s : State) : Bool :=
  decide (s.link.trigger ≤ s.link.queue.length) || s.link.queue.any fun n => n.body.urgent

/-! ### Output pins -/

/-- The outputs as the rules give them from the state. -/
def outputsOf (s : State) : Outputs where
  outlet := updAll s.tanks fun _ k => k.duty
  inlet := updAll s.tanks fun _ k =>
    k.fillTrains.any (fun n => s.trains[n].state == .producing) || k.transferRole == .dest || k.shoreTarget
  suction := updAll s.tanks fun _ k => k.transferRole == .source
  lineValve := updAll s.lines fun _ l => l.state == .flowing
  feedPump := updAll s.trains fun _ w => w.state.running
  hpPump := updAll s.trains fun _ w => w.state == .ramping || w.state == .diverting || w.state == .producing
  divertValve := updAll s.trains fun _ w => w.state == .priming || w.state == .ramping || w.state == .diverting
  productValve := updAll s.trains fun _ w => w.state == .producing
  setRun := updAll s.sets.sets fun _ p => p.state == .starting || p.state == .running
  transferPump := s.transfer.run.isSome
  shoreValve := s.shore.run.isSome
  attn := attn s

/-- The end of a step: the output pins follow the state, and the list of lines preempted at the event is cleared
(DEDUCED, log 20; DESIGN CHOICE, log 22). -/
def finish (s : State) : State :=
  { s with out := outputsOf s, arb := { s.arb with preemptedNow := [] } }

/-- The answer of a command: the next state at the end of its step. -/
def done (s : State) : Host.Outcome State Fault Refusal := .next (finish s)

end Sys2Proof.Machine
end

