-- ==== Sys2Proof/Machine/Grants.lean ====
section
/-!
DEFINITION. The shared operations of the Draw Arbiter: rotation orders and the pending list (R91, R93), grant (R99),
preemption (R115, R116), the grant pass (R98), registration (R88 to R90), and what the Arbiter does with a new supply
state, grant capacity or supply level (R97, R117, R119, R120). A change of a flush draw is handed to its train (R113).
-/

namespace Sys2Proof.Machine

/-! ### Lists -/

/-- The pending list as the states and the rotation orders give it: group ascending, then place in the order (R91). -/
def priorityOrder (s : State) : List (Fin 16) :=
  allGroups.flatMap fun g => s.groups[g].rotation.filter fun k => s.lines[k].state == .pending

/-- The pending list takes the present priority order (R91). -/
def refreshPending (s : State) : State := s.modArb fun a => { a with pendingList := priorityOrder s }

/-- Moves a line to the bottom of an order (R93). -/
def toBottom (k : Fin 16) (order : List (Fin 16)) : List (Fin 16) := order.filter (· != k) ++ [k]

/-- Moves lines, in their order, to the top of an order (R93, R116). -/
def toTop (ks order : List (Fin 16)) : List (Fin 16) := ks ++ order.filter fun k => !ks.contains k

/-- Changes the draw record of a line. -/
def State.modDraw (s : State) (k : Fin 16) (f : Draw → Draw) : State :=
  s.modLine k fun l => { l with draw := l.draw.map f }

/-- The origin of a line's draw (R82); a line without a record has none to hand to a train. -/
def drawOrigin (s : State) (k : Fin 16) : Option Source := s.lines[k].draw.map (·.origin)

/-! ### Hand-overs to trains that are whole in the train record (R113, R145, R146) -/

/-- GRANTED: FLUSH_WAIT enters FLUSHING; FAULT with a placed flush enters FLUSHING with retry yes. -/
def trainGranted (n : Fin 3) (s : State) : State :=
  s.modTrain n fun w =>
    match w.state with
    | .flushWait => { w with state := .flushing, flushWait := .idle }
    | .fault => if w.flushPlaced then { w with state := .flushing, retry := true, flushWait := .idle } else w
    | _ => w

/-- PREEMPTED: FLUSHING enters FLUSH_WAIT with flush placed yes and the wait timer started again. -/
def trainPreempted (n : Fin 3) (s : State) : State :=
  s.modTrain n fun w =>
    match w.state with
    | .flushing => { w with state := .flushWait, flushPlaced := true, flushWait := .start w.defn.flushWaitMax }
    | _ => w

/-- Hands a change of a line's draw to its train, when the draw is of origin FLUSH(n) (R113). -/
def handToTrain (origin : Option Source) (f : Fin 3 → State → State) (s : State) : State :=
  match origin with
  | some (.flush n) => f n s
  | _ => s

/-! ### Grant (R99) -/

/-- Grants a PENDING line (R99, R92, R93, R38). -/
def grant (k : Fin 16) (s : State) : State :=
  let seq := s.arb.grantCounter + 1
  let s1 := s.modLine k fun l =>
    { l with state := .flowing, draw := l.draw.map fun d => { d with grantSequence := some seq, duration := 0, stall := 0 } }
  let s2 := s1.modArb fun a =>
    { a with grantCounter := seq, inService := a.inService ++ [k], preemptedNow := a.preemptedNow.filter (·.1 != k) }
  let s3 := refreshPending (s2.modGroup (groupOf s k) fun g => { g with rotation := toBottom k g.rotation })
  handToTrain (drawOrigin s k) trainGranted (activateRole (.line k) s3)

/-! ### Preemption (R115, R116) -/

/-- Inserts a preempted draw among those of the same event, the earliest granted first; `counter` is the grant counter,
so that sequence numbers are compared as the order of joining through a wrap (R92). -/
def insertByGrant (counter : Word32) (e : Fin 16 × Word32) : List (Fin 16 × Word32) → List (Fin 16 × Word32)
  | [] => [e]
  | x :: xs =>
    if (counter - x.2).toNat < (counter - e.2).toNat then e :: x :: xs else x :: insertByGrant counter e xs

/-- Takes a draw in service back to PENDING (R116). Draws of one group preempted at one event stand together at the top
of the group's order, the earliest granted at the top. -/
def preempt (k : Fin 16) (s : State) : State :=
  let seq := (s.lines[k].draw.bind (·.grantSequence)).getD 0
  let now := insertByGrant s.arb.grantCounter (k, seq) (s.arb.preemptedNow.filter (·.1 != k))
  let tops := (now.map (·.1)).filter fun j => groupOf s j == groupOf s k
  let s1 := s.modLine k fun l =>
    { l with state := .pending,
             draw := l.draw.map fun d => { d with wait := 0, aged := false, grantSequence := none, suspendedSince := none } }
  let s2 := s1.modArb fun a => { a with inService := a.inService.filter (· != k), preemptedNow := now }
  let s3 := refreshPending (s2.modGroup (groupOf s k) fun g => { g with rotation := toTop tops g.rotation })
  handToTrain (drawOrigin s k) trainPreempted s3

/-- Preempts the lines of a list in turn while a state is not yet as wanted. -/
def preemptUntil (enough : State → Bool) : List (Fin 16) → State → State
  | [], s => s
  | k :: ks, s => if enough s then s else preemptUntil enough ks (preempt k s)

/-- The FLOWING draws, lowest-ranked first (R115, R120). -/
def flowingLowestFirst (s : State) : List (Fin 16) := ((rankOrder s).filter (isFlowing s)).reverse

/-- The preemptible draws of R115, lowest-ranked first: the FLOWING draws of G1 to G5. -/
def preemptible (s : State) : List (Fin 16) := (flowingLowestFirst s).filter fun k => groupOf s k != 0

/-- Whether room can be made for a G0 line (R115). -/
def roomCanBeMade (s : State) (k : Fin 16) : Bool :=
  flowOf s k ≤ freeCapacity s + flowSum s (preemptible s) &&
    s.arb.inService.length - (preemptible s).length < Config.inServiceCapacity

/-- Makes room for a G0 line, lowest-ranked draws first, until it fits (R115). -/
def makeRoom (k : Fin 16) (s : State) : State := preemptUntil (fun s' => fits s' k) (preemptible s) s

/-! ### The grant pass (R98) -/

/-- How a pass ends: the stopped-at line is written (R91, R98). -/
def passEnds (at? : Option (Fin 16)) (s : State) : State := s.modArb fun a => { a with stoppedAt := at? }

/-- A pass skips a line that is masked, of G1 to G5 in MANUAL mode, or not admitted by level (R98, steps 1 to 3). -/
def passSkips (s : State) (k : Fin 16) : Bool :=
  s.lines[k].masked || (s.arb.mode == .manual && groupOf s k != 0) || !levelAdmits s k

/-- The walk of a pass. `visited` holds the lines already taken; the next line is the first of the list as it stands that
is not among them. A walk takes each line at most once, so 17 rounds reach the end of a list of 16. -/
def passWalk : Nat → List (Fin 16) → State → State
  | 0, _, s => passEnds none s
  | fuel + 1, visited, s =>
    match s.arb.pendingList.find? fun k => !visited.contains k with
    | none => passEnds none s
    | some k =>
      if passSkips s k then passWalk fuel (k :: visited) s
      else if fits s k then passWalk fuel (k :: visited) (grant k s)
      else if groupOf s k != 0 then passEnds (some k) s
      else if roomCanBeMade s k then passWalk fuel (k :: visited) (grant k (makeRoom k s))
      else passEnds (some k) s

/-- A grant pass (R98). -/
def grantPass (s : State) : State := passWalk 17 [] s

/-! ### Registration -/

/-- A line becomes PENDING with a new draw record, joins the pending list, and a pass runs (R82, R91, R97). -/
def register (k : Fin 16) (requested : Option Nat) (origin : Source) (s : State) : State :=
  grantPass (refreshPending (s.modLine k fun l =>
    { l with state := .pending, draw := some (.registered requested origin) }))

/-- Withdraws a pending draw: the line becomes IDLE and leaves the list; no notice (R88, R111). -/
def withdraw (k : Fin 16) (s : State) : State :=
  refreshPending (s.modLine k fun l => { l with state := .idle, draw := none })

/-! ### Supply state, capacity and level (R97, R117, R119, R120) -/

/-- Suspends one FLOWING draw (R117). -/
def suspend (k : Fin 16) (s : State) : State :=
  s.modLine k fun l =>
    { l with state := .suspended, draw := l.draw.map fun d => { d with suspendedSince := some s.now } }

/-- Supply goes DOWN (R117). -/
def supplyLost (s : State) : State :=
  let flowing := s.arb.inService.filter (isFlowing s)
  let s1 := flowing.foldl (fun st k => suspend k st) s
  grantPass (s1.modArb fun a =>
    { a with supplyHeld := .down, capacityHeld := 0,
             hold := if flowing.isEmpty then a.hold else some (.start a.supplyLossHold) })

/-- A SUSPENDED draw resumes (R119). -/
def resume (k : Fin 16) (s : State) : State :=
  activateRole (.line k) (s.modLine k fun l =>
    { l with state := .flowing, draw := l.draw.map fun d => { d with suspendedSince := none } })

/-- One SUSPENDED draw is taken at a restore, judged on flow alone (R119). -/
def restoreOne (s : State) (k : Fin 16) : State :=
  if flowOf s k ≤ freeCapacity s then resume k s else preempt k s

/-- Supply goes UP with a grant capacity (R119). -/
def supplyRestored (capacity : Nat) (s : State) : State :=
  let s1 := s.modArb fun a => { a with supplyHeld := .up, capacityHeld := capacity, hold := none }
  let suspended := (rankOrder s1).filter fun k => s1.lines[k].state == .suspended
  grantPass (suspended.foldl restoreOne s1)

/-- The grant capacity changes while supply stays UP (R120). -/
def capacityChanged (capacity : Nat) (s : State) : State :=
  let s1 := s.modArb fun a => { a with capacityHeld := capacity }
  grantPass (preemptUntil (fun s' => flowingFlow s' ≤ s'.arb.capacityHeld) (flowingLowestFirst s1) s1)

/-- The Pressure Sets hand over a supply state with its grant capacity (R126). -/
def takeSupply (supply : SupplyState) (capacity : Nat) (s : State) : State :=
  match s.arb.supplyHeld, supply with
  | .up, .down => supplyLost s
  | .down, .up => supplyRestored capacity s
  | .up, .up => if s.arb.capacityHeld = capacity then s else capacityChanged capacity s
  | .down, .down => s

/-- The Supply Evaluator hands over an effective supply level; a pass runs on a change (R63, R97). -/
def takeLevel (level : Nat) (s : State) : State :=
  if s.arb.levelHeld = level then s else grantPass (s.modArb fun a => { a with levelHeld := level })

end Sys2Proof.Machine
end

