-- ==== Sys2Proof/Machine/Selection.lean ====
section
/-!
DEFINITION. The choices of the Supply Evaluator and of the balance review: the preferred sides (R66), the duty tank
(R67), a fill target (R71), and the graded level of bands with hysteresis (R62, R65).
-/

namespace Sys2Proof.Machine

/-- The first of a list that no later one betters: a later one is taken only when strictly better, so ties go to the
earliest, which in an ascending list is the lowest index (R67, R71). -/
def bestOf {α : Type} (better : α → α → Bool) : List α → Option α
  | [] => none
  | x :: xs => some (xs.foldl (fun best y => if better y best then y else best) x)

/-- The side whose imbalance is above the band, for the duty tank (R66). -/
def dutySide (s : State) : Option Side :=
  if (s.eval.settings.balanceBand : Int) < s.eval.imbalance then some .port
  else if s.eval.imbalance < -(s.eval.settings.balanceBand : Int) then some .stbd
  else none

/-- The side preferred for filling: the lighter side (R66). -/
def fillSide (s : State) : Option Side :=
  if (s.eval.settings.balanceBand : Int) < s.eval.imbalance then some .stbd
  else if s.eval.imbalance < -(s.eval.settings.balanceBand : Int) then some .port
  else none

/-- The candidates on the preferred side when there is one and it has any, else all of them (R67, R71). -/
def preferSide (s : State) (side : Option Side) (cands : List (Fin 12)) : List (Fin 12) :=
  match side with
  | none => cands
  | some d =>
    let onSide := cands.filter fun t => s.tanks[t].defn.side == d
    if onSide.isEmpty then cands else onSide

/-- Whether tank `a` holds more trusted water than tank `b` (R67). -/
def holdsMore (s : State) (a b : Fin 12) : Bool := s.tanks[b].trusted < s.tanks[a].trusted

/-- Whether tank `a` has the lower ratio of trusted volume to capacity, by cross-multiplication (R71). -/
def ratioLower (s : State) (a b : Fin 12) : Bool :=
  s.tanks[a].trusted * s.tanks[b].defn.capacity < s.tanks[b].trusted * s.tanks[a].defn.capacity

/-- A duty selection (R67). -/
def selectDuty (s : State) : Option (Fin 12) :=
  bestOf (holdsMore s) (preferSide s (dutySide s) s.eval.dutyCandidates)

/-- The answer to a train that asks for a fill target (R71). -/
def selectFill (s : State) : Option (Fin 12) :=
  bestOf (ratioLower s) (preferSide s (fillSide s) s.eval.fillCandidates)

/-- How many of the bands, each raised by `h`, a ratio lies below (R62). -/
def bandsAbove (bands : List Nat) (h ratio : Nat) : Nat := (bands.filter fun b => ratio < b + h).length

/-- A level graded from bands with hysteresis, from the level held before: the larger of r and the smaller of s and the
held level (R62, R65). -/
def gradedLevel (bands : List Nat) (hysteresis held ratio : Nat) : Nat :=
  max (bandsAbove bands 0 ratio) (min (bandsAbove bands hysteresis ratio) held)

end Sys2Proof.Machine
end

