-- ==== Sys2Proof/Machine/TrainOps.lean ====
section
/-!
DEFINITION. The shared operations of the Watermaker Trains: the flush request (R90, R144), the start and the automatic
start check (R147, R148), stopping (R143), the automatic stop check (R149), the FAULT state and the end of a flush (R145,
R146), production and its readings (R139 to R142).
-/

namespace Sys2Proof.Machine

/-! ### Flush request (R90, R144) -/

/-- A train in FLUSH_WAIT with flush placed no asks the Arbiter for its flush. PLACED when its flush line is defined with
source FLUSH of this train and IDLE; otherwise REFUSED and nothing changes. -/
def askFlush (n : Fin 3) (s : State) : State :=
  let w := s.trains[n]
  let k := w.defn.flushLine
  if w.state == .flushWait && !w.flushPlaced && flushLineValid s n && s.lines[k].state == .idle then
    register k (some (min w.flushRemaining s.lines[k].defn.maxBatch)) (.flush n)
      (s.modTrain n fun w => { w with flushPlaced := true })
  else s

/-! ### Starting (R147, R148) -/

/-- A train starts (R147): the conditions are its caller's. -/
def beginTrain (n : Fin 3) (s : State) : State :=
  let s1 := s.modTrain n fun w =>
    { w with state := .priming, stopCause := none, retry := false, runTimer := 0, startedAt := s.now,
             stage := some (.start w.defn.primeTime) }
  { s1 with power := { s1.power with holders := s1.power.holders ++ [.train n] },
            startOrder := s1.startOrder.filter (· != n) ++ [n] }

/-- A train the automatic start check may consider: OFF, AUTO, rested and of rated power above 0 (R148). -/
def startable (s : State) (n : Fin 3) : Bool :=
  let w := s.trains[n]
  w.state == .off && w.mode == .auto && w.rested && 0 < w.defn.ratedPower

/-- The automatic start check (R148). -/
def startCheck (s : State) : State :=
  if autoRunning s < s.eval.callCount && !someTrainStarting s then
    match s.startOrder.find? (startable s) with
    | none => s
    | some n =>
      if s.waters == .opened && !s.eval.fillCandidates.isEmpty && headroomGranted s s.trains[n].defn.ratedPower then
        beginTrain n s
      else s
  else s

/-! ### Stopping (R143, R149) -/

/-- A train gives up its fill target: it leaves the tank's list, and its target and producing since become absent. -/
def giveUpTarget (n : Fin 3) (s : State) : State :=
  let s1 := match s.trains[n].target with
    | some t => s.modTank t fun k => { k with fillTrains := k.fillTrains.filter (· != n) }
    | none => s
  s1.modTrain n fun w => { w with target := none, producingSince := none }

/-- A holder leaves the list and its rated power the committed load (R158). -/
def releaseHolder (h : Holder) (s : State) : State :=
  { s with power := { s.power with holders := s.power.holders.filter (· != h) } }

/-- Enters FLUSH_WAIT with a remaining volume and asks for the flush (R143 step 6, R153, R145). -/
def enterFlushWait (n : Fin 3) (remaining : Nat) (s : State) : State :=
  askFlush n (s.modTrain n fun w =>
    { w with state := .flushWait, flushRemaining := remaining, flushPlaced := false,
             flushWait := .start w.defn.flushWaitMax })

/-- Stops a train in a running state (R143; DEDUCED, log 28). -/
def haltTrain (n : Fin 3) (cause : StopCause) (s : State) : State :=
  let s1 := (giveUpTarget n s).modTrain n fun w =>
    { w with stopCause := some cause, faultCause := none, stage := none, qualification := .idle, stall := .idle }
  startCheck (enterFlushWait n s1.trains[n].defn.flushVolume (releaseHolder (.train n) s1))

/-- How long a train has produced in its present spell. -/
def producingFor (s : State) (n : Fin 3) : Nat := (s.now - s.trains[n].producingSince.getD s.now).toNat

/-- A train the automatic stop check may stop: AUTO, PRODUCING, run timer at or past min run (R149). -/
def stoppable (s : State) (n : Fin 3) : Bool :=
  let w := s.trains[n]
  w.mode == .auto && w.state == .producing && w.defn.minRun ≤ w.runTimer

/-- The rounds of the automatic stop check: each stops the train with the earliest producing since, the lower index on a
tie (R149). Each round takes one train out of PRODUCING, so three rounds are all. -/
def stopRounds : Nat → State → State
  | 0, s => s
  | fuel + 1, s =>
    if s.eval.callCount < autoRunning s then
      match bestOf (fun a b => producingFor s b < producingFor s a) (allTrains.filter (stoppable s)) with
      | none => s
      | some n => stopRounds fuel (haltTrain n .callDropped s)
    else s

/-- The automatic stop check (R149). -/
def stopCheck (s : State) : State := stopRounds 3 s

/-! ### FAULT and the end of a flush (R145, R146) -/

/-- A train enters FAULT: TRAIN_FAULT is posted and the automatic start check is made (R146). -/
def faultTrain (n : Fin 3) (cause : FaultCause) (s : State) : State :=
  let s1 := s.modTrain n fun w => { w with state := .fault, faultCause := some cause, flushWait := .idle }
  startCheck (post (.trainFault n cause s1.trains[n].flushRemaining) s1)

/-- A rest timer toward a length; a min rest of 0 leaves it absent (R146). -/
def restTimer (minRest : Nat) : Option Timer := if minRest = 0 then none else some (.start minRest)

/-- A train enters OFF and rests (R146, R154). -/
def restTrain (n : Fin 3) (s : State) : State :=
  startCheck (s.modTrain n fun w => { w with state := .off, rest := restTimer w.defn.minRest })

/-- The fault a finished flush leads to, if any: UNFLUSHED with retry yes, else the stop cause QUALITY or NO_PRODUCT
(R146). -/
def finishedFault (w : Train) : Option FaultCause :=
  if w.retry then some .unflushed
  else match w.stopCause with
    | some .quality => some .quality
    | some .noProduct => some .noProduct
    | _ => none

/-- A train finishes its flush (R146). -/
def finishFlush (n : Fin 3) (s : State) : State :=
  let s1 := s.modTrain n fun w => { w with flushRemaining := 0, flushPlaced := false }
  match finishedFault s1.trains[n] with
  | some c => faultTrain n c s1
  | none => restTrain n s1

/-- The end of a flush draw handed to its train (R113, R145, R146; DEDUCED, log 30). -/
def flushEnded (cause : EndCause) (delivered : Nat) (n : Fin 3) (s : State) : State :=
  let w := s.trains[n]
  let remainder := w.flushRemaining - delivered
  match w.state, cause with
  | .flushing, .complete => if remainder = 0 then finishFlush n s else enterFlushWait n remainder s
  | .flushing, .timedOut | .flushing, .stalled =>
    faultTrain n .unflushed (s.modTrain n fun w => { w with flushRemaining := remainder, flushPlaced := false })
  | .flushing, _ => enterFlushWait n remainder s
  | .flushWait, .supplyLost | .flushWait, .ended | .flushWait, .cancelled => enterFlushWait n remainder s
  | .fault, .cancelled => s.modTrain n fun w => { w with flushRemaining := remainder, flushPlaced := false }
  | _, _ => s

/-! ### Qualification and production (R139 to R142) -/

/-- A train enters DIVERTING: both of its timers start anew (R140). -/
def enterDiverting (n : Fin 3) (s : State) : State :=
  s.modTrain n fun w =>
    { w with state := .diverting, stage := some (.start w.defn.divertMax),
             qualification := .start w.defn.qualificationHold, stall := .idle }

/-- Whether a train is AUTO. -/
def isAuto (s : State) (n : Fin 3) : Bool := s.trains[n].mode == .auto

/-- A train enters PRODUCING with a fill target (R141); for an AUTO train the stop check follows (R149). -/
def enterProducing (n : Fin 3) (t : Fin 12) (s : State) : State :=
  let s1 := s.modTank t fun k => { k with fillTrains := k.fillTrains ++ [n] }
  let s2 := s1.modTrain n fun w =>
    { w with state := .producing, target := some t, producingSince := some s.now, stage := none,
             qualification := .idle, stall := .start w.defn.productStall }
  if isAuto s2 n then stopCheck s2 else s2

/-- The hold is complete: the train asks for a fill target and takes the answer at once (R140). -/
def holdComplete (n : Fin 3) (s : State) : State :=
  match selectFill s with
  | some t => enterProducing n t s
  | none => haltTrain n .noTarget s

/-- A reading above the limit, or FAULT, returns a producing train to DIVERTING (R141). -/
def excursion (n : Fin 3) (s : State) : State := enterDiverting n (giveUpTarget n s)

/-- Whether a reading is at or below a train's salinity limit (R139). -/
def Salinity.within (r : Salinity) (limit : Nat) : Bool :=
  match r with
  | .ppm v => v ≤ limit
  | .fault => false

/-- A salinity reading is handed to a train (R139). -/
def takeReading (r : Salinity) (n : Fin 3) (s : State) : State :=
  let s1 := s.modTrain n fun w => { w with reading := r }
  let w := s1.trains[n]
  match w.state with
  | .diverting =>
    if r.within w.defn.salinityLimit then
      let s2 := s1.modTrain n fun w => { w with qualification := { w.qualification with count := w.qualification.count + 1 } }
      if s2.trains[n].qualification.expired then holdComplete n s2 else s2
    else s1.modTrain n fun w => { w with qualification := { w.qualification with count := 0 } }
  | .producing => if r.within w.defn.salinityLimit then s1 else excursion n s1
  | _ => s1

/-- A producing train whose target has left the fill candidates takes a new one or stops NO_TARGET (R142). -/
def retarget (s : State) (n : Fin 3) : State :=
  match selectFill s with
  | some t =>
    let s1 := match s.trains[n].target with
      | some old => s.modTank old fun k => { k with fillTrains := k.fillTrains.filter (· != n) }
      | none => s
    (s1.modTank t fun k => { k with fillTrains := k.fillTrains ++ [n] }).modTrain n fun w => { w with target := some t }
  | none => haltTrain n .noTarget s

/-- A producing train whose target is not a fill candidate (R142). -/
def lostTarget (s : State) (n : Fin 3) : Bool :=
  s.trains[n].state == .producing &&
    match s.trains[n].target with
    | some t => !s.eval.fillCandidates.contains t
    | none => true

/-- The orders in which up to three trains may ask (R72: each asks on its own, in any order). -/
def trainOrders : List (List (Fin 3)) := [[0, 1, 2], [0, 2, 1], [1, 0, 2], [1, 2, 0], [2, 0, 1], [2, 1, 0]]

/-- Retargets the trains that have lost their target. With more than one, the order is a free choice (DESIGN CHOICE, log 10). -/
def retargetAll (s : State) : State :=
  let lost := allTrains.filter (lostTarget s)
  if lost.length ≤ 1 then lost.foldl retarget s
  else
    let c := takeChoice 6 s
    ((trainOrders.getD c.1 allTrains).filter fun n => lost.contains n).foldl retarget c.2

/-- The Trains take a tank change after the Evaluator: a changed call count makes the start and the stop check; lost
targets are chosen again; candidates that cease to be empty make the start check (R65, R72, R142, R148, R149; DEDUCED, log 11). -/
def trainsTake (oldCall : Nat) (oldCandidates : List (Fin 12)) (s : State) : State :=
  let s1 := if s.eval.callCount = oldCall then s else stopCheck (startCheck s)
  let s2 := retargetAll s1
  if oldCandidates.isEmpty && !s.eval.fillCandidates.isEmpty then startCheck s2 else s2

end Sys2Proof.Machine
end

