-- ==== Sys2Proof/Machine/DrawEnds.lean ====
section
/-!
DEFINITION. The end of a draw (R106, R107), the withdrawal of a pending draw with its hand-over (R111), and the ends of
every suspended draw at the hold's expiry (R118).
-/

namespace Sys2Proof.Machine

/-- The state a line takes when it has no draw and is not in FAULT: RELEASE_WAIT while a CONTACT line's contact is
ASSERTED, IDLE otherwise (R81, R106, R112). -/
def restState (l : DrawLine) : LineState :=
  if l.defn.source == .contact && l.asserted then .releaseWait else .idle

/-- The state a line takes at the end of its draw (R106, step 5). -/
def endState (cause : EndCause) (l : DrawLine) : LineState :=
  match cause with
  | .timedOut | .stalled => .fault
  | _ => restState l

/-- Whether an end posts DRAW_ENDED (R107). -/
def endPosts (cause : EndCause) (origin : Source) : Bool := cause != .complete || origin == .message

/-- The notices of an end (R107). -/
def endNotices (k : Fin 16) (cause : EndCause) (d : Draw) (s : State) : State :=
  let s1 := if endPosts cause d.origin then post (.drawEnded k cause d.delivered) s else s
  match cause with
  | .timedOut => post (.lineFault k .timedOut d.delivered) s1
  | .stalled => post (.lineFault k .stalled d.delivered) s1
  | _ => s1

/-- Steps 1 to 5 of an end: the lists, the record and the line's state (R106). -/
def closeLine (k : Fin 16) (cause : EndCause) (s : State) : State :=
  (s.modLine k fun l => { l with state := endState cause l, draw := none }).modArb fun a =>
    { a with inService := a.inService.filter (· != k) }

/-- An end of the draw on a line (R106). For a flush draw the hand-over with the request it may make, and the pass, are
each taken whole in a free order (DESIGN CHOICE, log 10). -/
def endDraw (k : Fin 16) (cause : EndCause) (s : State) : State :=
  match s.lines[k].draw with
  | none => s
  | some d =>
    let s1 := endNotices k cause d (closeLine k cause s)
    match d.origin with
    | .flush n =>
      let c := takeChoice 2 s1
      if c.1 = 0 then grantPass (flushEnded cause d.delivered n c.2)
      else flushEnded cause d.delivered n (grantPass c.2)
    | _ => grantPass s1

/-- CANCEL DRAW of a PENDING draw: withdrawn, handed to its train, then a pass (R111; DESIGN CHOICE, log 23). -/
def cancelPending (k : Fin 16) (s : State) : State :=
  match s.lines[k].draw with
  | none => s
  | some d => grantPass (handToTrain (some d.origin) (flushEnded .cancelled d.delivered) (withdraw k s))

/-- The delivered litres of a line's draw, 0 without one. -/
def deliveredOf (s : State) (k : Fin 16) : Nat := ((s.lines[k].draw).map (·.delivered)).getD 0

/-- Every SUSPENDED draw ends SUPPLY_LOST in rank order (R118). -/
def endSuspended (s : State) : State :=
  ((rankOrder s).filter fun k => s.lines[k].state == .suspended).foldl (fun st k => endDraw k .supplyLost st) s

end Sys2Proof.Machine
end

