-- ==== Sys2Proof/Machine/SetOps.lean ====
section
/-!
DEFINITION. The shared operations of the Pressure Sets: the supply state and grant capacity (R126), the designation
(R124), the start of the duty set (R125), and what a duty tank appearing or lost does (R130).
-/

namespace Sys2Proof.Machine

/-- The duty set's record. -/
def dutySet (s : State) : PressureSet := s.sets.sets[s.sets.duty]

/-- The supply state as the duty set gives it (R126). -/
def supplyNow (s : State) : SupplyState := if (dutySet s).state == .running then .up else .down

/-- The grant capacity as the duty set and the reserve give it (R126). -/
def capacityNow (s : State) : Nat :=
  match supplyNow s with
  | .up => (dutySet s).defn.capacity - s.sets.settings.reserve
  | .down => 0

/-- The supply state and the grant capacity are worked out and handed to the Arbiter (R126). -/
def workOutSupply (s : State) : State :=
  takeSupply (supplyNow s) (capacityNow s)
    { s with sets := { s.sets with supply := supplyNow s, grantCapacity := capacityNow s } }

/-- The standby becomes duty while the duty set is not usable and the standby is (R124). -/
def designate (cause : ChangeoverCause) (s : State) : State :=
  let old := s.sets.duty
  let new := otherSet old
  if !s.sets.sets[old].usable && s.sets.sets[new].usable then
    post (.setChangeover new cause old) { s with sets := { s.sets with duty := new } }
  else s

/-- A set enters STARTING; a proof or a failure of an earlier start that is still due finds nothing (R125). -/
def startSet (x : Fin 2) (s : State) : State :=
  let s1 := s.modSet x fun p => { p with state := .starting, startTimer := .start s.sets.settings.startProof }
  { s1 with due := (s1.due.erase (.setProved x)).erase (.setStartProofFailed x) }

/-- The duty set starts when there is a duty tank and it is IDLE and usable (R125). -/
def startDuty (s : State) : State :=
  if s.eval.dutyTank.isSome && (dutySet s).state == .idle && (dutySet s).usable then startSet s.sets.duty s else s

/-- What follows a change of a set: the supply, the designation, the start, and the supply of the new duty set
(R124 to R126). -/
def settleSets (cause : ChangeoverCause) (s : State) : State :=
  workOutSupply (startDuty (designate cause (workOutSupply s)))

/-- A set goes to a stopped state with its timers at 0 (R130 to R132). -/
def stopSet (stopped : SetState) (p : PressureSet) : PressureSet :=
  { p with state := stopped, startTimer := .idle, lossTimer := 0 }

/-- The duty tank is lost: every STARTING or RUNNING set enters IDLE and supply goes DOWN (R130). -/
def dutyTankLost (s : State) : State :=
  workOutSupply { s with sets := { s.sets with sets := updAll s.sets.sets fun _ p =>
    if p.state == .starting || p.state == .running then stopSet .idle p else p } }

/-- A duty tank appears: the SUPPLY role becomes active and the duty set starts (R38, R69, R130). -/
def dutyTankAppears (s : State) : State := startDuty (activateRole .supply s)

/-- A set enters FAILED and SET_FAILED is posted with the timer at failure (R125, R127). -/
def failSet (x : Fin 2) (cause : SetFailCause) (timer : Nat) (s : State) : State :=
  post (.setFailed x cause timer) (s.modSet x fun p => { p with state := .failed })

end Sys2Proof.Machine
end

