-- ==== Sys2Proof/Machine/EvalOps.lean ====
section
/-!
DEFINITION. The Supply Evaluator: sums and ratio (R61), the supply level (R62, R63), the call count (R65), the imbalance
(R66), the candidates (R59), the duty tank (R67 to R69), and the whole of a tank change (R61).
-/

namespace Sys2Proof.Machine

/-- The sum of a figure over the IN_SERVICE tanks (R61). -/
def sumInService (s : State) (f : Tank → Nat) : Nat :=
  (allTanks.map fun t => if s.tanks[t].state == .inService then f s.tanks[t] else 0).sum

/-- The trusted volume of a tank when it lies on a side (R66). -/
def trustedOn (side : Side) (k : Tank) : Nat := if k.defn.side == side then k.trusted else 0

/-- The sums and the ratio (R61). -/
def workOutRatio (s : State) : State :=
  let q := sumInService s Tank.trusted
  let cap := sumInService s fun k => k.defn.capacity
  s.modEval fun e =>
    { e with reserve := q, capacity := cap, ratio := if cap = 0 then none else some (1000 * q / cap) }

/-- The effective supply level is worked out; a change posts SUPPLY_LEVEL and is handed to the Arbiter (R63). -/
def workOutLevel (cause : LevelCause) (s : State) : State :=
  let level := max s.eval.computed s.eval.floor
  if level = s.eval.level then s
  else takeLevel level (post (.supplyLevel cause level) (s.modEval fun e => { e with level := level }))

/-- The computed supply level (R62), then the effective one (R63). -/
def workOutComputed (cause : LevelCause) (s : State) : State :=
  workOutLevel cause (s.modEval fun e =>
    { e with computed := match e.ratio with
        | none => 7
        | some r => gradedLevel e.settings.supplyBands e.settings.hysteresis e.computed r })

/-- The call count (R65). -/
def workOutCall (s : State) : State :=
  s.modEval fun e =>
    { e with callCount := match e.ratio with
        | none => 0
        | some r => gradedLevel e.settings.productionBands e.settings.productionHysteresis e.callCount r }

/-- The imbalance (R66). -/
def workOutImbalance (s : State) : State :=
  s.modEval fun e =>
    { e with imbalance := (sumInService s (trustedOn .port) : Int) - (sumInService s (trustedOn .stbd) : Int) }

/-- The duty candidates and the fill candidates (R59, R61). -/
def workOutCandidates (s : State) : State :=
  s.modEval fun e =>
    { e with dutyCandidates := allTanks.filter fun t => s.tanks[t].dutyCandidate,
             fillCandidates := allTanks.filter fun t => s.tanks[t].fillCandidate }

/-- The duty flag of a tank. -/
def setDutyFlag (t : Fin 12) (on : Bool) (s : State) : State := s.modTank t fun k => { k with duty := on }

/-- The duty flag of the tank that was duty, if there was one, is cleared (R69). -/
def clearOldDuty (old : Option (Fin 12)) (s : State) : State :=
  match old with
  | some t => setDutyFlag t false s
  | none => s

/-- The outcome of a duty selection is applied (R69). A selection that finds the tank already duty changes nothing. -/
def applyDuty (cause : DutyCause) (chosen : Option (Fin 12)) (s : State) : State :=
  let old := s.eval.dutyTank
  match chosen with
  | some t =>
    if old = some t then s
    else
      let s1 := (setDutyFlag t true (clearOldDuty old s)).modEval fun e => { e with dutyTank := some t }
      let s2 := post (.dutyChanged t cause old) s1
      if old.isNone then dutyTankAppears s2 else s2
  | none =>
    match old with
    | none => s
    | some t =>
      let s1 := (setDutyFlag t false s).modEval fun e => { e with dutyTank := none }
      dutyTankLost (post (.noSupply t cause s1.eval.reserve) s1)

/-- The duty tank is checked at a tank change (R68). -/
def checkDuty (s : State) : State :=
  match s.eval.dutyTank with
  | some t =>
    if s.eval.dutyCandidates.contains t then s
    else applyDuty (if s.tanks[t].state == .inService then .low else .leftService) (selectDuty s) s
  | none => if s.eval.dutyCandidates.isEmpty then s else applyDuty .appeared (selectDuty s) s

/-- The Evaluator takes a tank change whole, in the order of R61. -/
def evaluate (s : State) : State :=
  checkDuty (workOutCandidates (workOutImbalance (workOutCall (workOutComputed .reserve (workOutRatio s)))))

/-- The Evaluator, then the Trains, take a tank change (R13, R61, R72). -/
def evaluateAndTrains (s : State) : State := trainsTake s.eval.callCount s.eval.fillCandidates (evaluate s)

end Sys2Proof.Machine
end

