-- ==== Sys2Proof/Machine/TransferOps.lean ====
section
/-!
DEFINITION. The Transfer and Shore Unit and the Power Allowance: the start and end of a transfer (R164, R166), the ends of
R165 and R169, the balancing transfer (R167), the start and end of a shore fill (R168, R169), shedding (R161), and the
whole of a tank change (R13, R14).
-/

namespace Sys2Proof.Machine

/-! ### Transfers -/

/-- A transfer starts (R164): the conditions are its caller's. -/
def beginTransfer (origin : TransferOrigin) (src dst : Fin 12) (litres : Nat) (s : State) : State :=
  let s1 : State :=
    { s with transfer := { s.transfer with run := some ⟨origin, src, dst, litres⟩, moved := 0,
                                           stall := .start s.transfer.pump.stallTime },
             power := { s.power with holders := s.power.holders ++ [.pump] } }
  let s2 := (s1.modTank src fun k => { k with transferRole := .source }).modTank dst fun k =>
    { k with transferRole := .dest }
  activateRole .transfer s2

/-- A running transfer ends (R166). -/
def endTransfer (cause : TransferCause) (s : State) : State :=
  match s.transfer.run with
  | none => s
  | some r =>
    let s1 := (s.modTank r.source fun k => { k with transferRole := .none }).modTank r.dest fun k =>
      { k with transferRole := .none }
    let s2 := releaseHolder .pump s1
    let s3 : State := { s2 with transfer := { s2.transfer with
      run := none, lastEnd := some ⟨cause, r.source, r.dest, s2.transfer.moved⟩ } }
    startCheck (post (.transferEnded r.source cause s.transfer.moved) s3)

/-- The end a running transfer has come to, if any (R165): COMPLETE before the tank's own ends. -/
def transferEndDue (s : State) : Option TransferCause :=
  match s.transfer.run with
  | none => none
  | some r =>
    if s.transfer.moved = r.litres then some .complete
    else if s.tanks[r.source].state != .inService || s.tanks[r.dest].state != .inService then some .abortedTank
    else if s.tanks[r.source].low then some .sourceLow
    else if s.tanks[r.dest].full then some .destFull
    else none

/-- The balancing transfer's source: of the IN_SERVICE tanks of the heavier side, the one with the highest trusted volume
(R167). -/
def balanceSource (s : State) : Option (Fin 12) :=
  let side : Side := if 0 < s.eval.imbalance then .port else .stbd
  bestOf (holdsMore s) (allTanks.filter fun t => s.tanks[t].state == .inService && s.tanks[t].defn.side == side)

/-- The balancing transfer's destination: of the fill candidates of the lighter side, the one of lowest ratio (R167). -/
def balanceDest (s : State) : Option (Fin 12) :=
  let side : Side := if 0 < s.eval.imbalance then .stbd else .port
  bestOf (ratioLower s) (s.eval.fillCandidates.filter fun t => s.tanks[t].defn.side == side)

/-- The amount of a balancing transfer (R167), as an integer: a LOW source gives 0 or less. -/
def balanceAmount (s : State) (src dst : Fin 12) : Int :=
  min ((s.eval.imbalance.natAbs / 2 : Nat) : Int)
    (min ((s.tanks[src].trusted : Int) - (s.tanks[src].defn.lowMark : Int))
      ((s.tanks[dst].defn.fillStop : Int) - (s.tanks[dst].fillMeasure : Int)))

/-- The decision on a balancing transfer at a balance review (R167). -/
def balanceReview (s : State) : State :=
  if 0 < s.eval.settings.balanceLimit && s.eval.settings.balanceLimit < s.eval.imbalance.natAbs
      && s.transfer.run.isNone && 0 < s.transfer.pump.ratedPower then
    match balanceSource s, balanceDest s with
    | some src, some dst =>
      if 50 ≤ balanceAmount s src dst && headroomGranted s s.transfer.pump.ratedPower then
        beginTransfer .balance src dst (balanceAmount s src dst).toNat s
      else s
    | _, _ => s
  else s

/-! ### Shore filling -/

/-- A shore fill starts (R168): the conditions are its caller's. -/
def beginShore (t : Fin 12) (litres : Nat) (s : State) : State :=
  activateRole .shore
    (({ s with shore := { s.shore with run := some ⟨t, litres⟩, filled := 0 } } : State).modTank t fun k =>
      { k with shoreTarget := true })

/-- An active shore fill ends (R169). -/
def endShore (cause : ShoreCause) (s : State) : State :=
  match s.shore.run with
  | none => s
  | some r =>
    let s1 := s.modTank r.target fun k => { k with shoreTarget := false }
    post (.shoreEnded r.target cause s.shore.filled)
      { s1 with shore := { run := none, filled := s.shore.filled, lastEnd := some ⟨cause, r.target, s.shore.filled⟩ } }

/-- The end an active shore fill has come to, if any (R169): COMPLETE first. -/
def shoreEndDue (s : State) : Option ShoreCause :=
  match s.shore.run with
  | none => none
  | some r =>
    if 0 < r.litres && s.shore.filled = r.litres then some .complete
    else if s.tanks[r.target].state == .isolated then some .abortedTank
    else if s.tanks[r.target].full then some .full
    else none

/-! ### The unit's part of a tank change -/

/-- Ends the transfer when it has come to an end. -/
def settleTransfer (s : State) : State :=
  match transferEndDue s with
  | some c => endTransfer c s
  | none => s

/-- Ends the shore fill when it has come to an end. -/
def settleShore (s : State) : State :=
  match shoreEndDue s with
  | some c => endShore c s
  | none => s

/-- The Transfer and Shore Unit takes a tank change (R14, R18, R165, R169). When both operations end at one event the order
is a free choice (DESIGN CHOICE, log 10). -/
def transferShoreTake (s : State) : State :=
  if (transferEndDue s).isSome && (shoreEndDue s).isSome then
    let c := takeChoice 2 s
    if c.1 = 0 then settleShore (settleTransfer c.2) else settleTransfer (settleShore c.2)
  else settleShore (settleTransfer s)

/-- A tank change is handed to the Supply Evaluator, the Trains and the Transfer and Shore Unit, in that order, each whole
before the next (R13, R14). -/
def tankChange (s : State) : State := transferShoreTake (evaluateAndTrains s)

/-! ### Shedding (R161) -/

/-- The running train that entered PRIMING most recently: the running train latest in the start order (R161). -/
def newestRunning (s : State) : Option (Fin 3) := s.startOrder.reverse.find? fun n => s.trains[n].state.running

/-- The rounds of shedding: the transfer first, then trains newest first, while the load is above the effective allowance.
At most four holders can be shed (R158). -/
def shedRounds (cause : ShedCause) : Nat → State → State
  | 0, s => s
  | fuel + 1, s =>
    if committedLoad s ≤ effectiveAllowance s then s
    else if s.power.holders.contains .pump then
      shedRounds cause fuel (endTransfer .shed (post (.shed .pump cause (effectiveAllowance s)) s))
    else
      match newestRunning s with
      | none => s
      | some n => shedRounds cause fuel (haltTrain n .shed (post (.shed (.train n) cause (effectiveAllowance s)) s))

/-- The effective allowance has been worked out again from `old`: shed if the load is above it, and hand a rise of headroom
to the Trains (R159, R160, R161). -/
def allowanceChanged (cause : ShedCause) (old : Nat) (s : State) : State :=
  if effectiveAllowance s < committedLoad s then shedRounds cause 4 s
  else if old < effectiveAllowance s then startCheck s
  else s

end Sys2Proof.Machine
end

