-- ==== Sys2Proof/Machine/TankOps.lean ====
section
/-!
DEFINITION. The Tank Inventory: bookings (R9, R10), seeds (R20, R21), the strapping table (R52), new heads and their
reconciliation (R53, R54), the loss of a level (R56), changes of state and definition (R6 to R8, R19).
-/

namespace Sys2Proof.Machine

/-! ### Bookings -/

/-- A credit of one litre (R9). -/
def Tank.credit (k : Tank) : Tank :=
  if k.volume < k.defn.capacity then
    { k with volume := k.volume + 1, credited := k.credited + 1, quietTimer := 0 }
  else { k with unbooked := k.unbooked + 1, credited := k.credited + 1, quietTimer := 0 }

/-- A debit of one litre (R10). -/
def Tank.debit (k : Tank) : Tank :=
  if 0 < k.volume then { k with volume := k.volume - 1, debited := k.debited + 1, quietTimer := 0 }
  else { k with unbooked := k.unbooked - 1, debited := k.debited + 1, quietTimer := 0 }

/-- Books one litre into (`into`) or out of a tank. -/
def book (t : Fin 12) (into : Bool) (s : State) : State :=
  s.modTank t fun k => if into then k.credit else k.debit

/-! ### Seeds -/

/-- The accounts of a tank after a seed, and its state (R20). -/
def Tank.seed (k : Tank) (amount : Nat) (origin : SeedOrigin) : Tank :=
  { k with volume := min amount k.defn.capacity, seedVolume := min amount k.defn.capacity, unbooked := 0, credited := 0,
           debited := 0, seedOrigin := some origin, agreement := .unchecked, quietTimer := 0, seeded := true,
           state := if k.state == .unknown then k.defn.startState.toTankState else k.state }

/-- The notice cause of a seed (R19, R20). -/
def seedCause : SeedOrigin → TankCause
  | .automatic => .autoSeed
  | .seed => .seed
  | .reseed => .reseed

/-- A seed of a tank with an amount (R20). -/
def seedWith (t : Fin 12) (amount : Nat) (origin : SeedOrigin) (s : State) : State :=
  let s1 := s.modTank t fun k => k.seed amount origin
  tankChange (post (.tankState t (seedCause origin) s1.tanks[t].state) s1)

/-- A tank loses its seed: V, U, C, D, S are 0, the origin is absent, the agreement UNCHECKED, the quiet timer 0 and the
state UNKNOWN (R3, R6, R7). -/
def Tank.unseed (k : Tank) : Tank :=
  { k with state := .unknown, seeded := false, volume := 0, unbooked := 0, credited := 0, debited := 0, seedVolume := 0,
           seedOrigin := none, agreement := .unchecked, quietTimer := 0 }

/-! ### Level -/

/-- The volume at a head on the segments that start at a point (R52). -/
def strapFrom (h : Nat) : StrapPoint → List StrapPoint → Nat
  | p, [] => p.volume
  | p, q :: qs =>
    if h < q.head then p.volume + (h - p.head) * (q.volume - p.volume) / (q.head - p.head) else strapFrom h q qs

/-- The volume a strapping table gives for a head, clamped to the capacity; none from an empty table (R52). -/
def strapVolume (capacity : Nat) (points : List StrapPoint) (h : Nat) : Option Nat :=
  match points with
  | [] => none
  | p :: ps => some (min capacity (if h < p.head then p.volume else strapFrom h p ps))

/-- The agreement a check gives (R54). -/
def checkedAgreement (k : Tank) (lv : Nat) : Agreement :=
  if k.defn.tolerance < ((k.volume : Int) - (lv : Int)).natAbs then .disagree else .agree

/-- The reconciliation of a seeded tank at a new level volume (R54). -/
def reconcile (t : Fin 12) (lv : Nat) (s : State) : State :=
  let k := s.tanks[t]
  if k.quiet then
    let after := checkedAgreement k lv
    let s1 := s.modTank t fun k => { k with agreement := after }
    if after == .disagree && k.agreement != .disagree then
      post (.disagree t true ((k.volume : Int) - (lv : Int))) s1
    else if after == .agree && k.agreement == .disagree then
      post (.disagree t false ((k.volume : Int) - (lv : Int))) s1
    else s1
  else s

/-- A new head is taken at a tank (R53). -/
def takeHead (t : Fin 12) (h : Nat) (s : State) : State :=
  let k := s.tanks[t]
  if k.defined then
    let s1 := s.modTank t fun k => { k with levelHead := some h }
    match strapVolume k.defn.capacity k.strapping h with
    | none => s1
    | some lv =>
      let s2 := s1.modTank t fun k => { k with levelVolume := some lv }
      if k.seeded then tankChange (reconcile t lv s2) else seedWith t lv .automatic s2
  else s

/-- The level head and the level volume of a tank become absent and its agreement UNCHECKED (R56). -/
def levelLost (t : Fin 12) (s : State) : State :=
  tankChange (s.modTank t fun k => { k with levelHead := none, levelVolume := none, agreement := .unchecked })

/-! ### State and definition -/

/-- A tank takes a state: TANK_STATE is posted, then the change is handed over (R18, R19). -/
def changeTankState (t : Fin 12) (cause : TankCause) (f : Tank → Tank) (s : State) : State :=
  let s1 := s.modTank t f
  tankChange (post (.tankState t cause s1.tanks[t].state) s1)

/-- An accepted DEFINE TANK with capacity not 0 (R6, R7). -/
def applyTankDef (t : Fin 12) (d : TankDef) (s : State) : State :=
  let k := s.tanks[t]
  if !k.defined then changeTankState t .defined (fun _ => Tank.fresh d [] .unknown) s
  else if k.defn.capacity ≠ d.capacity then changeTankState t .redefined (fun k => { k.unseed with defn := d }) s
  else tankChange (s.modTank t fun k => { k with defn := d })

/-- An accepted DEFINE TANK with capacity 0 (R8). -/
def removeTankDef (t : Fin 12) (s : State) : State :=
  if s.tanks[t].defined then changeTankState t .undefined (fun _ => .unconfigured) s else s

end Sys2Proof.Machine
end

