-- ==== Sys2Proof/Machine/MeterOps.lean ====
section
/-!
DEFINITION. The Meter Channels: counting (R27 to R29), litres (R30 to R32), and where each litre goes (R33 to R38).
-/

namespace Sys2Proof.Machine

/-! ### Counting -/

/-- The sign of a count of a QUAD4 edge of phase A by the level of phase B, as forward or backward (R29). -/
def quadA (rising otherHigh : Bool) : Bool := rising != otherHigh

/-- The sign of a count of a QUAD4 edge of phase B by the level of phase A (R29). -/
def quadB (rising otherHigh : Bool) : Bool := rising == otherHigh

/-- The count that new levels of the two phases give a defined channel, `true` for +1 and `false` for -1; `bFirst` says
which edge of a QUAD1 channel is taken first when both arrive together (R27 to R29). -/
def countOf (m : Meter) (a b bFirst : Bool) : Option Bool :=
  let edgeA := a != m.phaseA
  let edgeB := b != m.phaseB
  match m.defn.mode with
  | .single => if edgeA && a then some true else none
  | .quad1 => if edgeA && a then some (if bFirst then !b else !m.phaseB) else none
  | .quad4 =>
    if edgeA && edgeB then none
    else if edgeA then some (quadA a m.phaseB)
    else if edgeB then some (quadB b m.phaseA)
    else none

/-- Both phases of a QUAD4 channel change at one event: a phase error (R29). -/
def phaseError (m : Meter) (a b : Bool) : Bool :=
  m.defined && m.defn.mode == .quad4 && a != m.phaseA && b != m.phaseB

/-- The phase reference takes the new levels, and a phase error is counted (R25, R27 to R29). -/
def Meter.takeLevels (m : Meter) (a b : Bool) : Meter :=
  { m with phaseA := a, phaseB := b,
           phaseErrors := if phaseError m a b then satAdd 65535 m.phaseErrors 1 else m.phaseErrors }

/-- The litre a count completes, if any (R30). -/
def litreOf (m : Meter) (forward : Bool) : Option Bool :=
  if forward then (if m.residue + 1 = m.defn.kFactor then some true else none)
  else (if m.residue = 0 then some false else none)

/-- The residue after a count (R30). -/
def Meter.count (m : Meter) (forward : Bool) : Meter :=
  { m with residue :=
      if forward then (if m.residue + 1 = m.defn.kFactor then 0 else m.residue + 1)
      else (if m.residue = 0 then m.defn.kFactor - 1 else m.residue - 1) }

/-- A litre is added to the net total and to the open slot (R31, R32). -/
def Meter.litre (m : Meter) (forward : Bool) : Meter :=
  { m with netTotal := addSign m.netTotal forward, openSlot := m.openSlot + signOf forward }

/-! ### Where a litre goes -/

/-- A stray litre (R38). -/
def strayLitre (m : Fin 24) (cause : StrayCause) (forward : Bool) (s : State) : State :=
  let s1 : State := { s with strayTotal := addSign s.strayTotal forward }
  if s.meters[m].strayNoticed then s1
  else post (.strayFlow m cause s1.strayTotal) (s1.modMeter m fun c => { c with strayNoticed := true })

/-- A PRODUCT litre (R35, R141). -/
def productLitre (n : Fin 3) (forward : Bool) (s : State) : State :=
  let w := s.trains[n]
  match w.state, w.target with
  | .producing, some t =>
    tankChange (book t forward (s.modTrain n fun w =>
      { w with produced := addSign w.produced forward, stall := { w.stall with count := 0 } }))
  | _, _ => s.modTrain n fun w => { w with diverted := addSign w.diverted forward }

/-- What moved becomes: the net, or a free value outside the field's range (R162, R165; DESIGN CHOICE, log 13). -/
def movedAfter (moved : Int) (forward : Bool) : Int :=
  let net := moved + signOf forward
  if -60000 ≤ net ∧ net ≤ 60000 then net else Config.movedOutOfRange net

/-- A TRANSFER litre: both bookings, each a tank change taken by the Evaluator and the Trains, then the count, then the ends
they cause (R36, R165; DEDUCED, log 12). -/
def transferLitre (r : TransferRun) (forward : Bool) (s : State) : State :=
  let s1 := evaluateAndTrains (book r.source (!forward) s)
  let s2 := evaluateAndTrains (book r.dest forward s1)
  transferShoreTake { s2 with transfer :=
    { s2.transfer with moved := movedAfter s2.transfer.moved forward, stall := { s2.transfer.stall with count := 0 } } }

/-- A SHORE litre (R36, R169). -/
def shoreLitre (r : ShoreRun) (forward : Bool) (s : State) : State :=
  tankChange (book r.target forward { s with shore := { s.shore with filled := s.shore.filled + signOf forward } })

/-- The delivered litres after a LINE litre (R37). -/
def deliveredAfter (delivered : Nat) (forward : Bool) : Nat :=
  if forward then satAdd 20000 delivered 1 else delivered - 1

/-- Whether a LINE litre completes a draw (R105). -/
def drawCompletes (d : Draw) (forward : Bool) : Bool :=
  match d.requested with
  | some q => forward && q ≤ d.delivered
  | none => false

/-- A LINE litre of a FLOWING line (R37, R104, R105). -/
def lineLitre (k : Fin 16) (forward : Bool) (s : State) : State :=
  let s1 := s.modDraw k fun d => { d with delivered := deliveredAfter d.delivered forward, stall := 0 }
  match s1.lines[k].draw with
  | some d => if drawCompletes d forward then endDraw k .complete s1 else s1
  | none => s1

/-- A litre is applied to the role of its channel (R33). -/
def applyLitre (m : Fin 24) (forward : Bool) (s : State) : State :=
  match s.meters[m].defn.role with
  | .none => s
  | .supply =>
    match s.eval.dutyTank with
    | some t => tankChange (book t (!forward) s)
    | none => strayLitre m .supply forward s
  | .product n => productLitre n forward s
  | .transfer =>
    match s.transfer.run with
    | some r => transferLitre r forward s
    | none => strayLitre m .transfer forward s
  | .shore =>
    match s.shore.run with
    | some r => shoreLitre r forward s
    | none => strayLitre m .shore forward s
  | .line k => if isFlowing s k then lineLitre k forward s else strayLitre m .line forward s

/-- A count of a defined channel (R30 to R33). -/
def takeCount (m : Fin 24) (forward : Bool) (s : State) : State :=
  match litreOf s.meters[m] forward with
  | none => s.modMeter m fun c => c.count forward
  | some litre => applyLitre m litre (s.modMeter m fun c => (c.count forward).litre litre)

/-- Whether the two edges of a QUAD1 channel arrive together and their order decides the count (R28). -/
def edgesRace (m : Meter) (a b : Bool) : Bool :=
  m.defined && m.defn.mode == .quad1 && a && !m.phaseA && b != m.phaseB

/-- The two phase inputs of a channel present new levels (R25, R27 to R29). -/
def takeEdge (m : Fin 24) (a b : Bool) (s : State) : State :=
  let c := s.meters[m]
  let choice := if edgesRace c a b then takeChoice 2 s else (0, s)
  let s1 := choice.2.modMeter m fun c => c.takeLevels a b
  if c.defined then
    match countOf c a b (choice.1 == 0) with
    | some forward => takeCount m forward s1
    | none => s1
  else s1

end Sys2Proof.Machine
end

