-- ==== Sys2Proof/Machine/InputOps.lean ====
section
/-!
DEFINITION. The Frequency Inputs: the gate end with its band and fault state (R44, R45), the readings it hands to a train
(R48) and the level window and head (R49).
-/

namespace Sys2Proof.Machine

/-- The gate is in band (R44). -/
def inBand (f : Nat) : Bool := 900 ≤ f && f ≤ 5100

/-- The raw value of an in-band gate (R44). -/
def rawOf (f : Nat) : Nat := min 4000 (f - 1000)

/-- The window after a value joins it: at most the eight newest (R49). -/
def windowWith (window : List Nat) (u : Nat) : List Nat := (window ++ [u]).drop (window.length + 1 - 8)

/-- The head of a full window (R49). -/
def headOf (window : List Nat) : Option Nat := if window.length = 8 then some (window.sum / 8) else none

/-- A value in GOOD is handled by the input's role (R44, R48, R49). -/
def takeValue (i : Fin 16) (u : Nat) (s : State) : State :=
  match s.inputs[i].role with
  | .none => s
  | .salinity n => takeReading (.ppm u) n s
  | .level t =>
    let s1 := s.modInput i fun x => { x with window := windowWith x.window u, head := headOf (windowWith x.window u) }
    match s1.inputs[i].head with
    | some h => takeHead t h s1
    | none => s1

/-- A FAULT reading is handed to the train of a SALINITY input (R48). -/
def handFault (i : Fin 16) (s : State) : State :=
  match s.inputs[i].role with
  | .salinity n => takeReading .fault n s
  | _ => s

/-- Entry to FAULT is handed to the owner of the role (R45). -/
def handFaultEntry (i : Fin 16) (s : State) : State :=
  match s.inputs[i].role with
  | .none => s
  | .level t => levelLost t s
  | .salinity n => takeReading .fault n s

/-- The reading fields after a gate of count `f` (R44). -/
def FrequencyInput.gate (x : FrequencyInput) (f : Nat) : FrequencyInput :=
  { x with lastFrequency := some f,
           lastRaw := if x.defined then (if inBand f then some (rawOf f) else none) else x.lastRaw }

/-- The input enters FAULT (R45). -/
def FrequencyInput.enterFault (x : FrequencyInput) : FrequencyInput :=
  { x with fault := .fault, outRun := 0, inRun := 0, window := [], head := none }

/-- The input returns to GOOD (R45). -/
def FrequencyInput.clearFault (x : FrequencyInput) : FrequencyInput := { x with fault := .good, outRun := 0, inRun := 0 }

/-- A gate of count `f` would put the input in FAULT (R45). -/
def entersFault (x : FrequencyInput) (f : Nat) : Bool :=
  x.defined && x.fault == .good && !inBand f && 2 ≤ x.outRun

/-- A gate of count `f` would return the input to GOOD (R45). -/
def clearsFault (x : FrequencyInput) (f : Nat) : Bool :=
  x.defined && x.fault == .fault && inBand f && 2 ≤ x.inRun

/-- A gate of an input ends with the count `f` (R44, R45, R48, R49). -/
def gateEnd (i : Fin 16) (f : Nat) (s : State) : State :=
  let x := s.inputs[i]
  let s1 := s.modInput i fun x => x.gate f
  if !x.defined then s1
  else if entersFault x f then
    handFaultEntry i (post (.levelFault i true f) (s1.modInput i .enterFault))
  else if clearsFault x f then
    takeValue i (rawOf f) (post (.levelFault i false f) (s1.modInput i .clearFault))
  else
    match x.fault, inBand f with
    | .good, true => takeValue i (rawOf f) (s1.modInput i fun x => { x with outRun := 0 })
    | .good, false => s1.modInput i fun x => { x with outRun := x.outRun + 1 }
    | .fault, true => handFault i (s1.modInput i fun x => { x with inRun := x.inRun + 1 })
    | .fault, false => handFault i (s1.modInput i fun x => { x with inRun := 0 })

/-- A gate of count `f` would complete a train's quality hold (R140): the input is a SALINITY input in GOOD or returning to
it, its train is DIVERTING, the reading is within the limit, and the qualification timer is one short of the hold. -/
def completesHold (s : State) (i : Fin 16) (f : Nat) : Bool :=
  let x := s.inputs[i]
  match x.role with
  | .salinity n =>
    let w := s.trains[n]
    x.defined && inBand f && (x.fault == .good || clearsFault x f) && w.state == .diverting
      && rawOf f ≤ w.defn.salinityLimit && w.qualification.length ≤ w.qualification.count + 1
  | _ => false

end Sys2Proof.Machine
end

