-- ==== Sys2Proof/Machine/Operands.lean ====
section
/-!
DEFINITION. The fields of request bodies and of replies (spec/11 R183, R184): little-endian numbers, absence, presence
bytes, the codes of every enumeration in both directions, and the notice records (R186).
-/

namespace Sys2Proof.Machine

/-! ### Reading a body -/

/-- The byte at a place of a body as a number; the length check of R174 has been made before any field is read. -/
def u8At (body : List Byte) (i : Nat) : Nat := (body.getD i 0).toNat

/-- The two-byte number at a place, least significant byte first (R183). -/
def u16At (body : List Byte) (i : Nat) : Nat := u8At body i + 256 * u8At body (i + 1)

/-- The four-byte number at a place, least significant byte first (R183). -/
def u32At (body : List Byte) (i : Nat) : Nat := u16At body i + 65536 * u16At body (i + 2)

/-- An index of `n` objects, if it lies in range. -/
def indexOf (n x : Nat) : Option (Fin n) := if h : x < n then some ⟨x, h⟩ else none

/-- The nearer end of a range, or the value itself inside it (R175). -/
def clampTo (lo hi x : Nat) : Nat := max lo (min hi x)

/-- Whether a value lies in a range. -/
def inRange (lo hi x : Nat) : Bool := lo ≤ x && x ≤ hi

/-! ### Codes of request enumerations (R183) -/

/-- The side a code names. -/
def sideOf : Nat → Option Side
  | 0 => some .port
  | 1 => some .stbd
  | 2 => some .centre
  | _ => none

/-- The start state or the requested state a tank state code names (R5, R17). -/
def serviceStateOf : Nat → Option ServiceState
  | 2 => some .inService
  | 3 => some .quarantine
  | 4 => some .isolated
  | _ => none

/-- The counting mode a code names. -/
def meterModeOf : Nat → Option MeterMode
  | 0 => some .single
  | 1 => some .quad1
  | 2 => some .quad4
  | _ => none

/-- The arbiter mode a code names. -/
def arbiterModeOf : Nat → Option ArbiterMode
  | 0 => some .auto
  | 1 => some .manual
  | _ => none

/-- The train mode a code names. -/
def trainModeOf : Nat → Option TrainMode
  | 0 => some .auto
  | 1 => some .manual
  | 2 => some .disabled
  | _ => none

/-- The waters setting a code names. -/
def watersOf : Nat → Option Waters
  | 0 => some .restricted
  | 1 => some .opened
  | _ => none

/-- An on/off or in/out setting (mask off 0, on 1; service OUT 0, IN 1). -/
def settingOf : Nat → Option Bool
  | 0 => some false
  | 1 => some true
  | _ => none

/-! ### Writing a reply -/

/-- A one-byte number. -/
def enc1 (n : Nat) : List Byte := [BitVec.ofNat 8 n]

/-- A two-byte number, least significant byte first (R183). -/
def enc2 (n : Nat) : List Byte := [BitVec.ofNat 8 n, BitVec.ofNat 8 (n / 256)]

/-- A four-byte number, least significant byte first (R183). -/
def enc4 (n : Nat) : List Byte := enc2 n ++ enc2 (n / 65536)

/-- A 32-bit quantity. -/
def encWord (w : Word32) : List Byte := enc4 w.toNat

/-- A signed four-byte number in two's complement (R183). -/
def encSigned4 (i : Int) : List Byte := encWord (BitVec.ofInt 32 i)

/-- A yes/no byte (R183). -/
def encFlag (b : Bool) : List Byte := enc1 (if b then 1 else 0)

/-- An optional one-byte field, absent as 0xFF (R183). -/
def encOpt1 : Option Nat → List Byte
  | some n => enc1 n
  | none => enc1 0xFF

/-- An optional two-byte field, absent as 0xFFFF (R183). -/
def encOpt2 : Option Nat → List Byte
  | some n => enc2 n
  | none => enc2 0xFFFF

/-- An optional two-byte field with its presence byte (R183). -/
def encPresent2 : Option Nat → List Byte
  | some n => enc1 1 ++ enc2 n
  | none => enc1 0 ++ enc2 0

/-- An optional four-byte field with its presence byte (R183). -/
def encPresent4 : Option Nat → List Byte
  | some n => enc1 1 ++ enc4 n
  | none => enc1 0 ++ enc4 0

/-- A list of one-byte fields filled up to `n` of them with a byte. -/
def encPadded (n : Nat) (pad : Byte) (xs : List Nat) : List Byte :=
  (xs.flatMap enc1) ++ List.replicate (n - xs.length) pad

/-! ### Codes of reply enumerations (R183) -/

/-- The code of a side. -/
def Side.code : Side → Nat
  | .port => 0 | .stbd => 1 | .centre => 2

/-- The code of a tank state. -/
def TankState.code : TankState → Nat
  | .unconfigured => 0 | .unknown => 1 | .inService => 2 | .quarantine => 3 | .isolated => 4

/-- The code of an agreement. -/
def Agreement.code : Agreement → Nat
  | .unchecked => 0 | .agree => 1 | .disagree => 2

/-- The code of a seed origin. -/
def SeedOrigin.code : SeedOrigin → Nat
  | .automatic => 0 | .seed => 1 | .reseed => 2

/-- The code of a transfer role. -/
def TransferRole.code : TransferRole → Nat
  | .none => 0 | .source => 1 | .dest => 2

/-- The code of a counting mode. -/
def MeterMode.code : MeterMode → Nat
  | .single => 0 | .quad1 => 1 | .quad4 => 2

/-- The code of a meter role kind and the role index, 0 where there is none (R183). -/
def MeterRole.code : MeterRole → Nat × Nat
  | .none => (0, 0) | .supply => (1, 0) | .product n => (2, n.val) | .transfer => (3, 0) | .shore => (4, 0)
  | .line k => (5, k.val)

/-- The code of an input role kind and its target index, 0 where there is none (R183). The role NONE of an input that is not
defined is sent as UNDEFINED (DESIGN CHOICE, log 38). -/
def inputRoleCode (defined : Bool) : InputRole → Nat × Nat
  | .none => (if defined then 1 else 0, 0) | .level t => (2, t.val) | .salinity n => (3, n.val)

/-- The code of an input fault state. -/
def FaultState.code : FaultState → Nat
  | .good => 0 | .fault => 1

/-- The code of a line state. -/
def LineState.code : LineState → Nat
  | .unconfigured => 0 | .idle => 1 | .pending => 2 | .flowing => 3 | .suspended => 4 | .releaseWait => 5 | .fault => 6

/-- The code of a source or origin and its train index, 0 where there is none (R183). -/
def Source.code : Source → Nat × Nat
  | .contact => (0, 0) | .message => (1, 0) | .flush n => (2, n.val)

/-- The code of an arbiter mode. -/
def ArbiterMode.code : ArbiterMode → Nat
  | .auto => 0 | .manual => 1

/-- The code of a supply state. -/
def SupplyState.code : SupplyState → Nat
  | .down => 0 | .up => 1

/-- The code of a train state. -/
def TrainState.code : TrainState → Nat
  | .off => 0 | .priming => 1 | .ramping => 2 | .diverting => 3 | .producing => 4 | .flushWait => 5 | .flushing => 6
  | .fault => 7

/-- The code of a train mode. -/
def TrainMode.code : TrainMode → Nat
  | .auto => 0 | .manual => 1 | .disabled => 2

/-- The code of a stop cause. -/
def StopCause.code : StopCause → Nat
  | .callDropped => 0 | .hostStop => 1 | .restricted => 2 | .shed => 3 | .noTarget => 4 | .quality => 5 | .noProduct => 6
  | .modeDisabled => 7 | .manualFlush => 8

/-- The code of a train's fault cause. -/
def FaultCause.code : FaultCause → Nat
  | .quality => 0 | .noProduct => 1 | .unflushed => 2

/-- The code of a set state. -/
def SetState.code : SetState → Nat
  | .offLine => 0 | .idle => 1 | .starting => 2 | .running => 3 | .failed => 4

/-- The code of a waters setting. -/
def Waters.code : Waters → Nat
  | .restricted => 0 | .opened => 1

/-- The code of a transfer origin. -/
def TransferOrigin.code : TransferOrigin → Nat
  | .host => 0 | .balance => 1

/-- The code of a transfer's end (R186). -/
def TransferCause.code : TransferCause → Nat
  | .complete => 0 | .sourceLow => 1 | .destFull => 2 | .stopped => 3 | .stalled => 4 | .abortedTank => 5 | .shed => 6

/-- The code of a shore fill's end (R186). -/
def ShoreCause.code : ShoreCause → Nat
  | .complete => 0 | .full => 1 | .stopped => 2 | .abortedTank => 3

/-- The code of a line of the Link. -/
def lineCode : LinkLine → Nat
  | .a => 0 | .b => 1

/-- The code of the last write. -/
def LastWrite.code : LastWrite → Nat
  | .none => 0 | .done => 1 | .failed => 2

/-- The index of a holder of headroom (R183). -/
def Holder.code : Holder → Nat
  | .train n => n.val | .pump => 3

/-! ### Codes of notice causes (R186) -/

/-- The code of a TANK_STATE cause. -/
def TankCause.code : TankCause → Nat
  | .defined => 0 | .redefined => 1 | .undefined => 2 | .service => 3 | .autoSeed => 4 | .seed => 5 | .reseed => 6

/-- The code of a DUTY_CHANGED or NO_SUPPLY cause. -/
def DutyCause.code : DutyCause → Nat
  | .low => 0 | .leftService => 1 | .appeared => 2 | .review => 3

/-- The code of a SUPPLY_LEVEL cause. -/
def LevelCause.code : LevelCause → Nat
  | .reserve => 0 | .bands => 1 | .floor => 2

/-- The code of a DRAW_ENDED cause. -/
def EndCause.code : EndCause → Nat
  | .complete => 0 | .ended => 1 | .cancelled => 2 | .timedOut => 3 | .stalled => 4 | .supplyLost => 5

/-- The code of a LINE_FAULT cause. -/
def LineFaultCause.code : LineFaultCause → Nat
  | .timedOut => 0 | .stalled => 1

/-- The code of a SET_FAILED cause. -/
def SetFailCause.code : SetFailCause → Nat
  | .startProof => 0 | .proofLost => 1

/-- The code of a SET_CHANGEOVER cause. -/
def ChangeoverCause.code : ChangeoverCause → Nat
  | .proofFailed => 0 | .proofLost => 1 | .service => 2 | .recovery => 3 | .alternation => 4

/-- The code of a SHED cause. -/
def ShedCause.code : ShedCause → Nat
  | .allowance => 0 | .setReserve => 1

/-- The code of a STRAY_FLOW cause. -/
def StrayCause.code : StrayCause → Nat
  | .supply => 0 | .transfer => 1 | .shore => 2 | .line => 3

/-! ### Notice records (R186) -/

/-- A 32-bit value of a notice from a number. -/
def valueNat (n : Nat) : Word32 := BitVec.ofNat 32 n

/-- A signed 32-bit value of a notice. -/
def valueInt (i : Int) : Word32 := BitVec.ofInt 32 i

/-- The kind, subject, cause and value of a notice (R186). -/
def NoticeBody.record : NoticeBody → Nat × Nat × Nat × Word32
  | .tankState t c st => (0x01, t.val, c.code, valueNat st.code)
  | .disagree t entered d => (0x02, t.val, if entered then 0 else 1, valueInt d)
  | .levelFault i entered f => (0x03, i.val, if entered then 0 else 1, valueNat f)
  | .dutyChanged t c previous =>
    (0x04, t.val, c.code, match previous with | some p => valueNat p.val | none => 0xFFFFFFFF)
  | .noSupply t c q => (0x05, t.val, c.code, valueNat q)
  | .supplyLevel c level => (0x06, 0, c.code, valueNat level)
  | .drawEnded k c delivered => (0x07, k.val, c.code, valueNat delivered)
  | .aged k g wait => (0x08, k.val, g.val, valueNat wait)
  | .lineFault k c delivered => (0x09, k.val, c.code, valueNat delivered)
  | .setFailed x c timer => (0x0A, x.val, c.code, valueNat timer)
  | .setChangeover x c previous => (0x0B, x.val, c.code, valueNat previous.val)
  | .trainFault n c remaining => (0x0C, n.val, c.code, valueNat remaining)
  | .transferEnded src c moved => (0x0D, src.val, c.code, valueInt moved)
  | .shoreEnded t c filled => (0x0E, t.val, c.code, valueInt filled)
  | .shed h c effective => (0x0F, h.code, c.code, valueNat effective)
  | .strayFlow m c total => (0x10, m.val, c.code, total)
  | .saveDone => (0x11, 0, 0, 0)
  | .saveFailed => (0x12, 0, 0, 0)
  | .configDefaulted => (0x13, 0, 0, 0)

/-- The eleven bytes of a notice (R186). -/
def Notice.bytes (n : Notice) : List Byte :=
  encWord n.time ++ enc1 n.body.record.1 ++ enc1 n.body.record.2.1 ++ enc1 n.body.record.2.2.1
    ++ encWord n.body.record.2.2.2

end Sys2Proof.Machine
end

