-- ==== Sys2Proof/Machine/LinkOps.lean ====
section
/-!
DEFINITION. The Message Link's part of a request: status codes (spec/11, section 11.1), the reply frame (R173, R185), the
checks made before the owner's (R174, R175), and the receiver of a line (R172).
-/

namespace Sys2Proof.Machine

/-! ### Replies -/

/-- The status codes (spec/11, section 11.1). -/
inductive Status where
  | ok | okAdjusted | none | unknownKind | badLength | badIndex | badValue | notInControl | busy | wrongState | notSeeded
  | noPower | restricted | notConfigured
  deriving DecidableEq, Repr

/-- The code of a status. -/
def Status.code : Status → Byte
  | .ok => 0x00 | .okAdjusted => 0x01 | .none => 0x02 | .unknownKind => 0x10 | .badLength => 0x11 | .badIndex => 0x12
  | .badValue => 0x13 | .notInControl => 0x20 | .busy => 0x21 | .wrongState => 0x22 | .notSeeded => 0x23
  | .noPower => 0x24 | .restricted => 0x25 | .notConfigured => 0x26

/-- A reply: its status and the fields after it (R185). -/
structure Reply where
  status : Status
  fields : List Byte
  deriving DecidableEq, Repr

/-- A refusal: the status alone, and nothing changes (R175). -/
def refuse (st : Status) (s : State) : State × Reply := (s, ⟨st, []⟩)

/-- The reply OK with the status alone. -/
def okReply (s : State) : State × Reply := (s, ⟨.ok, []⟩)

/-- OK, or OK_ADJUSTED when a field was clamped (R175). -/
def okOr (adjusted : Bool) : Status := if adjusted then .okAdjusted else .ok

/-- The check byte of a frame's bytes from the length byte on: their sum with it is 0 modulo 256 (spec/10, section 10.1). -/
def checkByte (counted : List Byte) : Byte := -counted.sum

/-- The reply frame of a request of a kind and a tag (R173). -/
def replyFrame (kind tag : Byte) (r : Reply) : List Byte :=
  let counted := BitVec.ofNat 8 (3 + r.fields.length) :: (kind + 0x80) :: tag :: r.status.code :: r.fields
  Config.startByte :: counted ++ [checkByte counted]

/-! ### Requests -/

/-- The class of a request kind (spec/10, section 10.3). -/
inductive RequestClass where
  | query | configuration | operation
  deriving DecidableEq, Repr

/-- What the Link knows of a request kind: its code, its class, the length its body must have, and what its owner does. -/
structure Owner where
  kind : Byte
  class_ : RequestClass
  lengthOk : List Byte → Bool
  run : List Byte → State → State × Reply

/-- A body of a fixed length. -/
def bodyLength (n : Nat) (body : List Byte) : Bool := body.length == n

/-- The first failing check of R174 after the kind, if any. -/
def linkRefusal (own : Owner) (ln : LinkLine) (body : List Byte) (s : State) : Option Status :=
  if !own.lengthOk body then some .badLength
  else if own.class_ != .query && ln != authority s then some .notInControl
  else if own.class_ == .configuration && s.link.writing.isSome then some .busy
  else none

/-- The handling of a request: the Link's checks, then the owner's (R174). -/
def handleRequest (own : Owner) (ln : LinkLine) (body : List Byte) (s : State) : State × Reply :=
  match linkRefusal own ln body s with
  | some st => refuse st s
  | none => own.run body s

/-- A frame of a line is discarded: the count rises by 1, saturating, and the receiver hunts (R172). -/
def discardFrame (ln : LinkLine) (s : State) : State :=
  s.modSerial ln fun l => { l with receiver := .hunt, discards := satAdd 65535 l.discards 1 }

/-- A line takes a good frame as its request: its receiver hunts and the line is busy (R172, R173). -/
def takeLine (ln : LinkLine) (s : State) : State := s.modSerial ln fun l => { l with receiver := .hunt, busy := true }

/-- The reply of a request of a kind and a tag begins on its line (R173). -/
def sendReply (ln : LinkLine) (kind tag : Byte) (answered : State × Reply) : State :=
  answered.1.modSerial ln fun l => { l with reply := replyFrame kind tag answered.2 }

/-- A good frame completes on a line: discarded while the line is busy, otherwise taken as its request, handled whole, and
its reply formed from the state the handling leaves (R172, R173). -/
def takeFrame (kind tag : Byte) (ln : LinkLine) (handle : State → State × Reply) (s : State) : State :=
  if (s.link.serial ln).busy then discardFrame ln s else sendReply ln kind tag (handle (takeLine ln s))

/-- A request of a known kind arrives as a good frame (DESIGN CHOICE, log 8). -/
def takeRequest (own : Owner) (ln : LinkLine) (tag : Byte) (body : List Byte) (s : State) : State :=
  takeFrame own.kind tag ln (handleRequest own ln body) s

/-- The handling of a frame whose kind is no request kind (R174). -/
def takeUnknown (ln : LinkLine) (kind tag : Byte) (s : State) : State := takeFrame kind tag ln (refuse .unknownKind) s

/-- A good frame of any kind: the owner of its kind is looked for among those given. -/
def takeAny (owners : List Owner) (ln : LinkLine) (kind tag : Byte) (body : List Byte) (s : State) : State :=
  match owners.find? fun own => own.kind == kind with
  | some own => takeRequest own ln tag body s
  | none => takeUnknown ln kind tag s

/-! ### The receiver (R172) -/

/-- Whether a length byte is one a frame may carry. -/
def lengthByteOk (b : Byte) : Bool := inRange 2 200 b.toNat

/-- The sum test of CHECK: length byte, kept bytes and check byte sum to 0 modulo 256. -/
def sumHolds (n : Nat) (kept : List Byte) (b : Byte) : Bool := BitVec.ofNat 8 n + kept.sum + b == 0

/-- Writes the receiver of a line. -/
def setReceiver (ln : LinkLine) (r : Receiver) (s : State) : State := s.modSerial ln fun l => { l with receiver := r }

/-- A completed frame's kept bytes: the kind, the tag and the body. -/
def takeKept (owners : List Owner) (ln : LinkLine) (kept : List Byte) (s : State) : State :=
  match kept with
  | kind :: tag :: body => takeAny owners ln kind tag body s
  | _ => discardFrame ln s

/-- A byte with a good stop bit arrives (R172). -/
def takeByte (owners : List Owner) (ln : LinkLine) (b : Byte) (s : State) : State :=
  match (s.link.serial ln).receiver with
  | .hunt => if b = Config.startByte then setReceiver ln .length s else s
  | .length => if lengthByteOk b then setReceiver ln (.body b.toNat []) s else discardFrame ln s
  | .body n kept =>
    if kept.length + 1 < n then setReceiver ln (.body n (kept ++ [b])) s else setReceiver ln (.check n (kept ++ [b])) s
  | .check n kept => if sumHolds n kept b then takeKept owners ln kept s else discardFrame ln s

/-- A byte arrives with its stop bit good or low (R172): a framing error is ignored in HUNT and discards elsewhere. -/
def receiveByte (owners : List Owner) (ln : LinkLine) (b : Byte) (stopGood : Bool) (s : State) : State :=
  if stopGood then takeByte owners ln b s
  else if (s.link.serial ln).receiver = .hunt then s
  else discardFrame ln s

end Sys2Proof.Machine
end

