-- ==== Sys2Proof/Machine/PowerOps.lean ====
section
/-!
DEFINITION. The configuration store and power-on: the image of the definitions held (spec/10, section 10.6, R180), and the
state every block takes from an image (R4, R26, R43, R60, R81, R91, R123, R137, R162, R168, R174, R181).
-/

namespace Sys2Proof.Machine

/-! ### The image of the definitions held (R180) -/

/-- The saved part of a tank, if it is defined. -/
def Tank.saved (k : Tank) : Option SavedTank := if k.defined then some ⟨k.defn, k.strapping⟩ else none

/-- The definitions held, as an image for the store. -/
def imageOf (s : State) : Image :=
  { tanks := updAll s.tanks fun _ k => k.saved
    meters := updAll s.meters fun _ m => if m.defined then some m.defn else none
    inputs := updAll s.inputs fun _ x => if x.defined then some x.role else none
    lines := updAll s.lines fun _ l => if l.defined then some l.defn else none
    groups := updAll s.groups fun _ g => g.defn
    evaluator := s.eval.settings
    trains := updAll s.trains fun _ w => w.defn
    setA := s.sets.sets[0].defn
    setB := s.sets.sets[1].defn
    setSettings := s.sets.settings
    supplyLossHold := s.arb.supplyLossHold
    pump := s.transfer.pump
    trigger := s.link.trigger }

/-- A store write completes (R180). -/
def writeCompletes (checkHolds : Bool) (s : State) : State :=
  match s.link.writing with
  | none => s
  | some image =>
    if checkHolds then
      post .saveDone (s.modLink fun l => { l with writing := none, stored := some image, lastWrite := .done })
    else post .saveFailed (s.modLink fun l => { l with writing := none, lastWrite := .failed })

/-! ### Power-on (R181) -/

/-- The tank record of an image's tank (R4). -/
def tankFrom : Option SavedTank → Tank
  | some k => .fresh k.defn k.strapping .unknown
  | none => .unconfigured

/-- Whether an image gives line `k` a meter (R79). -/
def meteredIn (image : Image) (k : Fin 16) : Bool :=
  allMeters.any fun m => (image.meters[m].map (·.role)) == some (.line k)

/-- The rotation order of a group at power-on: its defined lines in ascending index (R83, R91). -/
def rotationIn (image : Image) (g : Fin 6) : List (Fin 16) :=
  allLines.filter fun k => (image.lines[k].map (·.group)) == some g

/-- The notices of a power-on: CONFIG_DEFAULTED when the defaults are loaded (R181). -/
def powerOnNotices (defaulted : Bool) : List Notice := if defaulted then [⟨0, .configDefaulted⟩] else []

/-- The Message Link at power-on; the configuration store keeps its image and a write in flight is lost
(R180, R181). The LOCAL sample is the level present (DESIGN CHOICE, log 3). -/
def linkFrom (image : Image) (defaulted localIn : Bool) (stored : Option Image) : Link :=
  { lineA := .fresh, lineB := .fresh, localSample := localIn, localAsserted := localIn,
    queue := powerOnNotices defaulted, overflow := false, trigger := image.trigger, snapshot := none,
    stored := stored, writing := none, lastWrite := .none }

/-- The state every block takes at power-on from an image (R181). The commands that wait keep waiting and the free
choices go on (DESIGN CHOICE, logs 4 and 10). -/
def stateFrom (image : Image) (defaulted : Bool) (phaseA phaseB : BitVec 24) (localIn : Bool) (s : State) : State :=
  { now := 0
    tanks := updAll image.tanks fun _ k => tankFrom k
    meters := updAll image.meters fun m d => .fresh d (phaseA.getLsb m) (phaseB.getLsb m)
    strayTotal := 0
    inputs := updAll image.inputs fun _ r => .fresh r
    eval := .fresh image.evaluator
    lines := updAll image.lines fun k d => .fresh d (meteredIn image k)
    groups := updAll image.groups fun g d => ⟨d, rotationIn image g⟩
    arb := .fresh image.supplyLossHold
    sets := .fresh image.setA image.setB image.setSettings
    trains := updAll image.trains fun _ d => .fresh d
    waters := .restricted
    startOrder := [0, 1, 2]
    transfer := ⟨image.pump, none, 0, .idle, none⟩
    shore := ⟨none, 0, none⟩
    power := ⟨0, []⟩
    link := linkFrom image defaulted localIn s.link.stored
    out := s.out
    due := []
    choices := s.choices
    pending := s.pending }

/-- Power-on: the stored image if there is one and its sum check holds, otherwise the defaults (R181; DESIGN CHOICE, log 16). -/
def powerOn (storeGood : Bool) (phaseA phaseB : BitVec 24) (localIn : Bool) (s : State) : State :=
  match s.link.stored, storeGood with
  | some image, true => stateFrom image false phaseA phaseB localIn s
  | _, _ => stateFrom .defaults true phaseA phaseB localIn s

end Sys2Proof.Machine
end

