-- ==== Sys2Proof/Machine/Configuration.lean ====
section
/-!
DEFINITION. The fourteen configuration kinds, codes 0x20 to 0x2F (spec/11, section 11.3): the DEFINE kinds, LOAD STRAPPING,
the settings of the evaluator, SET NOTICE TRIGGER and SAVE CONFIGURATION. Each kind has its owner's handling (`run…`), its
entry for the Link (`own…`) and the meaning of its row (`exec…`), a request frame that arrives whole on a line (DESIGN CHOICE, log 8).
-/

namespace Sys2Proof.Machine

/-! ### Checks -/

/-- The first check of a table that fails gives the reply; a request that passes all goes on (R175). -/
def checked (table : List (Bool × Status)) (s : State) (go : State × Reply) : State × Reply :=
  match table.find? fun row => !row.1 with
  | some row => refuse row.2 s
  | none => go

/-- The reply OK, or OK_ADJUSTED for a clamped request, with the status alone. -/
def accept (adjusted : Bool) (s : State) : State × Reply := (s, ⟨okOr adjusted, []⟩)

/-- Whether clamping changes a field. -/
def clamps (lo hi x : Nat) : Bool := !inRange lo hi x

/-- Whether a list of numbers does not increase. -/
def nonIncreasing : List Nat → Bool
  | x :: y :: rest => y ≤ x && nonIncreasing (y :: rest)
  | _ => true

/-! ### DEFINE TANK -/

/-- The tag of a body: eight bytes from a place. -/
def tagAt (body : List Byte) (i : Nat) : List Byte := (List.range 8).map fun j => body.getD (i + j) 0

/-- Whether each character of a tag lies in 0x20 to 0x7E (R1). -/
def tagOk (tag : List Byte) : Bool := tag.all fun b => inRange 0x20 0x7E b.toNat

/-- The volume of the last point of a strapping table, 0 for an empty one. -/
def lastVolume (points : List StrapPoint) : Nat := (points.getLast?.map (·.volume)).getD 0

/-- Whether the marks and the tolerance of a definition are consistent (R5). -/
def marksOk (capacity low fillStop tolerance : Nat) : Bool :=
  low + 1 ≤ capacity && low < fillStop && fillStop ≤ capacity && inRange 20 5000 tolerance

/-- The definition a DEFINE TANK body carries, if every field is in order for the tank (R5). -/
def tankDefOf (body : List Byte) (k : Tank) : Option TankDef :=
  match sideOf (u8At body 9), serviceStateOf (u8At body 20) with
  | some side, some start =>
    if inRange 500 60000 (u16At body 10) && tagOk (tagAt body 1)
        && marksOk (u16At body 10) (u16At body 12) (u16At body 14) (u16At body 16)
        && lastVolume k.strapping ≤ u16At body 10 then
      some { tag := tagAt body 1, side := side, capacity := u16At body 10, lowMark := u16At body 12,
             fillStop := u16At body 14, tolerance := u16At body 16, quietTime := clampTo 30 600 (u16At body 18),
             startState := start }
    else none
  | _, _ => none

/-- DEFINE TANK of one tank (R5 to R8). An accepted removal replies OK whatever its quiet time holds (DESIGN CHOICE, log 37). -/
def defineTank (t : Fin 12) (body : List Byte) (s : State) : State × Reply :=
  let k := s.tanks[t]
  if u16At body 10 = 0 then checked [(!k.holdsRole, .busy)] s (okReply (removeTankDef t s))
  else
    match tankDefOf body k with
    | none => refuse .badValue s
    | some d => checked [(!k.holdsRole, .busy)] s (accept (clamps 30 600 (u16At body 18)) (applyTankDef t d s))

/-- DEFINE TANK (R5). -/
def runDefineTank (body : List Byte) (s : State) : State × Reply :=
  match indexOf 12 (u8At body 0) with
  | none => refuse .badIndex s
  | some t => defineTank t body s
/-- The kind DEFINE TANK. -/
def ownDefineTank : Owner := ⟨0x20, .configuration, bodyLength 21, runDefineTank⟩
/-- DEFINE_TANK (R5). -/
def execDefineTank (ln : LinkLine) (tag : Byte) (body : List Byte) (s : State) : Host.Outcome State Fault Refusal :=
  done (takeRequest ownDefineTank ln tag body s)

/-! ### LOAD STRAPPING -/

/-- The points of a LOAD STRAPPING body. -/
def pointsOf (body : List Byte) : List StrapPoint :=
  (List.range (u8At body 1)).map fun i => ⟨u16At body (2 + 4 * i), u16At body (4 + 4 * i)⟩

/-- Whether heads rise strictly and volumes do not fall from point to point (R50). -/
def pointsRise : List StrapPoint → Bool
  | p :: q :: rest => p.head < q.head && p.volume ≤ q.volume && pointsRise (q :: rest)
  | _ => true

/-- The checks of R50 after the index. -/
def strappingChecks (k : Tank) (points : List StrapPoint) : List (Bool × Status) :=
  [(k.defined, .notConfigured), (points.length == 0 || inRange 2 12 points.length, .badValue),
    (points.all fun p => p.head ≤ 4000, .badValue), (pointsRise points, .badValue),
    (lastVolume points ≤ k.defn.capacity, .badValue), (!k.holdsRole, .busy)]

/-- Empties the level window of the input that holds LEVEL(t) (R49, R51). -/
def emptyWindow (t : Fin 12) (s : State) : State :=
  { s with inputs := updAll s.inputs fun _ x =>
      if x.defined && x.role == .level t then { x with window := [], head := none } else x }

/-- An accepted LOAD STRAPPING (R51). -/
def loadStrapping (t : Fin 12) (points : List StrapPoint) (s : State) : State :=
  levelLost t (emptyWindow t (s.modTank t fun k => { k with strapping := points }))

/-- LOAD STRAPPING (R50). -/
def runLoadStrapping (body : List Byte) (s : State) : State × Reply :=
  match indexOf 12 (u8At body 0) with
  | none => refuse .badIndex s
  | some t => checked (strappingChecks s.tanks[t] (pointsOf body)) s (okReply (loadStrapping t (pointsOf body) s))
/-- The kind LOAD STRAPPING: its length follows its point count, and a body too short for the count is BAD_LENGTH
(R184). -/
def ownLoadStrapping : Owner :=
  ⟨0x21, .configuration, fun body => 2 ≤ body.length && body.length == 2 + 4 * u8At body 1, runLoadStrapping⟩
/-- LOAD_STRAPPING (R50). -/
def execLoadStrapping (ln : LinkLine) (tag : Byte) (body : List Byte) (s : State) : Host.Outcome State Fault Refusal :=
  done (takeRequest ownLoadStrapping ln tag body s)

/-! ### DEFINE METER -/

/-- The role that a role kind and a role index name, or the status that refuses them (R39, R184). -/
def meterRoleOf (kind index : Nat) : Except Status MeterRole :=
  match kind with
  | 0 => .ok .none
  | 1 => .ok .supply
  | 2 => match indexOf 3 index with
    | some n => .ok (.product n)
    | none => .error .badIndex
  | 3 => .ok .transfer
  | 4 => .ok .shore
  | 5 => match indexOf 16 index with
    | some k => .ok (.line k)
    | none => .error .badIndex
  | _ => .error .badValue

/-- Another defined channel holds the role (R39). -/
def roleTaken (s : State) (m : Fin 24) (r : MeterRole) : Bool :=
  r != .none && allMeters.any fun j => j != m && s.meters[j].defined && s.meters[j].defn.role == r

/-- The line of a LINE role. -/
def lineOfRole : MeterRole → Option (Fin 16)
  | .line k => some k
  | _ => none

/-- A line gets or loses its meter (R40, R81). -/
def setMetered (k : Fin 16) (metered : Bool) (s : State) : State :=
  s.modLine k fun l =>
    { l with metered := metered, state := if metered && l.defined then restState l else .unconfigured }

/-- The lines take a channel's change of role; a role kept changes nothing (R40, R81). -/
def handRoles (old new : MeterRole) (s : State) : State :=
  if old = new then s
  else
    let s1 := match lineOfRole old with
      | some k => setMetered k false s
      | none => s
    match lineOfRole new with
    | some k => setMetered k true s1
    | none => s1

/-- The channel takes a definition or loses it, its running fields cleared, and hands over its role (R40). -/
def applyMeterDef (m : Fin 24) (d : Option MeterDef) (s : State) : State :=
  handRoles s.meters[m].defn.role (d.getD .default).role
    (s.modMeter m fun c => .fresh d c.phaseA c.phaseB)

/-- A DEFINE METER with K-factor 0 (R39, R40). -/
def removeMeter (m : Fin 24) (s : State) : State × Reply :=
  checked [(!roleBusy s.meters[m].defn.role s, .busy)] s
    (okReply (if s.meters[m].defined then applyMeterDef m none s else s))

/-- The checks of R39 after the role is read. -/
def meterChecks (s : State) (m : Fin 24) (r : MeterRole) : List (Bool × Status) :=
  [(!roleTaken s m r, .badValue), (!roleBusy s.meters[m].defn.role s, .busy), (!roleBusy r s, .busy)]

/-- DEFINE METER of one channel (R39, R40). -/
def defineMeter (m : Fin 24) (body : List Byte) (s : State) : State × Reply :=
  if u16At body 2 = 0 then removeMeter m s
  else if 1000 < u16At body 2 then refuse .badValue s
  else
    match meterModeOf (u8At body 1), meterRoleOf (u8At body 4) (u8At body 5) with
    | none, _ => refuse .badValue s
    | _, .error st => refuse st s
    | some mode, .ok r =>
      checked (meterChecks s m r) s (okReply (applyMeterDef m (some ⟨mode, u16At body 2, r⟩) s))

/-- DEFINE METER (R39). -/
def runDefineMeter (body : List Byte) (s : State) : State × Reply :=
  match indexOf 24 (u8At body 0) with
  | none => refuse .badIndex s
  | some m => defineMeter m body s
/-- The kind DEFINE METER. -/
def ownDefineMeter : Owner := ⟨0x22, .configuration, bodyLength 6, runDefineMeter⟩
/-- DEFINE_METER (R39). -/
def execDefineMeter (ln : LinkLine) (tag : Byte) (body : List Byte) (s : State) : Host.Outcome State Fault Refusal :=
  done (takeRequest ownDefineMeter ln tag body s)

/-! ### DEFINE FREQUENCY INPUT -/

/-- The role that a role kind and a target index name, none for UNDEFINED, or the status that refuses them (R46). -/
def inputRoleOf (kind target : Nat) : Except Status (Option InputRole) :=
  match kind with
  | 0 => .ok none
  | 1 => .ok (some .none)
  | 2 => match indexOf 12 target with
    | some t => .ok (some (.level t))
    | none => .error .badIndex
  | 3 => match indexOf 3 target with
    | some n => .ok (some (.salinity n))
    | none => .error .badIndex
  | _ => .error .badValue

/-- Another defined input holds the role (R46). -/
def inputRoleTaken (s : State) (i : Fin 16) (r : InputRole) : Bool :=
  r != .none && allInputs.any fun j => j != i && s.inputs[j].defined && s.inputs[j].role == r

/-- The input's record under a new definition (R47). -/
def FrequencyInput.define (x : FrequencyInput) : Option InputRole → FrequencyInput
  | none => { x with defined := false, role := .none, lastRaw := none, fault := .good, outRun := 0, inRun := 0,
                     window := [], head := none }
  | some r => { x with defined := true, role := r, window := [], head := none }

/-- A role is given up (R47). -/
def giveUpInput : InputRole → State → State
  | .none, s => s
  | .level t, s => levelLost t s
  | .salinity n, s => takeReading .fault n s

/-- A role stands after the request: a LEVEL role starts a fresh window, and a SALINITY role newly taken up in FAULT hands
its train a FAULT reading (R47). -/
def takeUpInput (changed : Bool) (st : FaultState) : InputRole → State → State
  | .none, s => s
  | .level t, s => levelLost t s
  | .salinity n, s => if changed && st == .fault then takeReading .fault n s else s

/-- An accepted DEFINE FREQUENCY INPUT: the role given up first, then the role that stands (R47; DEDUCED, log 26). -/
def applyInputDef (i : Fin 16) (d : Option InputRole) (s : State) : State :=
  let old := s.inputs[i].role
  let new := d.getD .none
  let s1 := s.modInput i fun x => x.define d
  takeUpInput (old != new) s.inputs[i].fault new (if old != new then giveUpInput old s1 else s1)

/-- DEFINE FREQUENCY INPUT of one input (R46, R47). -/
def defineInput (i : Fin 16) (body : List Byte) (s : State) : State × Reply :=
  match inputRoleOf (u8At body 1) (u8At body 2) with
  | .error st => refuse st s
  | .ok d =>
    checked [(!inputRoleTaken s i (d.getD .none), .badValue)] s
      (okReply (if d.isNone && !s.inputs[i].defined then s else applyInputDef i d s))

/-- DEFINE FREQUENCY INPUT (R46). -/
def runDefineFrequencyInput (body : List Byte) (s : State) : State × Reply :=
  match indexOf 16 (u8At body 0) with
  | none => refuse .badIndex s
  | some i => defineInput i body s
/-- The kind DEFINE FREQUENCY INPUT. -/
def ownDefineFrequencyInput : Owner := ⟨0x23, .configuration, bodyLength 3, runDefineFrequencyInput⟩
/-- DEFINE_FREQUENCY_INPUT (R46). -/
def execDefineFrequencyInput (ln : LinkLine) (tag : Byte) (body : List Byte) (s : State) :
    Host.Outcome State Fault Refusal :=
  done (takeRequest ownDefineFrequencyInput ln tag body s)

/-! ### DEFINE LINES -/

/-- The line index bytes of a DEFINE LINES body. -/
def listedLines (body : List Byte) : List Nat := (List.range (u8At body 0)).map fun i => u8At body (1 + i)

/-- The line set, in ascending index; a line listed more than once is a single member (R184). -/
def lineSet (body : List Byte) : List (Fin 16) := allLines.filter fun k => (listedLines body).contains k.val

/-- The source that a source kind and a train byte name, or the status that refuses them (R85, R184). -/
def sourceOf (kind train : Nat) : Except Status Source :=
  match kind with
  | 0 => .ok .contact
  | 1 => .ok .message
  | 2 => match indexOf 3 train with
    | some n => .ok (.flush n)
    | none => .error .badIndex
  | _ => .error .badValue

/-- The definition a DEFINE LINES body carries from the place `o` after its indices, or the status that refuses it, in the
order of R85: group, source kind, train, max batch, default batch. -/
def lineDefOf (body : List Byte) (o : Nat) : Except Status LineDef :=
  match indexOf 6 (u8At body o), sourceOf (u8At body (o + 10)) (u8At body (o + 11)) with
  | none, _ => .error .badIndex
  | _, .error st => .error st
  | some g, .ok src =>
    if inRange 1 20000 (u16At body (o + 4)) && inRange 1 (u16At body (o + 4)) (u16At body (o + 2)) then
      .ok { group := g, flow := u8At body (o + 1), defaultBatch := u16At body (o + 2), maxBatch := u16At body (o + 4),
            maxDuration := clampTo 10 7200 (u16At body (o + 6)), stallTime := clampTo 10 300 (u16At body (o + 8)),
            source := src }
    else .error .badValue

/-- A flush source names one line, and no defined line outside the set has it (R85). -/
def flushSourceOk (s : State) (ks : List (Fin 16)) (src : Source) : Bool :=
  match src with
  | .flush _ => ks.length == 1 && allLines.all fun k => ks.contains k || !s.lines[k].defined || s.lines[k].defn.source != src
  | _ => true

/-- No line of a set holds a draw (R85). -/
def linesFree (s : State) (ks : List (Fin 16)) : Bool :=
  ks.all fun k => s.lines[k].state != .pending && s.lines[k].state != .flowing && s.lines[k].state != .suspended

/-- The state of a line that was defined before, under its new definition (R86). -/
def redefinedState (l : DrawLine) (src : Source) : LineState :=
  if l.state == .idle && src == .contact && l.asserted then .releaseWait
  else if l.state == .releaseWait && src != .contact then .idle
  else l.state

/-- A line not defined before is defined (R86, R81). -/
def newLine (d : LineDef) (k : Fin 16) (s : State) : State :=
  (s.modLine k fun l =>
      let l := { l with defined := true, defn := d }
      { l with state := if l.metered then restState l else .unconfigured }).modGroup d.group fun g =>
    { g with rotation := g.rotation ++ [k] }

/-- A defined line moves from its group's order to the bottom of another's (R86, R93). -/
def moveGroup (k : Fin 16) (old new : Fin 6) (s : State) : State :=
  if old = new then s
  else (s.modGroup old fun g => { g with rotation := g.rotation.filter (· != k) }).modGroup new fun g =>
    { g with rotation := g.rotation ++ [k] }

/-- A line defined before is redefined (R86). -/
def redefineLine (d : LineDef) (k : Fin 16) (s : State) : State :=
  moveGroup k s.lines[k].defn.group d.group
    (s.modLine k fun l => { l with defn := d, state := redefinedState l d.source })

/-- A definition is given to one line (R86). -/
def defineLine (d : LineDef) (s : State) (k : Fin 16) : State :=
  if s.lines[k].defined then redefineLine d k s else newLine d k s

/-- The definition of one line is removed (R86). -/
def removeLine (s : State) (k : Fin 16) : State :=
  if s.lines[k].defined then
    (s.modGroup s.lines[k].defn.group fun g => { g with rotation := g.rotation.filter (· != k) }).modLine k fun l =>
      { l with defined := false, defn := .default, state := .unconfigured }
  else s

/-- DEFINE LINES of a set with a nominal flow above 0 (R85, R86). -/
def defineLineSet (ks : List (Fin 16)) (body : List Byte) (o : Nat) (s : State) : State × Reply :=
  match lineDefOf body o with
  | .error st => refuse st s
  | .ok d =>
    checked [(flushSourceOk s ks d.source, .badValue), (linesFree s ks, .busy)] s
      (accept (clamps 10 7200 (u16At body (o + 6)) || clamps 10 300 (u16At body (o + 8))) (ks.foldl (defineLine d) s))

/-- DEFINE LINES (R85, R86, R184). An accepted removal replies OK whatever its time fields hold (DESIGN CHOICE, log 33). -/
def runDefineLines (body : List Byte) (s : State) : State × Reply :=
  let o := 1 + u8At body 0
  let ks := lineSet body
  if u8At body 0 = 0 then refuse .badValue s
  else if (listedLines body).any fun k => 15 < k then refuse .badIndex s
  else if u8At body (o + 1) = 0 then checked [(linesFree s ks, .busy)] s (okReply (ks.foldl removeLine s))
  else if 200 < u8At body (o + 1) then refuse .badValue s
  else defineLineSet ks body o s
/-- The kind DEFINE LINES: its length follows its line count, and an empty body is BAD_LENGTH (R184). -/
def ownDefineLines : Owner :=
  ⟨0x24, .configuration, fun body => 1 ≤ body.length && body.length == 13 + u8At body 0, runDefineLines⟩
/-- DEFINE_LINES (R85). -/
def execDefineLines (ln : LinkLine) (tag : Byte) (body : List Byte) (s : State) : Host.Outcome State Fault Refusal :=
  done (takeRequest ownDefineLines ln tag body s)

/-! ### DEFINE GROUP -/

/-- The admit level a DEFINE GROUP gives a group: not read for G0 (R84). -/
def admitLevelFor (g : Fin 6) (present given : Nat) : Nat := if g = 0 then present else given

/-- An accepted DEFINE GROUP: a change of admit level starts a pass (R84, R97). -/
def applyGroupDef (g : Fin 6) (admitted patience : Nat) (s : State) : State :=
  let s1 := s.modGroup g fun r => { r with defn := ⟨admitted, patience⟩ }
  if admitted = s.groups[g].defn.admitLevel then s1 else grantPass s1

/-- DEFINE GROUP (R84). -/
def runDefineGroup (body : List Byte) (s : State) : State × Reply :=
  match indexOf 6 (u8At body 0) with
  | none => refuse .badIndex s
  | some g =>
    checked [(g == 0 || inRange 1 7 (u8At body 1), .badValue)] s
      (accept (clamps 10 3600 (u16At body 2))
        (applyGroupDef g (admitLevelFor g s.groups[g].defn.admitLevel (u8At body 1)) (clampTo 10 3600 (u16At body 2)) s))
/-- The kind DEFINE GROUP. -/
def ownDefineGroup : Owner := ⟨0x25, .configuration, bodyLength 4, runDefineGroup⟩
/-- DEFINE_GROUP (R84). -/
def execDefineGroup (ln : LinkLine) (tag : Byte) (body : List Byte) (s : State) : Host.Outcome State Fault Refusal :=
  done (takeRequest ownDefineGroup ln tag body s)

/-! ### Settings of the Supply Evaluator -/

/-- The `n` two-byte bands at the start of a body. -/
def bandsOf (n : Nat) (body : List Byte) : List Nat := (List.range n).map fun i => u16At body (2 * i)

/-- Whether bands and their hysteresis are in order (R73, R75). -/
def bandsOk (bands : List Nat) (hysteresis limit : Nat) : Bool :=
  bands.all (· ≤ 1000) && hysteresis ≤ limit && nonIncreasing bands

/-- An accepted SET SUPPLY BANDS (R74). -/
def applySupplyBands (bands : List Nat) (hysteresis : Nat) (s : State) : State :=
  workOutComputed .bands (s.modEval fun e =>
    { e with settings := { e.settings with supplyBands := bands, hysteresis := hysteresis } })

/-- SET SUPPLY BANDS (R73). -/
def runSetSupplyBands (body : List Byte) (s : State) : State × Reply :=
  checked [(bandsOk (bandsOf 7 body) (u8At body 14) 100, .badValue)] s
    (okReply (applySupplyBands (bandsOf 7 body) (u8At body 14) s))
/-- The kind SET SUPPLY BANDS. -/
def ownSetSupplyBands : Owner := ⟨0x26, .configuration, bodyLength 15, runSetSupplyBands⟩
/-- SET_SUPPLY_BANDS (R73). -/
def execSetSupplyBands (ln : LinkLine) (tag : Byte) (body : List Byte) (s : State) : Host.Outcome State Fault Refusal :=
  done (takeRequest ownSetSupplyBands ln tag body s)

/-- The call count changes from `old`: the Trains make the start and the stop check (R65, R148, R149; DEDUCED, log 11). -/
def handCall (old : Nat) (s : State) : State := if s.eval.callCount = old then s else stopCheck (startCheck s)

/-- An accepted SET PRODUCTION BANDS (R75). -/
def applyProductionBands (bands : List Nat) (hysteresis : Nat) (s : State) : State :=
  handCall s.eval.callCount (workOutCall (s.modEval fun e =>
    { e with settings := { e.settings with productionBands := bands, productionHysteresis := hysteresis } }))

/-- SET PRODUCTION BANDS (R75). -/
def runSetProductionBands (body : List Byte) (s : State) : State × Reply :=
  checked [(bandsOk (bandsOf 3 body) (u8At body 6) 200, .badValue)] s
    (okReply (applyProductionBands (bandsOf 3 body) (u8At body 6) s))
/-- The kind SET PRODUCTION BANDS. -/
def ownSetProductionBands : Owner := ⟨0x27, .configuration, bodyLength 7, runSetProductionBands⟩
/-- SET_PRODUCTION_BANDS (R75). -/
def execSetProductionBands (ln : LinkLine) (tag : Byte) (body : List Byte) (s : State) :
    Host.Outcome State Fault Refusal :=
  done (takeRequest ownSetProductionBands ln tag body s)

/-- Whether a balance band and limit are in order (R76). -/
def balanceOk (band limit : Nat) : Bool :=
  band ≤ 20000 && (limit == 0 || (inRange 501 30000 limit && band < limit))

/-- SET BALANCE (R76). -/
def runSetBalance (body : List Byte) (s : State) : State × Reply :=
  checked [(balanceOk (u16At body 0) (u16At body 2), .badValue)] s
    (accept (clamps 60 3600 (u16At body 4)) (s.modEval fun e =>
      { e with settings := { e.settings with balanceBand := u16At body 0, balanceLimit := u16At body 2,
                                             reviewPeriod := clampTo 60 3600 (u16At body 4) } }))
/-- The kind SET BALANCE. -/
def ownSetBalance : Owner := ⟨0x28, .configuration, bodyLength 6, runSetBalance⟩
/-- SET_BALANCE (R76). -/
def execSetBalance (ln : LinkLine) (tag : Byte) (body : List Byte) (s : State) : Host.Outcome State Fault Refusal :=
  done (takeRequest ownSetBalance ln tag body s)

/-! ### DEFINE TRAIN -/

/-- The definition a DEFINE TRAIN body carries for a flush line, its time fields clamped (R155). -/
def trainDefOf (body : List Byte) (flushLine : Fin 16) : TrainDef :=
  { ratedPower := u8At body 1, primeTime := clampTo 10 600 (u16At body 2), rampTime := clampTo 10 300 (u16At body 4),
    qualificationHold := clampTo 10 900 (u16At body 6), divertMax := clampTo 60 3600 (u16At body 8),
    salinityLimit := u16At body 10, flushVolume := u16At body 12, flushWaitMax := clampTo 30 900 (u16At body 14),
    minRun := clampTo 0 7200 (u16At body 16), minRest := clampTo 0 3600 (u16At body 18),
    productStall := clampTo 10 300 (u16At body 20), flushLine := flushLine }

/-- Whether a time field of a DEFINE TRAIN is clamped (R155). -/
def trainClamped (body : List Byte) : Bool :=
  clamps 10 600 (u16At body 2) || clamps 10 300 (u16At body 4) || clamps 10 900 (u16At body 6)
    || clamps 60 3600 (u16At body 8) || clamps 30 900 (u16At body 14) || clamps 0 7200 (u16At body 16)
    || clamps 0 3600 (u16At body 18) || clamps 10 300 (u16At body 20)

/-- Whether a train may be redefined: OFF or FAULT, with no flush placed (R155). -/
def Train.free (w : Train) : Bool := (w.state == .off || w.state == .fault) && !w.flushPlaced

/-- The train's record under a new definition; a rated power of 0 takes a train in FAULT to OFF (R155). -/
def Train.define (d : TrainDef) (w : Train) : Train :=
  if d.ratedPower = 0 && w.state == .fault then
    { w with defn := d, state := .off, stopCause := none, faultCause := none, rest := none, retry := false }
  else { w with defn := d }

/-- The value checks of R155 after the index. -/
def trainValuesOk (body : List Byte) : Bool :=
  u8At body 1 ≤ 80 && inRange 50 2000 (u16At body 10) && inRange 20 1000 (u16At body 12)

/-- DEFINE TRAIN of one train (R155). -/
def defineTrain (n : Fin 3) (body : List Byte) (s : State) : State × Reply :=
  if !trainValuesOk body then refuse .badValue s
  else
    match indexOf 16 (u8At body 22) with
    | none => refuse .badIndex s
    | some k =>
      checked [(s.trains[n].free, .busy)] s
        (accept (trainClamped body) (startCheck (s.modTrain n (Train.define (trainDefOf body k)))))

/-- DEFINE TRAIN (R155). -/
def runDefineTrain (body : List Byte) (s : State) : State × Reply :=
  match indexOf 3 (u8At body 0) with
  | none => refuse .badIndex s
  | some n => defineTrain n body s
/-- The kind DEFINE TRAIN. -/
def ownDefineTrain : Owner := ⟨0x29, .configuration, bodyLength 23, runDefineTrain⟩
/-- DEFINE_TRAIN (R155). -/
def execDefineTrain (ln : LinkLine) (tag : Byte) (body : List Byte) (s : State) : Host.Outcome State Fault Refusal :=
  done (takeRequest ownDefineTrain ln tag body s)

/-! ### DEFINE SETS -/

/-- The set definitions a DEFINE SETS body carries. -/
def setDefOf (body : List Byte) (x : Fin 2) : SetDef :=
  if x = 0 then ⟨u16At body 0, u8At body 2⟩ else ⟨u16At body 3, u8At body 5⟩

/-- The settings a DEFINE SETS body carries, its time fields clamped (R133). -/
def setSettingsOf (body : List Byte) : SetSettings :=
  { reserve := u16At body 6, startProof := clampTo 3 60 (u8At body 8), changeover := clampTo 2 60 (u8At body 9),
    alternation := clampTo 0 336 (u16At body 10) }

/-- Whether a time field of a DEFINE SETS is clamped (R133). -/
def setsClamped (body : List Byte) : Bool :=
  clamps 3 60 (u8At body 8) || clamps 2 60 (u8At body 9) || clamps 0 336 (u16At body 10)
    || clamps 5 300 (u16At body 12)

/-- Whether a set in STARTING or RUNNING would be given a capacity of 0 (R133). -/
def zeroesActive (s : State) (body : List Byte) : Bool :=
  allSets.any fun x =>
    (s.sets.sets[x].state == .starting || s.sets.sets[x].state == .running) && (setDefOf body x).capacity == 0

/-- The checks of R133. -/
def setsChecks (s : State) (body : List Byte) : List (Bool × Status) :=
  [(allSets.all fun x => (setDefOf body x).capacity ≤ 600, .badValue),
    (allSets.all fun x => (setDefOf body x).ratedPower ≤ 250, .badValue),
    (u16At body 6 ≤ 600, .badValue), (!zeroesActive s body, .busy)]

/-- The fields of a DEFINE SETS are written at one event; a period above 0 starts an absent alternation timer (R128,
R133). -/
def writeSets (body : List Byte) (s : State) : State :=
  { s with
    sets := { s.sets with
      sets := updAll s.sets.sets fun x p => { p with defn := setDefOf body x }
      settings := setSettingsOf body
      alternationTimer := match s.sets.alternationTimer with
        | some t => some t
        | none =>
          if (setSettingsOf body).alternation = 0 then none else some (.start (setSettingsOf body).alternation) }
    arb := { s.arb with supplyLossHold := clampTo 5 300 (u16At body 12) } }

/-- The cause of a changeover that a DEFINE SETS brings: SERVICE when it takes the duty set's capacity, RECOVERY when it
makes the standby usable (R124). -/
def defineCause (s : State) : ChangeoverCause := if (dutySet s).usable then .service else .recovery

/-- An accepted DEFINE SETS: the sets settle, then the Power Allowance takes the set reserve (R133, R160; DEDUCED, log 27). -/
def applySets (body : List Byte) (s : State) : State :=
  allowanceChanged .setReserve (effectiveAllowance s) (settleSets (defineCause s) (writeSets body s))

/-- DEFINE SETS (R133). -/
def runDefineSets (body : List Byte) (s : State) : State × Reply :=
  checked (setsChecks s body) s (accept (setsClamped body) (applySets body s))
/-- The kind DEFINE SETS. -/
def ownDefineSets : Owner := ⟨0x2A, .configuration, bodyLength 14, runDefineSets⟩
/-- DEFINE_SETS (R133). -/
def execDefineSets (ln : LinkLine) (tag : Byte) (body : List Byte) (s : State) : Host.Outcome State Fault Refusal :=
  done (takeRequest ownDefineSets ln tag body s)

/-! ### DEFINE TRANSFER PUMP, SET NOTICE TRIGGER, SAVE CONFIGURATION -/

/-- DEFINE TRANSFER PUMP (R163). The rated power is checked before a running transfer (DEDUCED, log 39). -/
def runDefineTransferPump (body : List Byte) (s : State) : State × Reply :=
  checked [(u8At body 0 ≤ 100, .badValue), (s.transfer.run.isNone, .busy)] s
    (accept (clamps 10 300 (u16At body 1))
      { s with transfer := { s.transfer with pump := ⟨u8At body 0, clampTo 10 300 (u16At body 1)⟩ } })
/-- The kind DEFINE TRANSFER PUMP. -/
def ownDefineTransferPump : Owner := ⟨0x2B, .configuration, bodyLength 3, runDefineTransferPump⟩
/-- DEFINE_TRANSFER_PUMP (R163). -/
def execDefineTransferPump (ln : LinkLine) (tag : Byte) (body : List Byte) (s : State) :
    Host.Outcome State Fault Refusal :=
  done (takeRequest ownDefineTransferPump ln tag body s)

/-- SET NOTICE TRIGGER (R177). -/
def runSetNoticeTrigger (body : List Byte) (s : State) : State × Reply :=
  checked [(inRange 1 32 (u8At body 0), .badValue)] s (okReply (s.modLink fun l => { l with trigger := u8At body 0 }))
/-- The kind SET NOTICE TRIGGER. -/
def ownSetNoticeTrigger : Owner := ⟨0x2C, .configuration, bodyLength 1, runSetNoticeTrigger⟩
/-- SET_NOTICE_TRIGGER (R177). -/
def execSetNoticeTrigger (ln : LinkLine) (tag : Byte) (body : List Byte) (s : State) :
    Host.Outcome State Fault Refusal :=
  done (takeRequest ownSetNoticeTrigger ln tag body s)

/-- SAVE CONFIGURATION: a store write of the definitions held starts (R180). -/
def runSaveConfiguration (_ : List Byte) (s : State) : State × Reply :=
  okReply (s.modLink fun l => { l with writing := some (imageOf s) })
/-- The kind SAVE CONFIGURATION. -/
def ownSaveConfiguration : Owner := ⟨0x2F, .configuration, bodyLength 0, runSaveConfiguration⟩
/-- SAVE_CONFIGURATION (R180). -/
def execSaveConfiguration (ln : LinkLine) (tag : Byte) (body : List Byte) (s : State) :
    Host.Outcome State Fault Refusal :=
  done (takeRequest ownSaveConfiguration ln tag body s)

/-- The owners of the configuration kinds. -/
def configurationOwners : List Owner :=
  [ownDefineTank, ownLoadStrapping, ownDefineMeter, ownDefineFrequencyInput, ownDefineLines, ownDefineGroup,
    ownSetSupplyBands, ownSetProductionBands, ownSetBalance, ownDefineTrain, ownDefineSets, ownDefineTransferPump,
    ownSetNoticeTrigger, ownSaveConfiguration]

end Sys2Proof.Machine
end

