-- ==== Sys2Proof/Machine/Operations.lean ====
section
/-!
DEFINITION. The operation kinds, codes 0x40 to 0x61 (spec/11, section 11.3): tanks, draws, the Arbiter, trains, waters,
supply floor, allowance, transfers, shore filling and pressure sets. Each kind has its owner's handling (`run…`), its entry for
the Link (`own…`) and the meaning of its row (`exec…`), a request frame that arrives whole on a line (DESIGN CHOICE, log 8).
-/

namespace Sys2Proof.Machine

/-- A reply OK, or OK_ADJUSTED for a clamped value, with fields (R185). -/
def acceptWith (adjusted : Bool) (fields : List Byte) (s : State) : State × Reply := (s, ⟨okOr adjusted, fields⟩)

/-! ### Tanks -/

/-- SEED TANK (R22): the reply returns the volume seeded. -/
def runSeedTank (body : List Byte) (s : State) : State × Reply :=
  match indexOf 12 (u8At body 0) with
  | none => refuse .badIndex s
  | some t =>
    let amount := u32At body 1
    let cap := s.tanks[t].defn.capacity
    checked [(s.tanks[t].defined, .notConfigured)] s
      (acceptWith (cap < amount) (enc2 (min amount cap)) (seedWith t amount .seed s))
/-- The kind SEED TANK. -/
def ownSeedTank : Owner := ⟨0x40, .operation, bodyLength 5, runSeedTank⟩
/-- SEED_TANK (R22). -/
def execSeedTank (ln : LinkLine) (tag : Byte) (body : List Byte) (s : State) : Host.Outcome State Fault Refusal :=
  done (takeRequest ownSeedTank ln tag body s)

/-- RESEED TANK of one tank (R23). -/
def reseedTank (t : Fin 12) (s : State) : State × Reply :=
  if !s.tanks[t].defined then refuse .notConfigured s
  else
    match s.tanks[t].levelVolume with
    | none => refuse .wrongState s
    | some lv => acceptWith false (enc2 (min lv s.tanks[t].defn.capacity)) (seedWith t lv .reseed s)

/-- RESEED TANK (R23). -/
def runReseedTank (body : List Byte) (s : State) : State × Reply :=
  match indexOf 12 (u8At body 0) with
  | none => refuse .badIndex s
  | some t => reseedTank t s
/-- The kind RESEED TANK. -/
def ownReseedTank : Owner := ⟨0x41, .operation, bodyLength 1, runReseedTank⟩
/-- RESEED_TANK (R23). -/
def execReseedTank (ln : LinkLine) (tag : Byte) (body : List Byte) (s : State) : Host.Outcome State Fault Refusal :=
  done (takeRequest ownReseedTank ln tag body s)

/-- The state table of R17: a refusal, or whether the tank changes to the requested state. -/
def serviceTable (k : Tank) (wanted : ServiceState) : Except Status Bool :=
  match k.state with
  | .unconfigured => .error .notConfigured
  | .unknown => if wanted = .isolated then .ok true else .error .notSeeded
  | .isolated => if wanted = .isolated then .ok false else if k.seeded then .ok true else .error .notSeeded
  | .inService | .quarantine => .ok (k.state != wanted.toTankState)

/-- TANK SERVICE of one tank (R17, R18, R19). -/
def tankService (t : Fin 12) (wanted : ServiceState) (s : State) : State × Reply :=
  match serviceTable s.tanks[t] wanted with
  | .error st => refuse st s
  | .ok changes =>
    okReply (if changes then changeTankState t .service (fun k => { k with state := wanted.toTankState }) s else s)

/-- TANK SERVICE (R17). The index is checked before the requested state (DEDUCED, log 39). -/
def runTankService (body : List Byte) (s : State) : State × Reply :=
  match indexOf 12 (u8At body 0), serviceStateOf (u8At body 1) with
  | none, _ => refuse .badIndex s
  | _, none => refuse .badValue s
  | some t, some wanted => tankService t wanted s
/-- The kind TANK SERVICE. -/
def ownTankService : Owner := ⟨0x42, .operation, bodyLength 2, runTankService⟩
/-- TANK_SERVICE (R17). -/
def execTankService (ln : LinkLine) (tag : Byte) (body : List Byte) (s : State) : Host.Outcome State Fault Refusal :=
  done (takeRequest ownTankService ln tag body s)

/-! ### Draws -/

/-- The source of a line is FLUSH (R89). -/
def isFlushSource : Source → Bool
  | .flush _ => true
  | _ => false

/-- The requested litres a DRAW gives: 0 is open-ended, an amount above the max batch is taken as the max batch (R89). -/
def drawRequest (l : LineDef) (litres : Nat) : Option Nat := if litres = 0 then none else some (min litres l.maxBatch)

/-- DRAW on one line (R89). -/
def drawLine (k : Fin 16) (litres : Nat) (s : State) : State × Reply :=
  let l := s.lines[k]
  checked [(!(l.defined && isFlushSource l.defn.source), .badValue), (l.state == .idle, .wrongState)] s
    (acceptWith (l.defn.maxBatch < litres) (enc1 k.val ++ enc2 ((drawRequest l.defn litres).getD 0))
      (register k (drawRequest l.defn litres) .message s))

/-- DRAW (R89). -/
def runDraw (body : List Byte) (s : State) : State × Reply :=
  match indexOf 16 (u8At body 0) with
  | none => refuse .badIndex s
  | some k => drawLine k (u16At body 1) s
/-- The kind DRAW. -/
def ownDraw : Owner := ⟨0x48, .operation, bodyLength 3, runDraw⟩
/-- DRAW (R89). -/
def execDraw (ln : LinkLine) (tag : Byte) (body : List Byte) (s : State) : Host.Outcome State Fault Refusal :=
  done (takeRequest ownDraw ln tag body s)

/-- CANCEL DRAW of one line (R111). -/
def cancelDraw (k : Fin 16) (s : State) : State × Reply :=
  match s.lines[k].state with
  | .pending => acceptWith false (enc2 (deliveredOf s k)) (cancelPending k s)
  | .flowing | .suspended => acceptWith false (enc2 (deliveredOf s k)) (endDraw k .cancelled s)
  | .unconfigured | .idle | .releaseWait | .fault => refuse .wrongState s

/-- CANCEL DRAW (R111). -/
def runCancelDraw (body : List Byte) (s : State) : State × Reply :=
  match indexOf 16 (u8At body 0) with
  | none => refuse .badIndex s
  | some k => cancelDraw k s
/-- The kind CANCEL DRAW. -/
def ownCancelDraw : Owner := ⟨0x49, .operation, bodyLength 1, runCancelDraw⟩
/-- CANCEL_DRAW (R111). -/
def execCancelDraw (ln : LinkLine) (tag : Byte) (body : List Byte) (s : State) : Host.Outcome State Fault Refusal :=
  done (takeRequest ownCancelDraw ln tag body s)

/-- Ends a draw ENDED and replies with its line and its delivered litres (R109, R110). -/
def endByHost (k : Fin 16) (s : State) : State × Reply :=
  acceptWith false (enc1 k.val ++ enc2 (deliveredOf s k)) (endDraw k .ended s)

/-- A specific END DRAW of one line (R109). -/
def endSpecific (k : Fin 16) (s : State) : State × Reply :=
  match s.lines[k].state with
  | .flowing | .suspended => endByHost k s
  | .unconfigured | .idle | .pending | .releaseWait | .fault => refuse .wrongState s

/-- An in-service draw a non-specific end considers: open-ended and of origin MESSAGE (R110). -/
def openMessageDraw (s : State) (k : Fin 16) : Bool :=
  match s.lines[k].draw with
  | some d => d.requested.isNone && d.origin == .message
  | none => false

/-- A non-specific END DRAW (R110). -/
def endNonSpecific (s : State) : State × Reply :=
  match (rankOrder s).find? (openMessageDraw s) with
  | some k => endByHost k s
  | none => (s, ⟨.none, []⟩)

/-- END DRAW: a line byte of 0xFF carries no line (R109, R110, R184). -/
def runEndDraw (body : List Byte) (s : State) : State × Reply :=
  if u8At body 0 = 0xFF then endNonSpecific s
  else
    match indexOf 16 (u8At body 0) with
    | none => refuse .badIndex s
    | some k => endSpecific k s
/-- The kind END DRAW. -/
def ownEndDraw : Owner := ⟨0x4A, .operation, bodyLength 1, runEndDraw⟩
/-- END_DRAW (R109). -/
def execEndDraw (ln : LinkLine) (tag : Byte) (body : List Byte) (s : State) : Host.Outcome State Fault Refusal :=
  done (takeRequest ownEndDraw ln tag body s)

/-- END_DRAW_NON_SPECIFIC (R110): the END DRAW whose line byte is 0xFF (R184). -/
def execEndDrawNonSpecific (ln : LinkLine) (tag : Byte) (s : State) : Host.Outcome State Fault Refusal :=
  done (takeRequest ownEndDraw ln tag [0xFF] s)

/-! ### The Arbiter -/

/-- The line set of a MASK LINES body: line k is the bit of value 2 to the power k (R184). -/
def maskedSet (word : Nat) : List (Fin 16) := allLines.filter fun k => word.testBit k.val

/-- An accepted MASK LINES: a pass runs when the mask of at least one line changes (R95, R97). -/
def applyMask (ks : List (Fin 16)) (setting : Bool) (s : State) : State :=
  let s1 : State := { s with lines := updAll s.lines fun k l => if ks.contains k then { l with masked := setting } else l }
  if ks.any fun k => s.lines[k].masked != setting then grantPass s1 else s1

/-- MASK LINES (R95). -/
def runMaskLines (body : List Byte) (s : State) : State × Reply :=
  match settingOf (u8At body 2) with
  | none => refuse .badValue s
  | some setting =>
    checked [(!(maskedSet (u16At body 0)).isEmpty, .badValue)] s (okReply (applyMask (maskedSet (u16At body 0)) setting s))
/-- The kind MASK LINES. -/
def ownMaskLines : Owner := ⟨0x4B, .operation, bodyLength 3, runMaskLines⟩
/-- MASK_LINES (R95). -/
def execMaskLines (ln : LinkLine) (tag : Byte) (body : List Byte) (s : State) : Host.Outcome State Fault Refusal :=
  done (takeRequest ownMaskLines ln tag body s)

/-- The order turned so that a line is at the bottom, its cyclic order kept (R94). -/
def turnTo (k : Fin 16) (order : List (Fin 16)) : List (Fin 16) :=
  order.drop (order.idxOf k + 1) ++ order.take (order.idxOf k + 1)

/-- SET ROTATION (R94). -/
def runSetRotation (body : List Byte) (s : State) : State × Reply :=
  match indexOf 16 (u8At body 0) with
  | none => refuse .badIndex s
  | some k =>
    checked [(s.lines[k].defined, .notConfigured)] s
      (okReply (refreshPending (s.modGroup (groupOf s k) fun g => { g with rotation := turnTo k g.rotation })))
/-- The kind SET ROTATION. -/
def ownSetRotation : Owner := ⟨0x4C, .operation, bodyLength 1, runSetRotation⟩
/-- SET_ROTATION (R94). -/
def execSetRotation (ln : LinkLine) (tag : Byte) (body : List Byte) (s : State) : Host.Outcome State Fault Refusal :=
  done (takeRequest ownSetRotation ln tag body s)

/-- An accepted ARBITER MODE: a change starts a pass (R100). -/
def applyMode (mode : ArbiterMode) (s : State) : State :=
  if s.arb.mode = mode then s else grantPass (s.modArb fun a => { a with mode := mode })

/-- ARBITER MODE (R100). -/
def runArbiterMode (body : List Byte) (s : State) : State × Reply :=
  match arbiterModeOf (u8At body 0) with
  | none => refuse .badValue s
  | some mode => okReply (applyMode mode s)
/-- The kind ARBITER MODE. -/
def ownArbiterMode : Owner := ⟨0x4D, .operation, bodyLength 1, runArbiterMode⟩
/-- ARBITER_MODE (R100). -/
def execArbiterMode (ln : LinkLine) (tag : Byte) (body : List Byte) (s : State) : Host.Outcome State Fault Refusal :=
  done (takeRequest ownArbiterMode ln tag body s)

/-- The line DISPATCH stops at: the first of G1 to G5 that is unmasked and admissible by level (R101). -/
def dispatchLine (s : State) : Option (Fin 16) :=
  s.arb.pendingList.find? fun k => groupOf s k != 0 && !s.lines[k].masked && levelAdmits s k

/-- DISPATCH in MANUAL mode (R101). -/
def dispatchOne (s : State) : State × Reply :=
  match dispatchLine s with
  | none => (s, ⟨.none, []⟩)
  | some k => if fits s k then acceptWith false (enc1 k.val) (grant k s) else (s, ⟨.none, []⟩)

/-- DISPATCH (R101). -/
def runDispatch (_ : List Byte) (s : State) : State × Reply :=
  if s.arb.mode = .manual then dispatchOne s else refuse .wrongState s
/-- The kind DISPATCH. -/
def ownDispatch : Owner := ⟨0x4E, .operation, bodyLength 0, runDispatch⟩
/-- DISPATCH (R101). -/
def execDispatch (ln : LinkLine) (tag : Byte) (body : List Byte) (s : State) : Host.Outcome State Fault Refusal :=
  done (takeRequest ownDispatch ln tag body s)

/-- RESET LINE (R112). -/
def runResetLine (body : List Byte) (s : State) : State × Reply :=
  match indexOf 16 (u8At body 0) with
  | none => refuse .badIndex s
  | some k =>
    checked [(s.lines[k].state == .fault, .wrongState)] s
      (acceptWith false (enc1 (restState s.lines[k]).code) (s.modLine k fun l => { l with state := restState l }))
/-- The kind RESET LINE. -/
def ownResetLine : Owner := ⟨0x4F, .operation, bodyLength 1, runResetLine⟩
/-- RESET_LINE (R112). -/
def execResetLine (ln : LinkLine) (tag : Byte) (body : List Byte) (s : State) : Host.Outcome State Fault Refusal :=
  done (takeRequest ownResetLine ln tag body s)

/-! ### Trains -/

/-- An accepted TRAIN MODE (R151): one to the mode already held makes no check (DEDUCED, log 36). -/
def applyTrainMode (n : Fin 3) (mode : TrainMode) (s : State) : State :=
  let s1 := s.modTrain n fun w => { w with mode := mode }
  let s2 := if mode = .disabled && s.trains[n].state.running then haltTrain n .modeDisabled s1 else s1
  if s.trains[n].mode = mode then s2 else stopCheck (startCheck s2)

/-- TRAIN MODE (R151). The index is checked before the mode (DEDUCED, log 39). -/
def runTrainMode (body : List Byte) (s : State) : State × Reply :=
  match indexOf 3 (u8At body 0), trainModeOf (u8At body 1) with
  | none, _ => refuse .badIndex s
  | _, none => refuse .badValue s
  | some n, some mode => okReply (applyTrainMode n mode s)
/-- The kind TRAIN MODE. -/
def ownTrainMode : Owner := ⟨0x50, .operation, bodyLength 2, runTrainMode⟩
/-- TRAIN_MODE (R151). -/
def execTrainMode (ln : LinkLine) (tag : Byte) (body : List Byte) (s : State) : Host.Outcome State Fault Refusal :=
  done (takeRequest ownTrainMode ln tag body s)

/-- The checks of START TRAIN after the index (R152). -/
def startChecks (s : State) (n : Fin 3) : List (Bool × Status) :=
  let w := s.trains[n]
  [(0 < w.defn.ratedPower, .notConfigured),
    (w.mode != .disabled && w.state == .off && w.rested && !someTrainStarting s, .wrongState),
    (s.waters == .opened, .restricted), (headroomGranted s w.defn.ratedPower, .noPower),
    (!s.eval.fillCandidates.isEmpty, .none)]

/-- START TRAIN (R152). -/
def runStartTrain (body : List Byte) (s : State) : State × Reply :=
  match indexOf 3 (u8At body 0) with
  | none => refuse .badIndex s
  | some n => checked (startChecks s n) s (okReply (beginTrain n s))
/-- The kind START TRAIN. -/
def ownStartTrain : Owner := ⟨0x51, .operation, bodyLength 1, runStartTrain⟩
/-- START_TRAIN (R152). -/
def execStartTrain (ln : LinkLine) (tag : Byte) (body : List Byte) (s : State) : Host.Outcome State Fault Refusal :=
  done (takeRequest ownStartTrain ln tag body s)

/-- STOP TRAIN (R153). -/
def runStopTrain (body : List Byte) (s : State) : State × Reply :=
  match indexOf 3 (u8At body 0) with
  | none => refuse .badIndex s
  | some n => checked [(s.trains[n].state.running, .wrongState)] s (okReply (haltTrain n .hostStop s))
/-- The kind STOP TRAIN. -/
def ownStopTrain : Owner := ⟨0x52, .operation, bodyLength 1, runStopTrain⟩
/-- STOP_TRAIN (R153). -/
def execStopTrain (ln : LinkLine) (tag : Byte) (body : List Byte) (s : State) : Host.Outcome State Fault Refusal :=
  done (takeRequest ownStopTrain ln tag body s)

/-- FLUSH TRAIN from OFF: steps 1 and 6 of R143 with cause MANUAL_FLUSH (R153). -/
def flushFromOff (n : Fin 3) (s : State) : State :=
  enterFlushWait n s.trains[n].defn.flushVolume
    (s.modTrain n fun w => { w with stopCause := some .manualFlush, faultCause := none, retry := false })

/-- FLUSH TRAIN from FAULT with cause UNFLUSHED (R153; DEDUCED, log 25). -/
def flushFromFault (n : Fin 3) (s : State) : State :=
  askFlush n (s.modTrain n fun w =>
    { w with state := .flushWait, retry := true,
             flushRemaining := if w.flushRemaining = 0 then w.defn.flushVolume else w.flushRemaining,
             flushWait := .start w.defn.flushWaitMax })

/-- FLUSH TRAIN of one train (R153). The rated power is checked before the state (DEDUCED, log 39). -/
def flushTrain (n : Fin 3) (s : State) : State × Reply :=
  let w := s.trains[n]
  if w.defn.ratedPower = 0 then refuse .notConfigured s
  else if w.state = .off then okReply (flushFromOff n s)
  else if w.state = .fault ∧ w.faultCause = some .unflushed then okReply (flushFromFault n s)
  else refuse .wrongState s

/-- FLUSH TRAIN (R153). -/
def runFlushTrain (body : List Byte) (s : State) : State × Reply :=
  match indexOf 3 (u8At body 0) with
  | none => refuse .badIndex s
  | some n => flushTrain n s
/-- The kind FLUSH TRAIN. -/
def ownFlushTrain : Owner := ⟨0x53, .operation, bodyLength 1, runFlushTrain⟩
/-- FLUSH_TRAIN (R153). -/
def execFlushTrain (ln : LinkLine) (tag : Byte) (body : List Byte) (s : State) : Host.Outcome State Fault Refusal :=
  done (takeRequest ownFlushTrain ln tag body s)

/-- An accepted RESET TRAIN (R154). -/
def resetTrain (n : Fin 3) (s : State) : State :=
  restTrain n (s.modTrain n fun w => { w with faultCause := none, stopCause := none, retry := false })

/-- RESET TRAIN (R154). -/
def runResetTrain (body : List Byte) (s : State) : State × Reply :=
  match indexOf 3 (u8At body 0) with
  | none => refuse .badIndex s
  | some n =>
    checked [(s.trains[n].state == .fault && !s.trains[n].flushPlaced, .wrongState)] s (okReply (resetTrain n s))
/-- The kind RESET TRAIN. -/
def ownResetTrain : Owner := ⟨0x54, .operation, bodyLength 1, runResetTrain⟩
/-- RESET_TRAIN (R154). -/
def execResetTrain (ln : LinkLine) (tag : Byte) (body : List Byte) (s : State) : Host.Outcome State Fault Refusal :=
  done (takeRequest ownResetTrain ln tag body s)

/-- Stops a train if it runs. -/
def haltRunning (cause : StopCause) (s : State) (n : Fin 3) : State :=
  if s.trains[n].state.running then haltTrain n cause s else s

/-- A change of the waters (R150). -/
def changeWaters (w : Waters) (s : State) : State :=
  let s1 : State := { s with waters := w }
  match w with
  | .restricted => allTrains.foldl (haltRunning .restricted) s1
  | .opened => startCheck s1

/-- SET WATERS (R150). -/
def runSetWaters (body : List Byte) (s : State) : State × Reply :=
  match watersOf (u8At body 0) with
  | none => refuse .badValue s
  | some w => okReply (if s.waters = w then s else changeWaters w s)
/-- The kind SET WATERS. -/
def ownSetWaters : Owner := ⟨0x55, .operation, bodyLength 1, runSetWaters⟩
/-- SET_WATERS (R150). -/
def execSetWaters (ln : LinkLine) (tag : Byte) (body : List Byte) (s : State) : Host.Outcome State Fault Refusal :=
  done (takeRequest ownSetWaters ln tag body s)

/-! ### Supply floor and allowance -/

/-- The floor is written and the effective level worked out (R64). -/
def applyFloor (floor : Nat) (s : State) : State := workOutLevel .floor (s.modEval fun e => { e with floor := floor })

/-- SET SUPPLY FLOOR (R64): a value above 7 is taken as 7. -/
def runSetSupplyFloor (body : List Byte) (s : State) : State × Reply :=
  let floor := min (u8At body 0) 7
  let s1 := applyFloor floor s
  acceptWith (7 < u8At body 0) (enc1 floor ++ enc1 s1.eval.level) s1
/-- The kind SET SUPPLY FLOOR. -/
def ownSetSupplyFloor : Owner := ⟨0x58, .operation, bodyLength 1, runSetSupplyFloor⟩
/-- SET_SUPPLY_FLOOR (R64). -/
def execSetSupplyFloor (ln : LinkLine) (tag : Byte) (body : List Byte) (s : State) : Host.Outcome State Fault Refusal :=
  done (takeRequest ownSetSupplyFloor ln tag body s)

/-- The allowance is written and taken by the Power Allowance (R160). -/
def applyAllowance (allowance : Nat) (s : State) : State :=
  allowanceChanged .allowance (effectiveAllowance s) { s with power := { s.power with allowance := allowance } }

/-- SET ALLOWANCE (R160): a value above 1,000 is taken as 1,000. -/
def runSetAllowance (body : List Byte) (s : State) : State × Reply :=
  let s1 := applyAllowance (min (u16At body 0) 1000) s
  acceptWith (1000 < u16At body 0)
    (enc2 (min (u16At body 0) 1000) ++ enc2 (effectiveAllowance s1) ++ enc2 (committedLoad s1)) s1
/-- The kind SET ALLOWANCE. -/
def ownSetAllowance : Owner := ⟨0x59, .operation, bodyLength 2, runSetAllowance⟩
/-- SET_ALLOWANCE (R160). -/
def execSetAllowance (ln : LinkLine) (tag : Byte) (body : List Byte) (s : State) : Host.Outcome State Fault Refusal :=
  done (takeRequest ownSetAllowance ln tag body s)

/-! ### Transfers and shore filling -/

/-- The checks of START TRANSFER after the indices (R164). -/
def transferChecks (s : State) (src dst : Fin 12) (litres : Nat) : List (Bool × Status) :=
  [(src != dst, .badValue), (inRange 1 60000 litres, .badValue), (0 < s.transfer.pump.ratedPower, .notConfigured),
    (s.transfer.run.isNone, .busy),
    (s.tanks[src].state == .inService && s.tanks[dst].state == .inService && !s.tanks[src].low && !s.tanks[dst].full,
      .wrongState),
    (headroomGranted s s.transfer.pump.ratedPower, .noPower)]

/-- START TRANSFER (R164). -/
def runStartTransfer (body : List Byte) (s : State) : State × Reply :=
  match indexOf 12 (u8At body 0), indexOf 12 (u8At body 1) with
  | some src, some dst =>
    checked (transferChecks s src dst (u16At body 2)) s (okReply (beginTransfer .host src dst (u16At body 2) s))
  | _, _ => refuse .badIndex s
/-- The kind START TRANSFER. -/
def ownStartTransfer : Owner := ⟨0x5A, .operation, bodyLength 4, runStartTransfer⟩
/-- START_TRANSFER (R164). -/
def execStartTransfer (ln : LinkLine) (tag : Byte) (body : List Byte) (s : State) : Host.Outcome State Fault Refusal :=
  done (takeRequest ownStartTransfer ln tag body s)

/-- STOP TRANSFER (R166). -/
def runStopTransfer (_ : List Byte) (s : State) : State × Reply :=
  checked [(s.transfer.run.isSome, .wrongState)] s
    (acceptWith false (encSigned4 s.transfer.moved) (endTransfer .stopped s))
/-- The kind STOP TRANSFER. -/
def ownStopTransfer : Owner := ⟨0x5B, .operation, bodyLength 0, runStopTransfer⟩
/-- STOP_TRANSFER (R166). -/
def execStopTransfer (ln : LinkLine) (tag : Byte) (body : List Byte) (s : State) : Host.Outcome State Fault Refusal :=
  done (takeRequest ownStopTransfer ln tag body s)

/-- The checks of START SHORE FILL after the index (R168). -/
def shoreChecks (s : State) (t : Fin 12) (litres : Nat) : List (Bool × Status) :=
  [(litres ≤ 60000, .badValue), (s.shore.run.isNone, .busy), (s.tanks[t].defined, .notConfigured),
    ((s.tanks[t].state == .inService || s.tanks[t].state == .quarantine) && !s.tanks[t].full, .wrongState)]

/-- START SHORE FILL (R168). -/
def runStartShoreFill (body : List Byte) (s : State) : State × Reply :=
  match indexOf 12 (u8At body 0) with
  | none => refuse .badIndex s
  | some t => checked (shoreChecks s t (u16At body 1)) s (okReply (beginShore t (u16At body 1) s))
/-- The kind START SHORE FILL. -/
def ownStartShoreFill : Owner := ⟨0x5C, .operation, bodyLength 3, runStartShoreFill⟩
/-- START_SHORE_FILL (R168). -/
def execStartShoreFill (ln : LinkLine) (tag : Byte) (body : List Byte) (s : State) : Host.Outcome State Fault Refusal :=
  done (takeRequest ownStartShoreFill ln tag body s)

/-- STOP SHORE FILL (R169). -/
def runStopShoreFill (_ : List Byte) (s : State) : State × Reply :=
  checked [(s.shore.run.isSome, .wrongState)] s (acceptWith false (encSigned4 s.shore.filled) (endShore .stopped s))
/-- The kind STOP SHORE FILL. -/
def ownStopShoreFill : Owner := ⟨0x5D, .operation, bodyLength 0, runStopShoreFill⟩
/-- STOP_SHORE_FILL (R169). -/
def execStopShoreFill (ln : LinkLine) (tag : Byte) (body : List Byte) (s : State) : Host.Outcome State Fault Refusal :=
  done (takeRequest ownStopShoreFill ln tag body s)

/-! ### Pressure sets -/

/-- A set is taken out of service; one already OFF_LINE changes nothing (R131). -/
def serviceOut (x : Fin 2) (s : State) : State :=
  if s.sets.sets[x].state = .offLine then s else settleSets .service (s.modSet x (stopSet .offLine))

/-- A set is returned to service; one that is not OFF_LINE changes nothing (R131). -/
def serviceIn (x : Fin 2) (s : State) : State :=
  if s.sets.sets[x].state = .offLine then settleSets .recovery (s.modSet x (stopSet .idle)) else s

/-- PRESSURE SET SERVICE (R131). The index is checked before the setting (DEDUCED, log 39). -/
def runPressureSetService (body : List Byte) (s : State) : State × Reply :=
  match indexOf 2 (u8At body 0), settingOf (u8At body 1) with
  | none, _ => refuse .badIndex s
  | _, none => refuse .badValue s
  | some x, some inService => okReply (if inService then serviceIn x s else serviceOut x s)
/-- The kind PRESSURE SET SERVICE. -/
def ownPressureSetService : Owner := ⟨0x60, .operation, bodyLength 2, runPressureSetService⟩
/-- PRESSURE_SET_SERVICE (R131). -/
def execPressureSetService (ln : LinkLine) (tag : Byte) (body : List Byte) (s : State) :
    Host.Outcome State Fault Refusal :=
  done (takeRequest ownPressureSetService ln tag body s)

/-- RESET PRESSURE SET (R132). -/
def runResetPressureSet (body : List Byte) (s : State) : State × Reply :=
  match indexOf 2 (u8At body 0) with
  | none => refuse .badIndex s
  | some x =>
    checked [(s.sets.sets[x].state == .failed, .wrongState)] s
      (okReply (settleSets .recovery (s.modSet x (stopSet .idle))))
/-- The kind RESET PRESSURE SET. -/
def ownResetPressureSet : Owner := ⟨0x61, .operation, bodyLength 1, runResetPressureSet⟩
/-- RESET_PRESSURE_SET (R132). -/
def execResetPressureSet (ln : LinkLine) (tag : Byte) (body : List Byte) (s : State) :
    Host.Outcome State Fault Refusal :=
  done (takeRequest ownResetPressureSet ln tag body s)

/-- The owners of the operation kinds. -/
def operationOwners : List Owner :=
  [ownSeedTank, ownReseedTank, ownTankService, ownDraw, ownCancelDraw, ownEndDraw, ownMaskLines, ownSetRotation,
    ownArbiterMode, ownDispatch, ownResetLine] ++
  [ownTrainMode, ownStartTrain, ownStopTrain, ownFlushTrain, ownResetTrain, ownSetWaters, ownSetSupplyFloor,
    ownSetAllowance, ownStartTransfer, ownStopTransfer, ownStartShoreFill, ownStopShoreFill, ownPressureSetService,
    ownResetPressureSet]

end Sys2Proof.Machine
end

