-- ==== Sys2Proof/Machine/Records.lean ====
section
/-!
DEFINITION. The records that query replies carry, field by field in the order of R185 (spec/11, section 11.4); what each
shows is named by R24, R41, R58, R78, R102, R134, R156, R170, R179 and R182. A field of an operation that is not running is
sent as 0 (R183; DEDUCED, log 15).
-/

namespace Sys2Proof.Machine

/-! ### Tank, meter, input -/

/-- The strapping table of a tank record: the count, then twelve points, the unused ones 0. -/
def strappingFields (points : List StrapPoint) : List Byte :=
  enc1 points.length ++ (points.flatMap fun p => enc2 p.head ++ enc2 p.volume)
    ++ List.replicate (48 - 4 * points.length) 0

/-- The tank record (R24). -/
def tankRecord (t : Fin 12) (k : Tank) : List Byte :=
  enc1 t.val ++ k.defn.tag
    ++ enc1 k.defn.side.code ++ enc2 k.defn.capacity ++ enc2 k.defn.lowMark ++ enc2 k.defn.fillStop
    ++ enc2 k.defn.tolerance ++ enc2 k.defn.quietTime ++ enc1 k.defn.startState.toTankState.code
    ++ enc1 k.state.code ++ encFlag k.seeded ++ enc2 k.seedVolume ++ encOpt1 (k.seedOrigin.map SeedOrigin.code)
    ++ enc2 k.volume ++ encWord k.unbooked ++ encWord k.credited ++ encWord k.debited
    ++ enc2 k.quietTimer ++ encFlag k.quiet
    ++ encOpt2 k.levelHead ++ encOpt2 k.levelVolume ++ enc1 k.agreement.code
    ++ enc2 k.trusted ++ enc2 k.fillMeasure ++ encFlag k.low ++ encFlag k.full
    ++ encFlag k.duty ++ enc1 k.fillTrains.length ++ encPadded 3 0xFF (k.fillTrains.map (·.val))
    ++ enc1 k.transferRole.code ++ encFlag k.shoreTarget
    ++ strappingFields k.strapping

/-- The rate field of READ METER: signed 16 bits, or a free value where the rate does not fit (DESIGN CHOICE, log 14). -/
def rateField (rate : Int) : BitVec 16 :=
  if -32768 ≤ rate ∧ rate ≤ 32767 then BitVec.ofInt 16 rate else Config.rateOutOfRange rate

/-- The fields of READ METER (R41). The level of a phase is sent 0 for low and 1 for high (DESIGN CHOICE, log 40). -/
def meterRecord (s : State) (m : Fin 24) : List Byte :=
  let c := s.meters[m]
  enc1 m.val ++ encFlag c.defined ++ enc1 c.defn.mode.code ++ enc2 c.defn.kFactor
    ++ enc1 c.defn.role.code.1 ++ enc1 c.defn.role.code.2 ++ enc2 c.residue ++ encWord c.netTotal
    ++ enc2 (rateField c.rate).toNat ++ encFlag c.phaseA ++ encFlag c.phaseB ++ enc2 c.phaseErrors
    ++ encFlag c.strayNoticed ++ encFlag (roleActive c.defn.role s)

/-- The fields of READ FREQUENCY INPUT (R58). -/
def inputRecord (i : Fin 16) (x : FrequencyInput) : List Byte :=
  enc1 i.val ++ encFlag x.defined ++ enc1 (inputRoleCode x.defined x.role).1 ++ enc1 (inputRoleCode x.defined x.role).2
    ++ encPresent2 x.lastFrequency ++ encOpt2 x.lastRaw ++ enc1 x.fault.code ++ enc1 x.outRun ++ enc1 x.inRun
    ++ enc1 x.window.length ++ x.window.flatMap enc2 ++ List.replicate (16 - 2 * x.window.length) 0
    ++ encOpt2 x.head

/-! ### Lines, groups, the Arbiter -/

/-- The place of an element in a list, counting from 0. -/
def placeIn {α : Type} [BEq α] (x : α) (xs : List α) : Option Nat := xs.findIdx? (· == x)

/-- The draw fields of a line record; 0 without a draw record (R183). -/
def drawFields : Option Draw → List Byte
  | none => enc1 0 ++ enc2 0 ++ enc2 0 ++ enc1 0 ++ enc1 0 ++ enc2 0 ++ enc1 0 ++ encPresent4 none ++ enc2 0 ++ enc2 0
      ++ encPresent4 none
  | some d => enc1 1 ++ encOpt2 d.requested ++ enc2 d.delivered ++ enc1 d.origin.code.1 ++ enc1 d.origin.code.2
      ++ enc2 d.wait ++ encFlag d.aged ++ encPresent4 (d.grantSequence.map (·.toNat)) ++ enc2 d.duration ++ enc2 d.stall
      ++ encPresent4 (d.suspendedSince.map (·.toNat))

/-- The line record (R102). The contact sample is sent 0 for open and 1 for closed (DESIGN CHOICE, log 35), and whether the
line fits is the test of count and flow for every line, admissible or not (DESIGN CHOICE, log 34). -/
def lineRecord (s : State) (k : Fin 16) : List Byte :=
  let l := s.lines[k]
  enc1 k.val ++ encFlag l.defined ++ enc1 l.defn.group.val ++ enc1 l.defn.flow ++ enc2 l.defn.defaultBatch
    ++ enc2 l.defn.maxBatch ++ enc2 l.defn.maxDuration ++ enc2 l.defn.stallTime
    ++ enc1 l.defn.source.code.1 ++ enc1 l.defn.source.code.2 ++ encFlag l.metered ++ encFlag l.contactClosed
    ++ encFlag l.asserted ++ encFlag l.masked ++ enc1 l.state.code
    ++ encOpt1 (if l.defined then placeIn k s.groups[l.defn.group].rotation else none)
    ++ encOpt1 (if l.state == .pending then placeIn k s.arb.pendingList else none)
    ++ encFlag (admissible s k) ++ encFlag (fits s k) ++ drawFields l.draw

/-- The fields of READ GROUP (R102). -/
def groupRecord (s : State) (g : Fin 6) : List Byte :=
  let r := s.groups[g]
  enc1 g.val ++ enc1 r.defn.admitLevel ++ enc2 r.defn.patience
    ++ enc1 (s.arb.pendingList.filter fun k => groupOf s k == g).length
    ++ enc1 (s.arb.inService.filter fun k => groupOf s k == g).length
    ++ enc1 r.rotation.length ++ r.rotation.flatMap fun k => enc1 k.val

/-- The masks as a set of lines: the bit of value 2 to the power k for line k (R184). -/
def maskSet (s : State) : Nat := (allLines.map fun k => if s.lines[k].masked then 2 ^ k.val else 0).sum

/-- The fields of READ ARBITER (R102). -/
def arbiterRecord (s : State) : List Byte :=
  let a := s.arb
  enc1 a.mode.code ++ enc1 a.levelHeld ++ enc1 a.supplyHeld.code ++ enc2 a.capacityHeld ++ enc2 (flowingFlow s)
    ++ enc2 (freeCapacity s) ++ encPresent2 (a.hold.map (·.count)) ++ enc2 a.supplyLossHold
    ++ encOpt1 (a.stoppedAt.map (·.val)) ++ enc2 (maskSet s)
    ++ enc1 a.pendingList.length ++ (a.pendingList.flatMap fun k => enc1 k.val)
    ++ enc1 a.inService.length ++ a.inService.flatMap fun k => enc1 k.val ++ enc1 s.lines[k].state.code

/-! ### Trains, sets -/

/-- A timer with its length, 0 and 0 where it does not run. -/
def timerFields (t : Option Timer) : List Byte := enc2 (t.getD .idle).count ++ enc2 (t.getD .idle).length

/-- A salinity reading as an optional number: FAULT is sent as 0xFFFF (R185). -/
def Salinity.field : Salinity → Option Nat
  | .ppm v => some v
  | .fault => none

/-- The ten time and limit fields of a train in the order of DEFINE TRAIN. -/
def trainTimes (d : TrainDef) : List Nat :=
  [d.primeTime, d.rampTime, d.qualificationHold, d.divertMax, d.salinityLimit, d.flushVolume, d.flushWaitMax, d.minRun,
    d.minRest, d.productStall]

/-- The train record (R156). -/
def trainRecord (s : State) (n : Fin 3) : List Byte :=
  let w := s.trains[n]
  let out := outputsOf s
  enc1 n.val ++ enc1 w.defn.ratedPower ++ (trainTimes w.defn).flatMap enc2 ++ enc1 w.defn.flushLine.val
    ++ enc1 w.mode.code ++ enc1 w.state.code ++ encOpt1 (w.stopCause.map StopCause.code)
    ++ encOpt1 (w.faultCause.map FaultCause.code) ++ encFlag w.retry ++ encFlag w.rested
    ++ encOpt1 (w.target.map (·.val)) ++ encOpt2 w.reading.field
    ++ timerFields w.stage ++ timerFields (some w.qualification) ++ timerFields (some w.stall)
    ++ enc2 w.runTimer ++ encWord w.startedAt ++ encPresent4 (w.producingSince.map (·.toNat))
    ++ encPresent2 (w.rest.map (·.count)) ++ enc2 (w.rest.getD .idle).length
    ++ enc2 w.flushRemaining ++ encFlag w.flushPlaced ++ timerFields (some w.flushWait)
    ++ encWord w.runningSeconds ++ encWord w.produced ++ encWord w.diverted
    ++ encFlag out.feedPump[n] ++ encFlag out.hpPump[n] ++ encFlag out.divertValve[n] ++ encFlag out.productValve[n]
    ++ encOpt1 (placeIn n s.startOrder) ++ enc1 s.waters.code ++ enc1 s.eval.callCount ++ enc1 (autoRunning s)
    ++ encFlag (flushLineValid s n)

/-- The fields of one set in READ SETS. -/
def setFields (s : State) (x : Fin 2) : List Byte :=
  let p := s.sets.sets[x]
  enc2 p.defn.capacity ++ enc1 p.defn.ratedPower ++ enc1 p.state.code ++ encFlag p.proofClosed
    ++ enc1 p.startTimer.count ++ enc1 p.lossTimer ++ encFlag p.usable ++ encFlag (outputsOf s).setRun[x]

/-- The pressure sets record (R134). -/
def setsRecord (s : State) : List Byte :=
  let r := s.sets
  setFields s 0 ++ setFields s 1 ++ enc1 r.duty.val ++ enc1 r.supply.code ++ enc2 r.grantCapacity
    ++ enc2 r.settings.reserve ++ enc1 r.settings.startProof ++ enc1 r.settings.changeover ++ enc2 r.settings.alternation
    ++ enc2 s.arb.supplyLossHold ++ encPresent4 (r.alternationTimer.map (·.count))
    ++ enc2 (r.alternationTimer.getD .idle).length

/-! ### Transfer, status, link -/

/-- The running fields of a transfer; 0 while none runs. -/
def transferRunFields : Option TransferRun → List Byte
  | none => encFlag false ++ enc1 0 ++ enc1 0 ++ enc1 0 ++ enc2 0
  | some r => encFlag true ++ enc1 r.origin.code ++ enc1 r.source.val ++ enc1 r.dest.val ++ enc2 r.litres

/-- The last end of a transfer with its presence byte. -/
def transferEndFields : Option TransferEnd → List Byte
  | none => enc1 0 ++ enc1 0 ++ enc1 0 ++ enc1 0 ++ enc4 0
  | some e => enc1 1 ++ enc1 e.cause.code ++ enc1 e.source.val ++ enc1 e.dest.val ++ encSigned4 e.moved

/-- The active fields of a shore fill; 0 while none is active. -/
def shoreRunFields : Option ShoreRun → List Byte
  | none => encFlag false ++ enc1 0 ++ enc2 0
  | some r => encFlag true ++ enc1 r.target.val ++ enc2 r.litres

/-- The last end of a shore fill with its presence byte. -/
def shoreEndFields : Option ShoreEnd → List Byte
  | none => enc1 0 ++ enc1 0 ++ enc1 0 ++ enc4 0
  | some e => enc1 1 ++ enc1 e.cause.code ++ enc1 e.target.val ++ encSigned4 e.filled

/-- The transfer record (R170). -/
def transferRecord (s : State) : List Byte :=
  enc1 s.transfer.pump.ratedPower ++ enc2 s.transfer.pump.stallTime
    ++ transferRunFields s.transfer.run ++ encSigned4 s.transfer.moved ++ timerFields (some s.transfer.stall)
    ++ transferEndFields s.transfer.lastEnd
    ++ shoreRunFields s.shore.run ++ encSigned4 s.shore.filled ++ shoreEndFields s.shore.lastEnd
    ++ enc2 s.power.allowance ++ enc1 (setReserve s) ++ enc2 (effectiveAllowance s) ++ enc2 (committedLoad s)
    ++ enc1 s.power.holders.length ++ encPadded 4 0xFF (s.power.holders.map Holder.code)

/-- A preferred side: none is sent as 0xFF (R183). -/
def sideField (side : Option Side) : List Byte := encOpt1 (side.map Side.code)

/-- The plant status summary (R78, R182). -/
def statusRecord (s : State) : List Byte :=
  let e := s.eval
  enc2 Config.partCode ++ enc1 Config.revision ++ encWord s.now
    ++ enc4 e.reserve ++ enc4 e.capacity ++ encOpt2 e.ratio
    ++ enc1 e.computed ++ enc1 e.floor ++ enc1 e.level ++ enc1 e.callCount
    ++ encSigned4 e.imbalance ++ sideField (dutySide s) ++ sideField (fillSide s)
    ++ encOpt1 (e.dutyTank.map (·.val)) ++ enc1 e.dutyCandidates.length ++ enc1 e.fillCandidates.length
    ++ enc2 e.reviewTimer ++ enc2 e.settings.reviewPeriod
    ++ e.settings.supplyBands.flatMap enc2 ++ enc1 e.settings.hysteresis
    ++ e.settings.productionBands.flatMap enc2 ++ enc1 e.settings.productionHysteresis
    ++ enc2 e.settings.balanceBand ++ enc2 e.settings.balanceLimit
    ++ (allTanks.flatMap fun t => enc1 s.tanks[t].state.code)
    ++ enc1 s.sets.supply.code ++ enc2 s.sets.grantCapacity ++ enc1 s.arb.mode.code
    ++ enc1 s.arb.pendingList.length ++ enc1 s.arb.inService.length
    ++ (allTrains.flatMap fun n => enc1 s.trains[n].state.code) ++ enc1 s.waters.code
    ++ enc2 s.power.allowance ++ enc2 (effectiveAllowance s) ++ enc2 (committedLoad s)
    ++ encFlag s.transfer.run.isSome ++ encFlag s.shore.run.isSome ++ encWord s.strayTotal
    ++ enc1 s.link.queue.length ++ encFlag s.link.overflow ++ encFlag (attn s) ++ enc1 (lineCode (authority s))
    ++ encFlag s.link.snapshot.isSome ++ encFlag s.link.writing.isSome

/-- The fields of READ LINK (R182). The debounced LOCAL is sent 0 for released and 1 for asserted (DESIGN CHOICE, log 40), and the
time latched as 0 while no snapshot is latched (DEDUCED, log 15). -/
def linkRecord (s : State) : List Byte :=
  let l := s.link
  enc2 l.lineA.discards ++ encFlag l.lineA.busy ++ enc2 l.lineB.discards ++ encFlag l.lineB.busy
    ++ encFlag l.localAsserted ++ enc1 (lineCode (authority s)) ++ enc1 l.trigger ++ enc1 l.queue.length
    ++ encFlag l.overflow ++ encFlag (attn s) ++ encFlag l.snapshot.isSome ++ encWord ((l.snapshot.map (·.time)).getD 0)
    ++ encFlag l.writing.isSome ++ enc1 l.lastWrite.code

/-- Page 0 of a snapshot (R179, R185). -/
def snapshotTanks (p : Snapshot) : List Byte :=
  encWord p.time ++ allTanks.flatMap fun t =>
    enc2 p.tanks[t].volume ++ encOpt2 p.tanks[t].levelVolume ++ enc2 p.tanks[t].trusted

/-- Page 1 of a snapshot (R179, R185). -/
def snapshotMeters (p : Snapshot) : List Byte :=
  encWord p.time ++ (allMeters.flatMap fun m => encWord p.netTotals[m]) ++ encWord p.strayTotal

end Sys2Proof.Machine
end

