-- ==== Sys2Proof/Machine/Queries.lean ====
section
/-!
DEFINITION. The fifteen query kinds, codes 0x01 to 0x0F (spec/11, section 11.3): READ STATUS to READ LINK, FETCH NOTICES and
the three snapshot requests. Each kind has its owner's handling (`run…`), its entry for the Link (`own…`) and the meaning of
its row (`exec…`), a request frame that arrives whole on a line (DESIGN CHOICE, log 8).
-/

namespace Sys2Proof.Machine

/-- The reply OK with a record, changing nothing (R102, R182). -/
def answer (fields : List Byte) (s : State) : State × Reply := (s, ⟨.ok, fields⟩)

/-- A READ kind that carries an index: BAD_INDEX above the range, else OK with the record. -/
def readIndexed (n : Nat) (record : State → Fin n → List Byte) (body : List Byte) (s : State) : State × Reply :=
  match indexOf n (u8At body 0) with
  | none => refuse .badIndex s
  | some i => answer (record s i) s

/-! ### READ kinds -/

/-- READ STATUS (R182, R78). -/
def runReadStatus (_ : List Byte) (s : State) : State × Reply := answer (statusRecord s) s
/-- The kind READ STATUS. -/
def ownReadStatus : Owner := ⟨0x01, .query, bodyLength 0, runReadStatus⟩
/-- READ_STATUS (R182). -/
def execReadStatus (ln : LinkLine) (tag : Byte) (body : List Byte) (s : State) : Host.Outcome State Fault Refusal :=
  done (takeRequest ownReadStatus ln tag body s)

/-- READ TANK (R24). -/
def runReadTank : List Byte → State → State × Reply := readIndexed 12 fun s t => tankRecord t s.tanks[t]
/-- The kind READ TANK. -/
def ownReadTank : Owner := ⟨0x02, .query, bodyLength 1, runReadTank⟩
/-- READ_TANK (R24). -/
def execReadTank (ln : LinkLine) (tag : Byte) (body : List Byte) (s : State) : Host.Outcome State Fault Refusal :=
  done (takeRequest ownReadTank ln tag body s)

/-- READ METER (R41). -/
def runReadMeter : List Byte → State → State × Reply := readIndexed 24 meterRecord
/-- The kind READ METER. -/
def ownReadMeter : Owner := ⟨0x03, .query, bodyLength 1, runReadMeter⟩
/-- READ_METER (R41). -/
def execReadMeter (ln : LinkLine) (tag : Byte) (body : List Byte) (s : State) : Host.Outcome State Fault Refusal :=
  done (takeRequest ownReadMeter ln tag body s)

/-- READ FREQUENCY INPUT (R58). -/
def runReadFrequencyInput : List Byte → State → State × Reply := readIndexed 16 fun s i => inputRecord i s.inputs[i]
/-- The kind READ FREQUENCY INPUT. -/
def ownReadFrequencyInput : Owner := ⟨0x04, .query, bodyLength 1, runReadFrequencyInput⟩
/-- READ_FREQUENCY_INPUT (R58). -/
def execReadFrequencyInput (ln : LinkLine) (tag : Byte) (body : List Byte) (s : State) :
    Host.Outcome State Fault Refusal :=
  done (takeRequest ownReadFrequencyInput ln tag body s)

/-- READ LINE (R102). -/
def runReadLine : List Byte → State → State × Reply := readIndexed 16 lineRecord
/-- The kind READ LINE. -/
def ownReadLine : Owner := ⟨0x05, .query, bodyLength 1, runReadLine⟩
/-- READ_LINE (R102). -/
def execReadLine (ln : LinkLine) (tag : Byte) (body : List Byte) (s : State) : Host.Outcome State Fault Refusal :=
  done (takeRequest ownReadLine ln tag body s)

/-- READ GROUP (R102). -/
def runReadGroup : List Byte → State → State × Reply := readIndexed 6 groupRecord
/-- The kind READ GROUP. -/
def ownReadGroup : Owner := ⟨0x06, .query, bodyLength 1, runReadGroup⟩
/-- READ_GROUP (R102). -/
def execReadGroup (ln : LinkLine) (tag : Byte) (body : List Byte) (s : State) : Host.Outcome State Fault Refusal :=
  done (takeRequest ownReadGroup ln tag body s)

/-- READ ARBITER (R102). -/
def runReadArbiter (_ : List Byte) (s : State) : State × Reply := answer (arbiterRecord s) s
/-- The kind READ ARBITER. -/
def ownReadArbiter : Owner := ⟨0x07, .query, bodyLength 0, runReadArbiter⟩
/-- READ_ARBITER (R102). -/
def execReadArbiter (ln : LinkLine) (tag : Byte) (body : List Byte) (s : State) : Host.Outcome State Fault Refusal :=
  done (takeRequest ownReadArbiter ln tag body s)

/-- READ TRAIN (R156). -/
def runReadTrain : List Byte → State → State × Reply := readIndexed 3 trainRecord
/-- The kind READ TRAIN. -/
def ownReadTrain : Owner := ⟨0x08, .query, bodyLength 1, runReadTrain⟩
/-- READ_TRAIN (R156). -/
def execReadTrain (ln : LinkLine) (tag : Byte) (body : List Byte) (s : State) : Host.Outcome State Fault Refusal :=
  done (takeRequest ownReadTrain ln tag body s)

/-- READ SETS (R134). -/
def runReadSets (_ : List Byte) (s : State) : State × Reply := answer (setsRecord s) s
/-- The kind READ SETS. -/
def ownReadSets : Owner := ⟨0x09, .query, bodyLength 0, runReadSets⟩
/-- READ_SETS (R134). -/
def execReadSets (ln : LinkLine) (tag : Byte) (body : List Byte) (s : State) : Host.Outcome State Fault Refusal :=
  done (takeRequest ownReadSets ln tag body s)

/-- READ TRANSFER (R170). -/
def runReadTransfer (_ : List Byte) (s : State) : State × Reply := answer (transferRecord s) s
/-- The kind READ TRANSFER. -/
def ownReadTransfer : Owner := ⟨0x0A, .query, bodyLength 0, runReadTransfer⟩
/-- READ_TRANSFER (R170). -/
def execReadTransfer (ln : LinkLine) (tag : Byte) (body : List Byte) (s : State) : Host.Outcome State Fault Refusal :=
  done (takeRequest ownReadTransfer ln tag body s)

/-- READ LINK (R182). -/
def runReadLink (_ : List Byte) (s : State) : State × Reply := answer (linkRecord s) s
/-- The kind READ LINK. -/
def ownReadLink : Owner := ⟨0x0B, .query, bodyLength 0, runReadLink⟩
/-- READ_LINK (R182). -/
def execReadLink (ln : LinkLine) (tag : Byte) (body : List Byte) (s : State) : Host.Outcome State Fault Refusal :=
  done (takeRequest ownReadLink ln tag body s)

/-! ### FETCH NOTICES -/

/-- The removal of the oldest notices, at most `maximum` of them, and its reply (R178). -/
def fetch (maximum : Nat) (s : State) : State × Reply :=
  let taken := s.link.queue.take maximum
  let left := s.link.queue.drop maximum
  (s.modLink fun l => { l with queue := left, overflow := false },
    ⟨if taken.isEmpty then .none else .ok,
      encFlag s.link.overflow ++ enc1 taken.length ++ enc1 left.length ++ taken.flatMap Notice.bytes⟩)

/-- FETCH NOTICES (R178): a maximum of 0 or above 8 is BAD_VALUE. -/
def runFetchNotices (body : List Byte) (s : State) : State × Reply :=
  if inRange 1 8 (u8At body 0) then fetch (u8At body 0) s else refuse .badValue s
/-- The kind FETCH NOTICES. -/
def ownFetchNotices : Owner := ⟨0x0C, .query, bodyLength 1, runFetchNotices⟩
/-- FETCH_NOTICES (R178). -/
def execFetchNotices (ln : LinkLine) (tag : Byte) (body : List Byte) (s : State) : Host.Outcome State Fault Refusal :=
  done (takeRequest ownFetchNotices ln tag body s)

/-! ### The snapshot -/

/-- The figures of the snapshot as they stand (R179). -/
def snapshotOf (s : State) : Snapshot :=
  { time := s.now
    tanks := updAll s.tanks fun _ k => ⟨k.volume, k.levelVolume, k.trusted⟩
    netTotals := updAll s.meters fun _ m => m.netTotal
    strayTotal := s.strayTotal }

/-- TAKE SNAPSHOT (R179). -/
def runTakeSnapshot (_ : List Byte) (s : State) : State × Reply :=
  match s.link.snapshot with
  | some p => answer (encFlag true ++ encWord p.time) s
  | none => answer (encFlag false ++ encWord s.now) (s.modLink fun l => { l with snapshot := some (snapshotOf s) })
/-- The kind TAKE SNAPSHOT. -/
def ownTakeSnapshot : Owner := ⟨0x0D, .query, bodyLength 0, runTakeSnapshot⟩
/-- TAKE_SNAPSHOT (R179). -/
def execTakeSnapshot (ln : LinkLine) (tag : Byte) (body : List Byte) (s : State) : Host.Outcome State Fault Refusal :=
  done (takeRequest ownTakeSnapshot ln tag body s)

/-- Releases the image held. -/
def dropSnapshot (s : State) : State := s.modLink fun l => { l with snapshot := none }

/-- READ SNAPSHOT (R179): page 1 releases the image after the reply is formed. The page is checked before the image (DEDUCED, log
39). -/
def runReadSnapshot (body : List Byte) (s : State) : State × Reply :=
  if inRange 0 1 (u8At body 0) then
    match s.link.snapshot with
    | none => refuse .wrongState s
    | some p => if u8At body 0 = 0 then answer (snapshotTanks p) s else answer (snapshotMeters p) (dropSnapshot s)
  else refuse .badValue s
/-- The kind READ SNAPSHOT. -/
def ownReadSnapshot : Owner := ⟨0x0E, .query, bodyLength 1, runReadSnapshot⟩
/-- READ_SNAPSHOT (R179). -/
def execReadSnapshot (ln : LinkLine) (tag : Byte) (body : List Byte) (s : State) : Host.Outcome State Fault Refusal :=
  done (takeRequest ownReadSnapshot ln tag body s)

/-- RELEASE SNAPSHOT (R179): NONE when no image is latched. -/
def runReleaseSnapshot (_ : List Byte) (s : State) : State × Reply :=
  match s.link.snapshot with
  | some _ => okReply (dropSnapshot s)
  | none => (s, ⟨.none, []⟩)
/-- The kind RELEASE SNAPSHOT. -/
def ownReleaseSnapshot : Owner := ⟨0x0F, .query, bodyLength 0, runReleaseSnapshot⟩
/-- RELEASE_SNAPSHOT (R179). -/
def execReleaseSnapshot (ln : LinkLine) (tag : Byte) (body : List Byte) (s : State) :
    Host.Outcome State Fault Refusal :=
  done (takeRequest ownReleaseSnapshot ln tag body s)

/-- The owners of the query kinds. -/
def queryOwners : List Owner :=
  [ownReadStatus, ownReadTank, ownReadMeter, ownReadFrequencyInput, ownReadLine, ownReadGroup, ownReadArbiter,
    ownReadTrain, ownReadSets, ownReadTransfer, ownReadLink, ownFetchNotices, ownTakeSnapshot, ownReadSnapshot,
    ownReleaseSnapshot]

end Sys2Proof.Machine
end

