-- ==== Sys2Proof/Machine/Tick.lean ====
section
/-!
DEFINITION. The one-second tick: every timer, sample and rate window moves by one second (R12, R32, R70, R82, R87, R104, R118,
R125, R127, R128, R138, R141, R144, R146, R165, R174), and the events the tick brings about are listed as due. Each of them is
taken by the command of its row; until then its timer waits at its length (DESIGN CHOICE, log 5).
-/

namespace Sys2Proof.Machine

/-- Counts up to a limit and waits there (DESIGN CHOICE, log 5). -/
def holdAt (limit x : Nat) : Nat := if x < limit then x + 1 else x

/-! ### Records under a tick -/

/-- The rate window of a channel: the open slot becomes the newest completed one (R32). -/
def Meter.tick (m : Meter) : Meter := { m with completed := (m.openSlot :: m.completed).take 10, openSlot := 0 }

/-- The quiet timer of a defined tank (R12). -/
def Tank.tick (k : Tank) : Tank := if k.defined then { k with quietTimer := satAdd 65535 k.quietTimer 1 } else k

/-- The timers of a draw record by its line's state (R82, R104). -/
def Draw.tick (l : DrawLine) (d : Draw) : Draw :=
  match l.state with
  | .pending => { d with wait := satAdd 65535 d.wait 1 }
  | .flowing => { d with duration := holdAt l.defn.maxDuration d.duration, stall := holdAt l.defn.stallTime d.stall }
  | .unconfigured | .idle | .suspended | .releaseWait | .fault => d

/-- The contact sample and the draw of a line (R87, R82, R104). -/
def DrawLine.tick (closed : Bool) (l : DrawLine) : DrawLine :=
  { l with contactClosed := closed, draw := l.draw.map (Draw.tick l) }

/-- The proof sample and the timers of a set (R125, R127). While its loss of proof waits to be taken the proof-loss timer
waits with it (DESIGN CHOICE, log 5). -/
def PressureSet.tick (closed lossWaits : Bool) (p : PressureSet) : PressureSet :=
  match p.state with
  | .starting => { p with proofClosed := closed, startTimer := if closed then p.startTimer else p.startTimer.tick }
  | .running => { p with proofClosed := closed, lossTimer := if closed then 0 else if lossWaits then p.lossTimer else p.lossTimer + 1 }
  | .offLine | .idle | .failed => { p with proofClosed := closed }

/-- The alternation timer counts toward its period in hours (R128). -/
def alternationTick (t : Timer) : Timer := { t with count := holdAt (t.length * 3600) t.count }

/-- The counters and timers of a train (R138, R141, R144, R146). -/
def Train.tick (w : Train) : Train :=
  { w with
    runningSeconds := if w.state.running then w.runningSeconds + 1 else w.runningSeconds
    runTimer := if w.state.running then satAdd 65535 w.runTimer 1 else w.runTimer
    stage := if w.state.running then w.stage.map Timer.tick else w.stage
    stall := if w.state == .producing then w.stall.tick else w.stall
    flushWait := if w.state == .flushWait then w.flushWait.tick else w.flushWait
    rest := w.rest.map Timer.tick }

/-- The loss of proof of a set that an earlier tick brought about waits to be taken, its count still at the changeover time
(DESIGN CHOICE, log 5). -/
def lossWaits (s : State) (x : Fin 2) : Bool :=
  s.due.contains (.setProofLost x) && s.sets.settings.changeover ≤ s.sets.sets[x].lossTimer

/-- Every record one second on, before any event of the tick is taken. -/
def advance (contacts : BitVec 16) (proofs : BitVec 2) (localIn : Bool) (s : State) : State :=
  { s with
    now := s.now + 1
    tanks := updAll s.tanks fun _ k => k.tick
    meters := updAll s.meters fun _ m => m.tick
    eval := { s.eval with reviewTimer := holdAt s.eval.settings.reviewPeriod s.eval.reviewTimer }
    lines := updAll s.lines fun k l => l.tick (contacts.getLsb k)
    arb := { s.arb with hold := s.arb.hold.map Timer.tick }
    sets := { s.sets with
      sets := updAll s.sets.sets fun x p => p.tick (proofs.getLsb x) (lossWaits s x)
      alternationTimer := s.sets.alternationTimer.map alternationTick }
    trains := updAll s.trains fun _ w => w.tick
    transfer := { s.transfer with
      stall := if s.transfer.run.isSome then s.transfer.stall.tick else s.transfer.stall }
    link := { s.link with localSample := localIn } }

/-! ### The events of a tick -/

/-- An optional event. -/
def dueIf (b : Bool) (d : Due) : List Due := if b then [d] else []

/-- The events of a line: a debounced change of its contact, the end of its draw (TIMED_OUT alone when both limits are
reached), and its ageing (R87, R108, R114). `l` is the line before the tick and `l'` after it. -/
def lineDue (patience : Nat) (k : Fin 16) (l l' : DrawLine) : List Due :=
  dueIf (l'.contactClosed && l.contactClosed && !l.asserted) (.contactAssertion k)
    ++ dueIf (!l'.contactClosed && !l.contactClosed && l.asserted) (.contactRelease k)
    ++ match l'.state, l'.draw with
      | .flowing, some d =>
        if l'.defn.maxDuration ≤ d.duration then [.drawTimedOut k]
        else dueIf (l'.defn.stallTime ≤ d.stall) (.drawStalled k)
      | .pending, some d => dueIf (!d.aged && patience ≤ d.wait) (.drawAges k)
      | _, _ => []

/-- The events of a set after the tick (R125, R127). -/
def setDue (changeover : Nat) (x : Fin 2) (p : PressureSet) : List Due :=
  match p.state with
  | .starting => if p.proofClosed then [.setProved x] else dueIf p.startTimer.expired (.setStartProofFailed x)
  | .running => dueIf (!p.proofClosed && changeover ≤ p.lossTimer) (.setProofLost x)
  | .offLine | .idle | .failed => []

/-- The alternation timer has reached its period (R128). -/
def alternationExpired (t : Timer) : Bool := t.length * 3600 ≤ t.count

/-- The events of a train after the tick; `carried` says that its min-run expiry was due before and not taken (R138, R140,
R141, R144, R146, R149). -/
def trainDue (carried : Bool) (n : Fin 3) (w : Train) : List Due :=
  (match w.state with
    | .priming => dueIf (w.stage.any Timer.expired) (.prime n)
    | .ramping => dueIf (w.stage.any Timer.expired) (.ramp n)
    | .diverting => dueIf (w.stage.any Timer.expired) (.divertMax n)
    | .producing =>
      dueIf w.stall.expired (.productStall n)
        ++ dueIf (w.mode == .auto && (w.runTimer == w.defn.minRun || carried)) (.minRun n)
    | .flushWait => dueIf (!w.flushPlaced) (.flushRequest n) ++ dueIf w.flushWait.expired (.flushWait n)
    | .off | .flushing | .fault => [])
    ++ dueIf (w.rest.any Timer.expired) (.rest n)

/-- The events that a tick brings about, from the state before it and the state after it. -/
def dueOf (s s' : State) : List Due :=
  (allLines.flatMap fun k => lineDue s'.groups[groupOf s' k].defn.patience k s.lines[k] s'.lines[k])
    ++ dueIf (s'.link.localSample == s.link.localSample && s'.link.localSample != s.link.localAsserted) .authorityChange
    ++ dueIf (s'.arb.hold.any Timer.expired) .holdExpiry
    ++ (allSets.flatMap fun x => setDue s'.sets.settings.changeover x s'.sets.sets[x])
    ++ dueIf (s'.sets.alternationTimer.any alternationExpired) .alternation
    ++ (allTrains.flatMap fun n => trainDue (s.due.contains (.minRun n)) n s'.trains[n])
    ++ dueIf (s'.eval.settings.reviewPeriod ≤ s'.eval.reviewTimer) .review
    ++ dueIf (s'.transfer.run.isSome && s'.transfer.stall.expired) .transferStall

/-- The one-second tick. -/
def tick (contacts : BitVec 16) (proofs : BitVec 2) (localIn : Bool) (s : State) : State :=
  let s' := advance contacts proofs localIn s
  { s' with due := dueOf s s' }

end Sys2Proof.Machine
end

