-- ==== Sys2Proof/Machine/Events.lean ====
section
/-!
DEFINITION. The meanings of the event rows: power, the tick, the Link's events, the field's events, and the timer events.
A timer event is taken when the last tick made it due and the state still has it (`takeDue`; DESIGN CHOICE, logs 5 and 6).
-/

namespace Sys2Proof.Machine

/-! ### Power and tick -/

/-- POWER_ON (R181). -/
def execPowerOn (storeGood : Bool) (phaseA phaseB : BitVec 24) (localIn : Bool) (s : State) :
    Host.Outcome State Fault Refusal :=
  done (powerOn storeGood phaseA phaseB localIn s)

/-- SECOND_TICK (R32 and the rules of Machine/Tick.lean). -/
def execSecondTick (contacts : BitVec 16) (proofs : BitVec 2) (localIn : Bool) (s : State) :
    Host.Outcome State Fault Refusal :=
  done (tick contacts proofs localIn s)

/-! ### The Link -/

/-- The owners of every request kind (spec/11, section 11.3). -/
def requestOwners : List Owner := queryOwners ++ configurationOwners ++ operationOwners

/-- UNKNOWN_KIND_REQUEST (R174): a good frame whose kind no owner has. -/
def execUnknownKindRequest (ln : LinkLine) (kind tag : Byte) (body : List Byte) (s : State) :
    Host.Outcome State Fault Refusal :=
  done (takeAny requestOwners ln kind tag body s)

/-- FRAME_DISCARD (R172; DESIGN CHOICE, log 9). -/
def execFrameDiscard (ln : LinkLine) (s : State) : Host.Outcome State Fault Refusal := done (discardFrame ln s)

/-- RECEIVER_GAP_TIMEOUT (R172): a gap in HUNT discards nothing (DESIGN CHOICE, log 9). -/
def execReceiverGapTimeout (ln : LinkLine) (s : State) : Host.Outcome State Fault Refusal :=
  done (if (s.link.serial ln).receiver = .hunt then s else discardFrame ln s)

/-- FRAME_WHILE_BUSY (R173): a good frame completes while its line is busy (DESIGN CHOICE, log 9). -/
def execFrameWhileBusy (ln : LinkLine) (s : State) : Host.Outcome State Fault Refusal :=
  done (if (s.link.serial ln).busy then discardFrame ln s else s)

/-- REPLY_SENT (R173): the last byte of the reply has been sent. -/
def execReplySent (ln : LinkLine) (s : State) : Host.Outcome State Fault Refusal :=
  done (s.modSerial ln fun l => { l with busy := false, reply := [] })

/-- BYTE_RECEIVED (R172). -/
def execByteReceived (ln : LinkLine) (b : Byte) (stopGood : Bool) (s : State) : Host.Outcome State Fault Refusal :=
  done (receiveByte requestOwners ln b stopGood s)

/-- STORE_WRITE_COMPLETE (R180; DESIGN CHOICE, logs 16 and 17). -/
def execStoreWriteComplete (checkHolds : Bool) (s : State) : Host.Outcome State Fault Refusal :=
  done (writeCompletes checkHolds s)

/-- The debounced LOCAL takes the level of the last sample (R174). -/
def changeAuthority (s : State) : State := s.modLink fun l => { l with localAsserted := l.localSample }

/-- AUTHORITY_CHANGE (R174). -/
def execAuthorityChange (s : State) : Host.Outcome State Fault Refusal :=
  done (takeDue .authorityChange (fun s => s.link.localSample != s.link.localAsserted) changeAuthority s)

/-! ### Meters and frequency inputs -/

/-- METER_EDGE (R27 to R38). -/
def execMeterEdge (m : Fin 24) (levelA levelB : Bool) (s : State) : Host.Outcome State Fault Refusal :=
  done (takeEdge m levelA levelB s)

/-- FREQUENCY_GATE_END (R44). -/
def execFrequencyGateEnd (i : Fin 16) (f : Nat) (s : State) : Host.Outcome State Fault Refusal := done (gateEnd i f s)

/-- INPUT_FAULT_ENTRY (R45): the gate end that puts the input in FAULT (DEDUCED; DEDUCED, log 7). -/
def execInputFaultEntry (i : Fin 16) (f : Nat) (s : State) : Host.Outcome State Fault Refusal :=
  done (if entersFault s.inputs[i] f then gateEnd i f s else s)

/-- INPUT_FAULT_CLEARED (R45): the gate end that returns the input to GOOD (DEDUCED; DEDUCED, log 7). -/
def execInputFaultCleared (i : Fin 16) (f : Nat) (s : State) : Host.Outcome State Fault Refusal :=
  done (if clearsFault s.inputs[i] f then gateEnd i f s else s)

/-- QUALIFICATION_HOLD_COMPLETE (R140): the gate end whose reading completes a train's hold (DEDUCED; DEDUCED, log 7). -/
def execQualificationHoldComplete (i : Fin 16) (f : Nat) (s : State) : Host.Outcome State Fault Refusal :=
  done (if completesHold s i f then gateEnd i f s else s)

/-! ### Contacts -/

/-- An assertion acts on a defined CONTACT line that is IDLE (R88). -/
def contactAsserted (k : Fin 16) (s : State) : State :=
  let s1 := s.modLine k fun l => { l with asserted := true }
  let l := s1.lines[k]
  if l.defined && l.defn.source == .contact && l.state == .idle then
    register k (some l.defn.defaultBatch) .contact s1
  else s1

/-- CONTACT_ASSERTION (R87, R88). -/
def execContactAssertion (k : Fin 16) (s : State) : Host.Outcome State Fault Refusal :=
  done (takeDue (.contactAssertion k) (fun s => s.lines[k].contactClosed && !s.lines[k].asserted) (contactAsserted k) s)

/-- A release withdraws a pending contact draw of a CONTACT line, or takes the line out of RELEASE_WAIT (R88). -/
def contactReleased (k : Fin 16) (s : State) : State :=
  let s1 := s.modLine k fun l => { l with asserted := false }
  let l := s1.lines[k]
  if l.defined && l.defn.source == .contact then
    if l.state == .pending && drawOrigin s1 k == some .contact then grantPass (withdraw k s1)
    else if l.state == .releaseWait then s1.modLine k fun l => { l with state := .idle }
    else s1
  else s1

/-- CONTACT_RELEASE (R87, R88). -/
def execContactRelease (k : Fin 16) (s : State) : Host.Outcome State Fault Refusal :=
  done (takeDue (.contactRelease k) (fun s => !s.lines[k].contactClosed && s.lines[k].asserted) (contactReleased k) s)

/-! ### Draw timers -/

/-- The line flows and its draw's duration timer stands at the max duration (R108). -/
def timedOutNow (k : Fin 16) (s : State) : Bool :=
  isFlowing s k && s.lines[k].draw.any fun d => s.lines[k].defn.maxDuration ≤ d.duration

/-- DRAW_TIMED_OUT (R108). -/
def execDrawTimedOut (k : Fin 16) (s : State) : Host.Outcome State Fault Refusal :=
  done (takeDue (.drawTimedOut k) (timedOutNow k) (endDraw k .timedOut) s)

/-- The line flows and its draw's stall timer stands at the stall time (R108). -/
def stalledNow (k : Fin 16) (s : State) : Bool :=
  isFlowing s k && s.lines[k].draw.any fun d => s.lines[k].defn.stallTime ≤ d.stall

/-- DRAW_STALLED (R108). -/
def execDrawStalled (k : Fin 16) (s : State) : Host.Outcome State Fault Refusal :=
  done (takeDue (.drawStalled k) (stalledNow k) (endDraw k .stalled) s)

/-- The draw still waits in the pending spell in which it became due to age (R114). -/
def agesNow (k : Fin 16) (s : State) : Bool :=
  s.lines[k].state == .pending && s.lines[k].draw.any fun d => !d.aged && 0 < d.wait

/-- A draw ages: it moves to the top of its group's order, and no pass runs (R114). -/
def ageDraw (k : Fin 16) (s : State) : State :=
  let g := groupOf s k
  let wait := ((s.lines[k].draw).map (·.wait)).getD 0
  let s1 := (s.modDraw k fun d => { d with aged := true }).modGroup g fun r => { r with rotation := toTop [k] r.rotation }
  post (.aged k g wait) (refreshPending s1)

/-- DRAW_AGES (R114). -/
def execDrawAges (k : Fin 16) (s : State) : Host.Outcome State Fault Refusal :=
  done (takeDue (.drawAges k) (agesNow k) (ageDraw k) s)

/-- The hold timer expires: with supply still DOWN every suspended draw ends, and the timer becomes absent (R118). -/
def holdExpires (s : State) : State :=
  (if s.arb.supplyHeld == .down then endSuspended s else s).modArb fun a => { a with hold := none }

/-- HOLD_TIMER_EXPIRY (R118). -/
def execHoldTimerExpiry (s : State) : Host.Outcome State Fault Refusal :=
  done (takeDue .holdExpiry (fun s => s.arb.hold.any Timer.expired) holdExpires s)

/-! ### Pressure sets -/

/-- A starting set finds its proof closed: the duty set makes supply UP; a standby completes the alternation, and the old duty
enters IDLE with its proof-loss timer 0 and its start timer as it stands (R125, R126, R129). -/
def setProves (x : Fin 2) (s : State) : State :=
  let old := s.sets.duty
  let s1 := s.modSet x fun p => { p with state := .running, lossTimer := 0 }
  if x = old then workOutSupply s1
  else
    let s2 := s1.modSet old fun p => { p with state := .idle, lossTimer := 0 }
    workOutSupply (post (.setChangeover x .alternation old) { s2 with sets := { s2.sets with duty := x } })

/-- SET_PROVED (R125). -/
def execSetProved (x : Fin 2) (s : State) : Host.Outcome State Fault Refusal :=
  done (takeDue (.setProved x) (fun s => s.sets.sets[x].state == .starting && s.sets.sets[x].proofClosed) (setProves x) s)

/-- A start fails (R125), and what follows (R124). -/
def startFails (x : Fin 2) (s : State) : State :=
  settleSets .proofFailed (failSet x .startProof s.sets.sets[x].startTimer.count s)

/-- SET_START_PROOF_FAILED (R125). -/
def execSetStartProofFailed (x : Fin 2) (s : State) : Host.Outcome State Fault Refusal :=
  done (takeDue (.setStartProofFailed x)
    (fun s => s.sets.sets[x].state == .starting && s.sets.sets[x].startTimer.expired) (startFails x) s)

/-- A running set fails by loss of proof (R127), and what follows (R124 to R126). -/
def proofLost (x : Fin 2) (s : State) : State :=
  settleSets .proofLost (failSet x .proofLost s.sets.sets[x].lossTimer s)

/-- SET_PROOF_LOST (R127). -/
def execSetProofLost (x : Fin 2) (s : State) : Host.Outcome State Fault Refusal :=
  done (takeDue (.setProofLost x) (fun s => s.sets.sets[x].state == .running && !s.sets.sets[x].proofClosed)
    (proofLost x) s)

/-- The alternation is tried: supply is UP and the standby is IDLE and usable (R129). -/
def tryAlternation (s : State) : State :=
  let standby := otherSet s.sets.duty
  if s.sets.supply == .up && s.sets.sets[standby].state == .idle && s.sets.sets[standby].usable then startSet standby s
  else s

/-- The alternation timer expires: it starts again toward the period in force, or becomes absent (R128). -/
def alternates (s : State) : State :=
  let period := s.sets.settings.alternation
  tryAlternation { s with sets := { s.sets with alternationTimer := if period = 0 then none else some (.start period) } }

/-- ALTERNATION_EXPIRY (R128, R129). -/
def execAlternationExpiry (s : State) : Host.Outcome State Fault Refusal :=
  done (takeDue .alternation (fun s => s.sets.alternationTimer.any alternationExpired) alternates s)

/-! ### Trains -/

/-- The train is in a stage and its stage timer has reached its length. -/
def stageOver (st : TrainState) (n : Fin 3) (s : State) : Bool :=
  s.trains[n].state == st && s.trains[n].stage.any Timer.expired

/-- The prime timer expires: the train enters RAMPING (R138). -/
def enterRamping (n : Fin 3) (s : State) : State :=
  s.modTrain n fun w => { w with state := .ramping, stage := some (.start w.defn.rampTime) }

/-- PRIME_TIMER_EXPIRY (R138; a train leaves PRIMING, R148). -/
def execPrimeTimerExpiry (n : Fin 3) (s : State) : Host.Outcome State Fault Refusal :=
  done (takeDue (.prime n) (stageOver .priming n) (fun s => startCheck (enterRamping n s)) s)

/-- RAMP_TIMER_EXPIRY (R138, R140; a train leaves RAMPING, R148). -/
def execRampTimerExpiry (n : Fin 3) (s : State) : Host.Outcome State Fault Refusal :=
  done (takeDue (.ramp n) (stageOver .ramping n) (fun s => startCheck (enterDiverting n s)) s)

/-- DIVERT_MAX_EXPIRY (R140). -/
def execDivertMaxExpiry (n : Fin 3) (s : State) : Host.Outcome State Fault Refusal :=
  done (takeDue (.divertMax n) (stageOver .diverting n) (haltTrain n .quality) s)

/-- PRODUCT_STALL_EXPIRY (R141). -/
def execProductStallExpiry (n : Fin 3) (s : State) : Host.Outcome State Fault Refusal :=
  done (takeDue (.productStall n) (fun s => s.trains[n].state == .producing && s.trains[n].stall.expired)
    (haltTrain n .noProduct) s)

/-- MIN_RUN_EXPIRY (R149). -/
def execMinRunExpiry (n : Fin 3) (s : State) : Host.Outcome State Fault Refusal :=
  done (takeDue (.minRun n) (stoppable · n) stopCheck s)

/-- FLUSH_REQUEST (R144). -/
def execFlushRequest (n : Fin 3) (s : State) : Host.Outcome State Fault Refusal :=
  done (takeDue (.flushRequest n) (fun s => s.trains[n].state == .flushWait && !s.trains[n].flushPlaced) (askFlush n) s)

/-- FLUSH_WAIT_EXPIRY (R144, R146). -/
def execFlushWaitExpiry (n : Fin 3) (s : State) : Host.Outcome State Fault Refusal :=
  done (takeDue (.flushWait n) (fun s => s.trains[n].state == .flushWait && s.trains[n].flushWait.expired)
    (faultTrain n .unflushed) s)

/-- The rest timer becomes absent and the train is rested (R146). -/
def restOver (n : Fin 3) (s : State) : State := startCheck (s.modTrain n fun w => { w with rest := none })

/-- REST_TIMER_EXPIRY (R146). -/
def execRestTimerExpiry (n : Fin 3) (s : State) : Host.Outcome State Fault Refusal :=
  done (takeDue (.rest n) (fun s => s.trains[n].rest.any Timer.expired) (restOver n) s)

/-! ### Review and transfer -/

/-- A balance review: the timer is 0, the duty tank is selected again, and a balancing transfer may start (R70, R167). -/
def balanceReviewed (s : State) : State :=
  let s1 := s.modEval fun e => { e with reviewTimer := 0 }
  balanceReview (if s1.eval.dutyTank.isSome then applyDuty .review (selectDuty s1) s1 else s1)

/-- REVIEW_TIMER_EXPIRY (R70). -/
def execReviewTimerExpiry (s : State) : Host.Outcome State Fault Refusal :=
  done (takeDue .review (fun _ => true) balanceReviewed s)

/-- TRANSFER_STALLED (R165). -/
def execTransferStalled (s : State) : Host.Outcome State Fault Refusal :=
  done (takeDue .transferStall (fun s => s.transfer.run.isSome && s.transfer.stall.expired) (endTransfer .stalled) s)

end Sys2Proof.Machine
end

