-- ==== Sys2Proof/Machine/Dispatch.lean ====
section
/-!
DEFINITION. The dispatch: one arm per command, in the order of spec/opcode_table.json.
-/

namespace Sys2Proof.Machine

/-- The effect of a command on everything but the queue (DESIGN CHOICE, log 4). -/
def exec (i : Instr) (s : State) : Host.Outcome State Fault Refusal :=
  match i with
  | .powerOn storeGood phaseA phaseB localIn => Sys2Proof.Machine.execPowerOn storeGood phaseA phaseB localIn s
  | .secondTick contacts proofs localIn => Sys2Proof.Machine.execSecondTick contacts proofs localIn s
  | .readStatus ln tag body => Sys2Proof.Machine.execReadStatus ln tag body s
  | .readTank ln tag body => Sys2Proof.Machine.execReadTank ln tag body s
  | .readMeter ln tag body => Sys2Proof.Machine.execReadMeter ln tag body s
  | .readFrequencyInput ln tag body => Sys2Proof.Machine.execReadFrequencyInput ln tag body s
  | .readLine ln tag body => Sys2Proof.Machine.execReadLine ln tag body s
  | .readGroup ln tag body => Sys2Proof.Machine.execReadGroup ln tag body s
  | .readArbiter ln tag body => Sys2Proof.Machine.execReadArbiter ln tag body s
  | .readTrain ln tag body => Sys2Proof.Machine.execReadTrain ln tag body s
  | .readSets ln tag body => Sys2Proof.Machine.execReadSets ln tag body s
  | .readTransfer ln tag body => Sys2Proof.Machine.execReadTransfer ln tag body s
  | .readLink ln tag body => Sys2Proof.Machine.execReadLink ln tag body s
  | .fetchNotices ln tag body => Sys2Proof.Machine.execFetchNotices ln tag body s
  | .takeSnapshot ln tag body => Sys2Proof.Machine.execTakeSnapshot ln tag body s
  | .readSnapshot ln tag body => Sys2Proof.Machine.execReadSnapshot ln tag body s
  | .releaseSnapshot ln tag body => Sys2Proof.Machine.execReleaseSnapshot ln tag body s
  | .defineTank ln tag body => Sys2Proof.Machine.execDefineTank ln tag body s
  | .loadStrapping ln tag body => Sys2Proof.Machine.execLoadStrapping ln tag body s
  | .defineMeter ln tag body => Sys2Proof.Machine.execDefineMeter ln tag body s
  | .defineFrequencyInput ln tag body => Sys2Proof.Machine.execDefineFrequencyInput ln tag body s
  | .defineLines ln tag body => Sys2Proof.Machine.execDefineLines ln tag body s
  | .defineGroup ln tag body => Sys2Proof.Machine.execDefineGroup ln tag body s
  | .setSupplyBands ln tag body => Sys2Proof.Machine.execSetSupplyBands ln tag body s
  | .setProductionBands ln tag body => Sys2Proof.Machine.execSetProductionBands ln tag body s
  | .setBalance ln tag body => Sys2Proof.Machine.execSetBalance ln tag body s
  | .defineTrain ln tag body => Sys2Proof.Machine.execDefineTrain ln tag body s
  | .defineSets ln tag body => Sys2Proof.Machine.execDefineSets ln tag body s
  | .defineTransferPump ln tag body => Sys2Proof.Machine.execDefineTransferPump ln tag body s
  | .setNoticeTrigger ln tag body => Sys2Proof.Machine.execSetNoticeTrigger ln tag body s
  | .saveConfiguration ln tag body => Sys2Proof.Machine.execSaveConfiguration ln tag body s
  | .seedTank ln tag body => Sys2Proof.Machine.execSeedTank ln tag body s
  | .reseedTank ln tag body => Sys2Proof.Machine.execReseedTank ln tag body s
  | .tankService ln tag body => Sys2Proof.Machine.execTankService ln tag body s
  | .draw ln tag body => Sys2Proof.Machine.execDraw ln tag body s
  | .cancelDraw ln tag body => Sys2Proof.Machine.execCancelDraw ln tag body s
  | .endDraw ln tag body => Sys2Proof.Machine.execEndDraw ln tag body s
  | .endDrawNonSpecific ln tag => Sys2Proof.Machine.execEndDrawNonSpecific ln tag s
  | .maskLines ln tag body => Sys2Proof.Machine.execMaskLines ln tag body s
  | .setRotation ln tag body => Sys2Proof.Machine.execSetRotation ln tag body s
  | .arbiterMode ln tag body => Sys2Proof.Machine.execArbiterMode ln tag body s
  | .dispatch ln tag body => Sys2Proof.Machine.execDispatch ln tag body s
  | .resetLine ln tag body => Sys2Proof.Machine.execResetLine ln tag body s
  | .trainMode ln tag body => Sys2Proof.Machine.execTrainMode ln tag body s
  | .startTrain ln tag body => Sys2Proof.Machine.execStartTrain ln tag body s
  | .stopTrain ln tag body => Sys2Proof.Machine.execStopTrain ln tag body s
  | .flushTrain ln tag body => Sys2Proof.Machine.execFlushTrain ln tag body s
  | .resetTrain ln tag body => Sys2Proof.Machine.execResetTrain ln tag body s
  | .setWaters ln tag body => Sys2Proof.Machine.execSetWaters ln tag body s
  | .setSupplyFloor ln tag body => Sys2Proof.Machine.execSetSupplyFloor ln tag body s
  | .setAllowance ln tag body => Sys2Proof.Machine.execSetAllowance ln tag body s
  | .startTransfer ln tag body => Sys2Proof.Machine.execStartTransfer ln tag body s
  | .stopTransfer ln tag body => Sys2Proof.Machine.execStopTransfer ln tag body s
  | .startShoreFill ln tag body => Sys2Proof.Machine.execStartShoreFill ln tag body s
  | .stopShoreFill ln tag body => Sys2Proof.Machine.execStopShoreFill ln tag body s
  | .pressureSetService ln tag body => Sys2Proof.Machine.execPressureSetService ln tag body s
  | .resetPressureSet ln tag body => Sys2Proof.Machine.execResetPressureSet ln tag body s
  | .unknownKindRequest ln kind tag body => Sys2Proof.Machine.execUnknownKindRequest ln kind tag body s
  | .frameDiscard ln => Sys2Proof.Machine.execFrameDiscard ln s
  | .receiverGapTimeout ln => Sys2Proof.Machine.execReceiverGapTimeout ln s
  | .frameWhileBusy ln => Sys2Proof.Machine.execFrameWhileBusy ln s
  | .replySent ln => Sys2Proof.Machine.execReplySent ln s
  | .storeWriteComplete checkHolds => Sys2Proof.Machine.execStoreWriteComplete checkHolds s
  | .authorityChange => Sys2Proof.Machine.execAuthorityChange s
  | .meterEdge m levelA levelB => Sys2Proof.Machine.execMeterEdge m levelA levelB s
  | .frequencyGateEnd x f => Sys2Proof.Machine.execFrequencyGateEnd x f s
  | .inputFaultEntry x f => Sys2Proof.Machine.execInputFaultEntry x f s
  | .inputFaultCleared x f => Sys2Proof.Machine.execInputFaultCleared x f s
  | .contactAssertion k => Sys2Proof.Machine.execContactAssertion k s
  | .contactRelease k => Sys2Proof.Machine.execContactRelease k s
  | .drawTimedOut k => Sys2Proof.Machine.execDrawTimedOut k s
  | .drawStalled k => Sys2Proof.Machine.execDrawStalled k s
  | .drawAges k => Sys2Proof.Machine.execDrawAges k s
  | .holdTimerExpiry => Sys2Proof.Machine.execHoldTimerExpiry s
  | .setProved x => Sys2Proof.Machine.execSetProved x s
  | .setStartProofFailed x => Sys2Proof.Machine.execSetStartProofFailed x s
  | .setProofLost x => Sys2Proof.Machine.execSetProofLost x s
  | .alternationExpiry => Sys2Proof.Machine.execAlternationExpiry s
  | .primeTimerExpiry n => Sys2Proof.Machine.execPrimeTimerExpiry n s
  | .rampTimerExpiry n => Sys2Proof.Machine.execRampTimerExpiry n s
  | .qualificationHoldComplete x f => Sys2Proof.Machine.execQualificationHoldComplete x f s
  | .divertMaxExpiry n => Sys2Proof.Machine.execDivertMaxExpiry n s
  | .productStallExpiry n => Sys2Proof.Machine.execProductStallExpiry n s
  | .minRunExpiry n => Sys2Proof.Machine.execMinRunExpiry n s
  | .flushRequest n => Sys2Proof.Machine.execFlushRequest n s
  | .flushWaitExpiry n => Sys2Proof.Machine.execFlushWaitExpiry n s
  | .restTimerExpiry n => Sys2Proof.Machine.execRestTimerExpiry n s
  | .reviewTimerExpiry => Sys2Proof.Machine.execReviewTimerExpiry s
  | .transferStalled => Sys2Proof.Machine.execTransferStalled s
  | .byteReceived ln b stopGood => Sys2Proof.Machine.execByteReceived ln b stopGood s

end Sys2Proof.Machine
end

