-- ==== Sys2Proof/Safety.lean ====
section
/-!
DEFINITION. The terms the statements use: when a request is taken on its merits, and the laws the manual states of every
state of the part (R11, R30, R92, R96, R125, R126, R147, R159, R176).
-/

namespace Sys2Proof.Machine

/-! ### When a request reaches its owner (R173, R174) -/

/-- The line can take a request: it is not busy (R173). -/
def LineFree (ln : LinkLine) (s : State) : Prop := (s.link.serial ln).busy = false

/-- A query or an operation on the line that holds authority reaches its owner (R174). -/
def InControl (ln : LinkLine) (s : State) : Prop := LineFree ln s ∧ ln = authority s

/-- A configuration request reaches its owner: authority, and no store write in flight (R174). -/
def MayDefine (ln : LinkLine) (s : State) : Prop := InControl ln s ∧ s.link.writing = none

/-- The next state in which a line has taken a request of a kind and a tag, and its owner has answered. -/
def answeredBy (ln : LinkLine) (kind tag : Byte) (answered : State × Reply) : State :=
  finish (sendReply ln kind tag answered)

/-- The state in which an event of the last tick has been taken off the list of those due (log 5). -/
def took (d : Due) (s : State) : State := { s with due := s.due.erase d }

/-! ### Requests as the Link sees them (R174) -/

/-- What the Link judges a request by: its line, kind, tag and body. -/
structure RequestFrame where
  line : LinkLine
  kind : Byte
  tag : Byte
  body : List Byte
  deriving DecidableEq, Repr

/-- The request frame a command is, if it is one (spec/11, section 11.3). -/
def requestOf : Instr → Option RequestFrame
  | .readStatus ln tag body => some ⟨ln, 0x01, tag, body⟩
  | .readTank ln tag body => some ⟨ln, 0x02, tag, body⟩
  | .readMeter ln tag body => some ⟨ln, 0x03, tag, body⟩
  | .readFrequencyInput ln tag body => some ⟨ln, 0x04, tag, body⟩
  | .readLine ln tag body => some ⟨ln, 0x05, tag, body⟩
  | .readGroup ln tag body => some ⟨ln, 0x06, tag, body⟩
  | .readArbiter ln tag body => some ⟨ln, 0x07, tag, body⟩
  | .readTrain ln tag body => some ⟨ln, 0x08, tag, body⟩
  | .readSets ln tag body => some ⟨ln, 0x09, tag, body⟩
  | .readTransfer ln tag body => some ⟨ln, 0x0A, tag, body⟩
  | .readLink ln tag body => some ⟨ln, 0x0B, tag, body⟩
  | .fetchNotices ln tag body => some ⟨ln, 0x0C, tag, body⟩
  | .takeSnapshot ln tag body => some ⟨ln, 0x0D, tag, body⟩
  | .readSnapshot ln tag body => some ⟨ln, 0x0E, tag, body⟩
  | .releaseSnapshot ln tag body => some ⟨ln, 0x0F, tag, body⟩
  | .defineTank ln tag body => some ⟨ln, 0x20, tag, body⟩
  | .loadStrapping ln tag body => some ⟨ln, 0x21, tag, body⟩
  | .defineMeter ln tag body => some ⟨ln, 0x22, tag, body⟩
  | .defineFrequencyInput ln tag body => some ⟨ln, 0x23, tag, body⟩
  | .defineLines ln tag body => some ⟨ln, 0x24, tag, body⟩
  | .defineGroup ln tag body => some ⟨ln, 0x25, tag, body⟩
  | .setSupplyBands ln tag body => some ⟨ln, 0x26, tag, body⟩
  | .setProductionBands ln tag body => some ⟨ln, 0x27, tag, body⟩
  | .setBalance ln tag body => some ⟨ln, 0x28, tag, body⟩
  | .defineTrain ln tag body => some ⟨ln, 0x29, tag, body⟩
  | .defineSets ln tag body => some ⟨ln, 0x2A, tag, body⟩
  | .defineTransferPump ln tag body => some ⟨ln, 0x2B, tag, body⟩
  | .setNoticeTrigger ln tag body => some ⟨ln, 0x2C, tag, body⟩
  | .saveConfiguration ln tag body => some ⟨ln, 0x2F, tag, body⟩
  | .seedTank ln tag body => some ⟨ln, 0x40, tag, body⟩
  | .reseedTank ln tag body => some ⟨ln, 0x41, tag, body⟩
  | .tankService ln tag body => some ⟨ln, 0x42, tag, body⟩
  | .draw ln tag body => some ⟨ln, 0x48, tag, body⟩
  | .cancelDraw ln tag body => some ⟨ln, 0x49, tag, body⟩
  | .endDraw ln tag body => some ⟨ln, 0x4A, tag, body⟩
  | .endDrawNonSpecific ln tag => some ⟨ln, 0x4A, tag, [0xFF]⟩
  | .maskLines ln tag body => some ⟨ln, 0x4B, tag, body⟩
  | .setRotation ln tag body => some ⟨ln, 0x4C, tag, body⟩
  | .arbiterMode ln tag body => some ⟨ln, 0x4D, tag, body⟩
  | .dispatch ln tag body => some ⟨ln, 0x4E, tag, body⟩
  | .resetLine ln tag body => some ⟨ln, 0x4F, tag, body⟩
  | .trainMode ln tag body => some ⟨ln, 0x50, tag, body⟩
  | .startTrain ln tag body => some ⟨ln, 0x51, tag, body⟩
  | .stopTrain ln tag body => some ⟨ln, 0x52, tag, body⟩
  | .flushTrain ln tag body => some ⟨ln, 0x53, tag, body⟩
  | .resetTrain ln tag body => some ⟨ln, 0x54, tag, body⟩
  | .setWaters ln tag body => some ⟨ln, 0x55, tag, body⟩
  | .setSupplyFloor ln tag body => some ⟨ln, 0x58, tag, body⟩
  | .setAllowance ln tag body => some ⟨ln, 0x59, tag, body⟩
  | .startTransfer ln tag body => some ⟨ln, 0x5A, tag, body⟩
  | .stopTransfer ln tag body => some ⟨ln, 0x5B, tag, body⟩
  | .startShoreFill ln tag body => some ⟨ln, 0x5C, tag, body⟩
  | .stopShoreFill ln tag body => some ⟨ln, 0x5D, tag, body⟩
  | .pressureSetService ln tag body => some ⟨ln, 0x60, tag, body⟩
  | .resetPressureSet ln tag body => some ⟨ln, 0x61, tag, body⟩
  | .unknownKindRequest ln kind tag body => some ⟨ln, kind, tag, body⟩
  | _ => none

/-- The body length a request kind requires (R174, spec/11, section 11.3). -/
def lengthRequired (kind : Nat) (body : List Byte) : Prop :=
  match kind with
  | 0x01 | 0x07 | 0x09 | 0x0A | 0x0B | 0x0D | 0x0F | 0x2F | 0x4E | 0x5B | 0x5D => body.length = 0
  | 0x02 | 0x03 | 0x04 | 0x05 | 0x06 | 0x08 | 0x0C | 0x0E | 0x2C => body.length = 1
  | 0x41 | 0x49 | 0x4A | 0x4C | 0x4D | 0x4F | 0x51 | 0x52 | 0x53 | 0x54 | 0x55 | 0x58 | 0x61 => body.length = 1
  | 0x42 | 0x50 | 0x59 | 0x60 => body.length = 2
  | 0x23 | 0x2B | 0x48 | 0x4B | 0x5C => body.length = 3
  | 0x25 | 0x5A => body.length = 4
  | 0x40 => body.length = 5
  | 0x22 | 0x28 => body.length = 6
  | 0x27 => body.length = 7
  | 0x2A => body.length = 14
  | 0x26 => body.length = 15
  | 0x20 => body.length = 21
  | 0x29 => body.length = 23
  | 0x21 => ∃ t count rest, body = t :: count :: rest ∧ rest.length = 4 * count.toNat
  | 0x24 => ∃ count rest, body = count :: rest ∧ rest.length = 12 + count.toNat
  | _ => False

/-! ### Request bodies by their fields (R183, R184) -/

/-- The body of a DEFINE TANK. -/
def tankBody (t : Fin 12) (d : TankDef) : List Byte :=
  enc1 t.val ++ d.tag ++ enc1 d.side.code ++ enc2 d.capacity ++ enc2 d.lowMark ++ enc2 d.fillStop ++ enc2 d.tolerance
    ++ enc2 d.quietTime ++ enc1 d.startState.toTankState.code

/-- The body of a LOAD STRAPPING. -/
def strappingBody (t : Fin 12) (points : List StrapPoint) : List Byte :=
  enc1 t.val ++ enc1 points.length ++ points.flatMap fun p => enc2 p.head ++ enc2 p.volume

/-- The body of a DEFINE METER. -/
def meterBody (m : Fin 24) (d : MeterDef) : List Byte :=
  enc1 m.val ++ enc1 d.mode.code ++ enc2 d.kFactor ++ enc1 d.role.code.1 ++ enc1 d.role.code.2

/-- The body of a DEFINE FREQUENCY INPUT; no role asks for UNDEFINED. -/
def inputBody (i : Fin 16) (role : Option InputRole) : List Byte :=
  match role with
  | none => enc1 i.val ++ enc1 0 ++ enc1 0
  | some r => enc1 i.val ++ enc1 (inputRoleCode true r).1 ++ enc1 (inputRoleCode true r).2

/-- The body of a DEFINE LINES. -/
def linesBody (ks : List (Fin 16)) (d : LineDef) : List Byte :=
  enc1 ks.length ++ (ks.flatMap fun k => enc1 k.val) ++ enc1 d.group.val ++ enc1 d.flow ++ enc2 d.defaultBatch
    ++ enc2 d.maxBatch ++ enc2 d.maxDuration ++ enc2 d.stallTime ++ enc1 d.source.code.1 ++ enc1 d.source.code.2

/-- The body of a DEFINE TRAIN. -/
def trainBody (n : Fin 3) (d : TrainDef) : List Byte :=
  enc1 n.val ++ enc1 d.ratedPower ++ (trainTimes d).flatMap enc2 ++ enc1 d.flushLine.val

/-- The body of a DEFINE SETS. -/
def setsBody (a b : SetDef) (r : SetSettings) (hold : Nat) : List Byte :=
  enc2 a.capacity ++ enc1 a.ratedPower ++ enc2 b.capacity ++ enc1 b.ratedPower ++ enc2 r.reserve ++ enc1 r.startProof
    ++ enc1 r.changeover ++ enc2 r.alternation ++ enc2 hold

/-- The number in some bytes of a body from a place on, least significant byte first (R183). -/
def fieldAt (bytes : List Byte) (place width : Nat) : Nat :=
  ((bytes.drop place).take width).foldr (fun b n => b.toNat + 256 * n) 0

/-- The status of an accepted request: OK, or OK_ADJUSTED when something was clamped (R175). -/
def acceptedAs (unchanged : Bool) : Status := if unchanged then .ok else .okAdjusted

/-! ### Laws of the tanks and the meters -/

/-- The two laws of the tank accounts (R11). -/
def TankLaws (s : State) : Prop :=
  ∀ t : Fin 12, s.tanks[t].seeded = true →
    s.tanks[t].volume ≤ s.tanks[t].defn.capacity ∧
    BitVec.ofNat 32 s.tanks[t].volume + s.tanks[t].unbooked
      = BitVec.ofNat 32 s.tanks[t].seedVolume + s.tanks[t].credited - s.tanks[t].debited

/-- Every channel an image defines has a K-factor above 0 (R25). -/
def Image.metersOk (image : Image) : Prop := ∀ (m : Fin 24) (d : MeterDef), image.meters[m] = some d → 0 < d.kFactor

/-- The residue of every channel lies between 0 and its K-factor minus 1 (R30), and the images of the configuration store
define no channel of K-factor 0. -/
def ResidueLaw (s : State) : Prop :=
  (∀ m : Fin 24, s.meters[m].residue < s.meters[m].defn.kFactor) ∧
  (∀ image : Image, s.link.stored = some image → image.metersOk) ∧
  (∀ image : Image, s.link.writing = some image → image.metersOk)

/-! ### Laws of the link, the sets, the trains and the power -/

/-- The notice queue holds at most 32 notices (R176). -/
def QueueLaw (s : State) : Prop := s.link.queue.length ≤ 32

/-- At most one set is RUNNING, and it is the duty set; an active set has a capacity; the supply state and the grant
capacity are those of the duty set and the reserve, and the Arbiter holds both (R125, R126). -/
def SetsLaw (s : State) : Prop :=
  (∀ x : Fin 2, s.sets.sets[x].state = .running → x = s.sets.duty) ∧
  (∀ x : Fin 2, s.sets.sets[x].state = .running ∨ s.sets.sets[x].state = .starting → 0 < s.sets.sets[x].defn.capacity) ∧
  s.sets.supply = supplyNow s ∧ s.sets.grantCapacity = capacityNow s ∧
  s.arb.supplyHeld = s.sets.supply ∧ s.arb.capacityHeld = s.sets.grantCapacity

/-- A train is in PRIMING or RAMPING. -/
def Starting (s : State) (n : Fin 3) : Prop := s.trains[n].state = .priming ∨ s.trains[n].state = .ramping

/-- At most one train is in PRIMING or RAMPING (R147). -/
def StartLaw (s : State) : Prop := ∀ n m : Fin 3, Starting s n → Starting s m → n = m

/-- The committed load never exceeds the effective allowance; the holders are the running trains and, while a transfer runs,
the pump, each once; the start order names every train (R158, R159, R136). -/
def PowerLaw (s : State) : Prop :=
  committedLoad s ≤ effectiveAllowance s ∧ s.power.holders.Nodup ∧
  (∀ n : Fin 3, Holder.train n ∈ s.power.holders ↔ s.trains[n].state.running = true) ∧
  (Holder.pump ∈ s.power.holders ↔ s.transfer.run.isSome = true) ∧
  (∀ n : Fin 3, n ∈ s.startOrder)

/-! ### The law of the fill targets -/

/-- The fill-target lists and the trains' targets agree: a tank's list holds the trains whose target it is, each once, and a
train has a target exactly while it is PRODUCING (R15, R141). -/
def FillLists (s : State) : Prop :=
  (∀ (n : Fin 3) (t : Fin 12), n ∈ s.tanks[t].fillTrains ↔ s.trains[n].target = some t) ∧
  (∀ t : Fin 12, s.tanks[t].fillTrains.Nodup) ∧
  (∀ n : Fin 3, s.trains[n].target.isSome = true ↔ s.trains[n].state = .producing)

/-- The fill-target lists agree with the targets, the fill candidates are the IN_SERVICE tanks that are not FULL, and the
target of a PRODUCING train is one of them (R15, R59, R72, R141, R142). -/
def FillLaw (s : State) : Prop :=
  FillLists s ∧
  (∀ t : Fin 12, t ∈ s.eval.fillCandidates ↔
    s.tanks[t].state = .inService ∧ s.tanks[t].fillMeasure < s.tanks[t].defn.fillStop) ∧
  (∀ (n : Fin 3) (t : Fin 12), s.trains[n].target = some t → t ∈ s.eval.fillCandidates)

/-! ### The law of the Draw Arbiter -/

/-- Every line an image defines has a nominal flow above 0 (R79). -/
def Image.linesOk (image : Image) : Prop := ∀ (k : Fin 16) (d : LineDef), image.lines[k] = some d → 0 < d.flow

/-- A line holds a draw (R80, R82). -/
def LineState.holdsDraw (st : LineState) : Bool := st == .pending || st == .flowing || st == .suspended

/-- The lists and the line states agree: the pending list holds the PENDING lines and the in-service set the FLOWING and
SUSPENDED ones, each once and at most 8, a draw record stands exactly with a draw, and a rotation order holds the defined
lines of its group, each once (R80, R82, R91, R92, R93); between commands no line counts as preempted at the event (log 22). -/
def ListsLaw (s : State) : Prop :=
  (∀ k : Fin 16, k ∈ s.arb.pendingList ↔ s.lines[k].state = .pending) ∧
  (∀ k : Fin 16, k ∈ s.arb.inService ↔ s.lines[k].state = .flowing ∨ s.lines[k].state = .suspended) ∧
  s.arb.pendingList.Nodup ∧ s.arb.inService.Nodup ∧ s.arb.inService.length ≤ 8 ∧
  (∀ k : Fin 16, s.lines[k].draw.isSome = true ↔ s.lines[k].state.holdsDraw = true) ∧
  (∀ (g : Fin 6) (k : Fin 16), k ∈ s.groups[g].rotation ↔ s.lines[k].defined = true ∧ s.lines[k].defn.group = g) ∧
  (∀ g : Fin 6, s.groups[g].rotation.Nodup) ∧
  (∀ k : Fin 16, s.lines[k].state ≠ .unconfigured → s.lines[k].defined = true) ∧ s.arb.preemptedNow = []

/-- The flow law: the nominal flows of the FLOWING draws sum to no more than the grant capacity held, which is 0 while the
supply state held is DOWN, and no draw is FLOWING then (R96); every line and every stored line definition has a nominal flow
above 0 (R79). -/
def FlowLaw (s : State) : Prop :=
  flowingFlow s ≤ s.arb.capacityHeld ∧
  (s.arb.supplyHeld = .down → s.arb.capacityHeld = 0 ∧ ∀ k : Fin 16, s.lines[k].state ≠ .flowing) ∧
  (∀ k : Fin 16, 0 < s.lines[k].defn.flow) ∧
  (∀ image : Image, s.link.stored = some image → image.linesOk) ∧
  (∀ image : Image, s.link.writing = some image → image.linesOk)

/-- The law of the Draw Arbiter (R92, R96). The flow law needs the lists and the sets to agree with the lines. -/
def ArbiterLaw (s : State) : Prop := ListsLaw s ∧ FlowLaw s

end Sys2Proof.Machine
end

