-- ==== Sys2Proof/Certificates/Slice0/Obligations.lean ====
section
/-!
DEFINITION. The statements for the provers, one `def Obligations.<Name> : Prop` each, listed in OBLIGATIONS.json.

A request statement writes the request's body by its fields (Safety.lean) and gives the next state in full: the line that
took the request (`takeLine`), what the owner did, and the reply (`answeredBy`). An event statement starts from an event that
the last tick brought about (`took`, logs 5 and 6). What a cascade does beyond the event's own change (a grant pass, a tank
change, the checks of the trains, the settling of the sets) is stated once for that operation.
-/

open Sys2Proof Sys2Proof.Machine

/-! ## The machine -/

/-- A step takes the command at the front of the queue and runs it with the queue's rest; on an empty queue the block
idles (the model's convention, log 4). -/
def Obligations.StepTakesFrontCommand : Prop :=
  (∀ (c : Instr) (rest : List Instr) (s : State), s.pending = c :: rest →
    step s = exec c { s with pending := rest }) ∧
  (∀ s : State, s.pending = [] → step s = .next s)

/-- Every command answers a next state, and at its end the output pins are those the rules give (R16, R79, R122, R138,
R162, R168, R177); it leaves the queue of waiting commands as it found it (log 4). -/
def Obligations.EveryCommandDrivesTheOutputs : Prop :=
  ∀ (c : Instr) (s : State), ∃ t : State, exec c s = .next t ∧ t.pending = s.pending ∧
    (∀ i : Fin 12, t.out.outlet[i] = true ↔ t.tanks[i].duty = true) ∧
    (∀ i : Fin 12, t.out.inlet[i] = true ↔
      (∃ n : Fin 3, n ∈ t.tanks[i].fillTrains ∧ t.trains[n].state = .producing) ∨ t.tanks[i].transferRole = .dest ∨
        t.tanks[i].shoreTarget = true) ∧
    (∀ i : Fin 12, t.out.suction[i] = true ↔ t.tanks[i].transferRole = .source) ∧
    (∀ k : Fin 16, t.out.lineValve[k] = true ↔ t.lines[k].state = .flowing) ∧
    (∀ n : Fin 3, t.out.feedPump[n] = true ↔ t.trains[n].state.running = true) ∧
    (∀ n : Fin 3, t.out.hpPump[n] = true ↔
      t.trains[n].state = .ramping ∨ t.trains[n].state = .diverting ∨ t.trains[n].state = .producing) ∧
    (∀ n : Fin 3, t.out.divertValve[n] = true ↔
      t.trains[n].state = .priming ∨ t.trains[n].state = .ramping ∨ t.trains[n].state = .diverting) ∧
    (∀ n : Fin 3, t.out.productValve[n] = true ↔ t.trains[n].state = .producing) ∧
    (∀ x : Fin 2, t.out.setRun[x] = true ↔ t.sets.sets[x].state = .starting ∨ t.sets.sets[x].state = .running) ∧
    (t.out.transferPump = true ↔ ∃ r, t.transfer.run = some r) ∧
    (t.out.shoreValve = true ↔ ∃ r, t.shore.run = some r) ∧
    (t.out.attn = true ↔ t.link.trigger ≤ t.link.queue.length ∨
      ∃ n ∈ t.link.queue, n.body.record.1 = 0x05 ∨ n.body.record.1 = 0x0A ∨ n.body.record.1 = 0x0C ∨ n.body.record.1 = 0x09)

/-- POWER_ON: every block takes its definitions from the stored image when its sum check holds, and from the defaults
with a CONFIG_DEFAULTED notice otherwise; every running field takes its power-on value (R4, R26, R43, R60, R81, R91,
R123, R137, R162, R168, R174, R176, R181). Where the rules list no value the model's stands: the LOCAL sample held is
the level present (log 3), the commands that wait stay in their queue (log 4), whether the sum check holds is an
operand and no image held gives the defaults (log 16), and started at is 0 and a stopped timer has length 0 (log 2).
The state after reset is a power-on with no stored image, the phases low and LOCAL released (R181; the levels are the
model's choice, log 1). -/
def Obligations.PowerOnTakesTheImage : Prop :=
  (∀ (s : State) (good : Bool) (a b : BitVec 24) (loc : Bool) (image : Image) (notices : List Notice),
     (good = true ∧ s.link.stored = some image ∧ notices = []) ∨
       ((good = false ∨ s.link.stored = none) ∧ image = .defaults ∧ notices = [⟨0, .configDefaulted⟩]) →
     ∃ t : State, exec (.powerOn good a b loc) s = .next t ∧ t.now = 0 ∧ t.strayTotal = 0 ∧
       (∀ i : Fin 12, image.tanks[i] = none → t.tanks[i] = .unconfigured) ∧
       (∀ (i : Fin 12) (k : SavedTank), image.tanks[i] = some k → t.tanks[i] = .fresh k.defn k.strapping .unknown) ∧
       (∀ m : Fin 24, t.meters[m] = .fresh image.meters[m] (a.getLsb m) (b.getLsb m)) ∧
       (∀ i : Fin 16, t.inputs[i] = .fresh image.inputs[i]) ∧
       t.eval = .fresh image.evaluator ∧
       (∀ k : Fin 16, (t.lines[k].defined = true ↔ ∃ d, image.lines[k] = some d) ∧
         (∀ d, image.lines[k] = some d → t.lines[k].defn = d) ∧
         (t.lines[k].metered = true ↔ ∃ (m : Fin 24) (d : MeterDef), image.meters[m] = some d ∧ d.role = .line k) ∧
         (t.lines[k].state = if t.lines[k].defined && t.lines[k].metered then .idle else .unconfigured) ∧
         t.lines[k].draw = none ∧ t.lines[k].masked = false ∧ t.lines[k].contactClosed = false ∧
         t.lines[k].asserted = false) ∧
       (∀ g : Fin 6, t.groups[g].defn = image.groups[g] ∧
         (∀ k : Fin 16, k ∈ t.groups[g].rotation ↔ ∃ d, image.lines[k] = some d ∧ d.group = g) ∧
         t.groups[g].rotation.Pairwise (· < ·)) ∧
       t.arb = .fresh image.supplyLossHold ∧ t.sets = .fresh image.setA image.setB image.setSettings ∧
       (∀ n : Fin 3, t.trains[n] = .fresh image.trains[n]) ∧ t.waters = .restricted ∧ t.startOrder = [0, 1, 2] ∧
       t.transfer = ⟨image.pump, none, 0, .idle, none⟩ ∧ t.shore = ⟨none, 0, none⟩ ∧ t.power = ⟨0, []⟩ ∧
       t.link = { lineA := .fresh, lineB := .fresh, localSample := loc, localAsserted := loc, queue := notices,
                  overflow := false, trigger := image.trigger, snapshot := none, stored := s.link.stored, writing := none,
                  lastWrite := .none } ∧
       t.due = [] ∧ t.pending = s.pending) ∧
  ((∀ good : Bool, exec (.powerOn good 0 0 false) State.reset = .next State.reset) ∧
   State.reset.link.queue = [⟨0, .configDefaulted⟩] ∧ State.reset.out.attn = true ∧
   State.reset.link.localAsserted = false ∧ State.reset.link.stored = none ∧ State.reset.pending = [])

/-- The state after reset meets every law stated here (R11, R30, R92, R96, R125, R126, R141, R142, R147, R159, R176).
-/
def Obligations.LawsHoldAtReset : Prop :=
  TankLaws State.reset ∧ ResidueLaw State.reset ∧ QueueLaw State.reset ∧ SetsLaw State.reset ∧ StartLaw State.reset ∧
  PowerLaw State.reset ∧ ArbiterLaw State.reset ∧ FillLaw State.reset

/-! ## The tick -/

/-- SECOND_TICK: what each counter, timer, sample and window does (R12, R32, R70, R82, R87, R104, R118, R125, R127,
R128, R138, R141, R144, R146, R165, R174, R176), and that nothing else changes. A timer whose expiry waits to be taken
stands at its length: `holdAt` and `Timer.tick` count up to a limit and wait there, and a proof-loss timer waits while
a loss of proof that an earlier tick brought about is still to be taken (the model's convention, log 5). -/
def Obligations.SecondTickAdvancesEveryTimer : Prop :=
  ∀ (contacts : BitVec 16) (proofs : BitVec 2) (loc : Bool) (s : State), ∃ t : State,
    exec (.secondTick contacts proofs loc) s = .next t ∧ t.now = s.now + 1 ∧
    (∀ i : Fin 12, t.tanks[i] = if s.tanks[i].state = .unconfigured then s.tanks[i]
      else { s.tanks[i] with quietTimer := min 65535 (s.tanks[i].quietTimer + 1) }) ∧
    (∀ m : Fin 24, t.meters[m] =
      { s.meters[m] with completed := (s.meters[m].openSlot :: s.meters[m].completed).take 10, openSlot := 0 }) ∧
    (∀ k : Fin 16, t.lines[k] = { s.lines[k] with
      contactClosed := contacts.getLsb k
      draw := s.lines[k].draw.map fun d =>
        if s.lines[k].state = .pending then { d with wait := min 65535 (d.wait + 1) }
        else if s.lines[k].state = .flowing then
          { d with duration := holdAt s.lines[k].defn.maxDuration d.duration, stall := holdAt s.lines[k].defn.stallTime d.stall }
        else d }) ∧
    (∀ x : Fin 2, t.sets.sets[x] = { s.sets.sets[x] with
      proofClosed := proofs.getLsb x
      startTimer := if s.sets.sets[x].state = .starting ∧ proofs.getLsb x = false then s.sets.sets[x].startTimer.tick
        else s.sets.sets[x].startTimer
      lossTimer := if s.sets.sets[x].state = .running then
          (if proofs.getLsb x = true then 0
           else if .setProofLost x ∈ s.due ∧ s.sets.settings.changeover ≤ s.sets.sets[x].lossTimer
             then s.sets.sets[x].lossTimer
           else s.sets.sets[x].lossTimer + 1)
        else s.sets.sets[x].lossTimer }) ∧
    (∀ n : Fin 3, t.trains[n] = { s.trains[n] with
      runningSeconds := if s.trains[n].state.running = true then s.trains[n].runningSeconds + 1
        else s.trains[n].runningSeconds
      runTimer := if s.trains[n].state.running = true then min 65535 (s.trains[n].runTimer + 1) else s.trains[n].runTimer
      stage := if s.trains[n].state.running = true then s.trains[n].stage.map Timer.tick else s.trains[n].stage
      stall := if s.trains[n].state = .producing then s.trains[n].stall.tick else s.trains[n].stall
      flushWait := if s.trains[n].state = .flushWait then s.trains[n].flushWait.tick else s.trains[n].flushWait
      rest := s.trains[n].rest.map Timer.tick }) ∧
    t.eval = { s.eval with reviewTimer := holdAt s.eval.settings.reviewPeriod s.eval.reviewTimer } ∧
    t.arb = { s.arb with hold := s.arb.hold.map Timer.tick, preemptedNow := [] } ∧
    t.sets = { s.sets with
      sets := t.sets.sets
      alternationTimer := s.sets.alternationTimer.map fun g => { g with count := holdAt (g.length * 3600) g.count } } ∧
    t.transfer = { s.transfer with
      stall := if s.transfer.run.isSome = true then s.transfer.stall.tick else s.transfer.stall } ∧
    t.link = { s.link with localSample := loc } ∧ t.strayTotal = s.strayTotal ∧ t.inputs = s.inputs ∧
    t.groups = s.groups ∧ t.waters = s.waters ∧ t.startOrder = s.startOrder ∧ t.shore = s.shore ∧ t.power = s.power ∧
    t.choices = s.choices ∧ t.pending = s.pending

/-- The events a tick brings about, in terms of the state before it: the debounced changes of contacts and LOCAL (R87,
R174), the ends and the ageing of draws (R108, R114), the hold (R118), the proofs of the sets (R125, R127), the
alternation (R128), the trains' timers and requests (R138, R140, R141, R144, R146, R149), the review (R70) and the
transfer stall (R165). That each waits in a list for its command is the model's convention (log 5). -/
def Obligations.SecondTickBringsAboutEvents : Prop :=
  ∀ (contacts : BitVec 16) (proofs : BitVec 2) (loc : Bool) (s : State), ∃ t : State,
    exec (.secondTick contacts proofs loc) s = .next t ∧
    (∀ k : Fin 16, .contactAssertion k ∈ t.due ↔
      contacts.getLsb k = true ∧ s.lines[k].contactClosed = true ∧ s.lines[k].asserted = false) ∧
    (∀ k : Fin 16, .contactRelease k ∈ t.due ↔
      contacts.getLsb k = false ∧ s.lines[k].contactClosed = false ∧ s.lines[k].asserted = true) ∧
    (.authorityChange ∈ t.due ↔ loc = s.link.localSample ∧ loc ≠ s.link.localAsserted) ∧
    (∀ k : Fin 16, .drawTimedOut k ∈ t.due ↔ s.lines[k].state = .flowing ∧
      ∃ d, s.lines[k].draw = some d ∧ s.lines[k].defn.maxDuration ≤ d.duration + 1) ∧
    (∀ k : Fin 16, .drawStalled k ∈ t.due ↔ s.lines[k].state = .flowing ∧
      ∃ d, s.lines[k].draw = some d ∧ d.duration + 1 < s.lines[k].defn.maxDuration ∧
        s.lines[k].defn.stallTime ≤ d.stall + 1) ∧
    (∀ k : Fin 16, .drawAges k ∈ t.due ↔ s.lines[k].state = .pending ∧
      ∃ d, s.lines[k].draw = some d ∧ d.aged = false ∧
        s.groups[s.lines[k].defn.group].defn.patience ≤ min 65535 (d.wait + 1)) ∧
    (.holdExpiry ∈ t.due ↔ ∃ g, s.arb.hold = some g ∧ g.length ≤ g.count + 1) ∧
    (∀ x : Fin 2, .setProved x ∈ t.due ↔ s.sets.sets[x].state = .starting ∧ proofs.getLsb x = true) ∧
    (∀ x : Fin 2, .setStartProofFailed x ∈ t.due ↔ s.sets.sets[x].state = .starting ∧ proofs.getLsb x = false ∧
      s.sets.sets[x].startTimer.length ≤ s.sets.sets[x].startTimer.count + 1) ∧
    (∀ x : Fin 2, .setProofLost x ∈ t.due ↔ s.sets.sets[x].state = .running ∧ proofs.getLsb x = false ∧
      s.sets.settings.changeover ≤ s.sets.sets[x].lossTimer + 1) ∧
    (.alternation ∈ t.due ↔ ∃ g, s.sets.alternationTimer = some g ∧ g.length * 3600 ≤ g.count + 1) ∧
    (∀ n : Fin 3, .prime n ∈ t.due ↔ s.trains[n].state = .priming ∧
      ∃ g, s.trains[n].stage = some g ∧ g.length ≤ g.count + 1) ∧
    (∀ n : Fin 3, .ramp n ∈ t.due ↔ s.trains[n].state = .ramping ∧
      ∃ g, s.trains[n].stage = some g ∧ g.length ≤ g.count + 1) ∧
    (∀ n : Fin 3, .divertMax n ∈ t.due ↔ s.trains[n].state = .diverting ∧
      ∃ g, s.trains[n].stage = some g ∧ g.length ≤ g.count + 1) ∧
    (∀ n : Fin 3, .productStall n ∈ t.due ↔ s.trains[n].state = .producing ∧
      s.trains[n].stall.length ≤ s.trains[n].stall.count + 1) ∧
    (∀ n : Fin 3, .minRun n ∈ t.due ↔ s.trains[n].state = .producing ∧ s.trains[n].mode = .auto ∧
      (min 65535 (s.trains[n].runTimer + 1) = s.trains[n].defn.minRun ∨ .minRun n ∈ s.due)) ∧
    (∀ n : Fin 3, .flushRequest n ∈ t.due ↔ s.trains[n].state = .flushWait ∧ s.trains[n].flushPlaced = false) ∧
    (∀ n : Fin 3, .flushWait n ∈ t.due ↔ s.trains[n].state = .flushWait ∧
      s.trains[n].flushWait.length ≤ s.trains[n].flushWait.count + 1) ∧
    (∀ n : Fin 3, .rest n ∈ t.due ↔ ∃ g, s.trains[n].rest = some g ∧ g.length ≤ g.count + 1) ∧
    (.review ∈ t.due ↔ s.eval.settings.reviewPeriod ≤ s.eval.reviewTimer + 1) ∧
    (.transferStall ∈ t.due ↔ s.transfer.run.isSome = true ∧ s.transfer.stall.length ≤ s.transfer.stall.count + 1)

/-! ## The Message Link -/

/-- The READ requests without an index reply OK with their record and change nothing but the line that asked (R102,
R134, R170, R182). The READ requests with an index reply OK with the record of that index, and BAD_INDEX above the
range; they change nothing but the line that asked (R24, R41, R58, R102, R156). The bytes of the records (spec/11,
section 11.4, R183, R185): the length of each and the places of the fields listed, least significant byte first,
counting places from 0 after the status. In READ LINK the debounced LOCAL stands at place 6 and the authority line at
place 7 (R174). That moved and filled are sent as held while nothing runs and the draw fields of a line without a draw
are all 0 is log 15's reading of R183, that a number is cut to its field is log 31's, and that the debounced LOCAL is
1 for asserted and the level of a phase 1 for high is log 40's. -/
def Obligations.ReadsReport : Prop :=
  (∀ (ln : LinkLine) (tag : Byte) (s : State), LineFree ln s →
     exec (.readStatus ln tag []) s = .next (answeredBy ln 0x01 tag (takeLine ln s, ⟨.ok, statusRecord (takeLine ln s)⟩)) ∧
     exec (.readArbiter ln tag []) s =
       .next (answeredBy ln 0x07 tag (takeLine ln s, ⟨.ok, arbiterRecord (takeLine ln s)⟩)) ∧
     exec (.readSets ln tag []) s = .next (answeredBy ln 0x09 tag (takeLine ln s, ⟨.ok, setsRecord (takeLine ln s)⟩)) ∧
     exec (.readTransfer ln tag []) s =
       .next (answeredBy ln 0x0A tag (takeLine ln s, ⟨.ok, transferRecord (takeLine ln s)⟩)) ∧
     exec (.readLink ln tag []) s = .next (answeredBy ln 0x0B tag (takeLine ln s, ⟨.ok, linkRecord (takeLine ln s)⟩))) ∧
  (∀ (ln : LinkLine) (tag : Byte) (s : State), LineFree ln s →
     (∀ t : Fin 12, exec (.readTank ln tag (enc1 t.val)) s =
       .next (answeredBy ln 0x02 tag (takeLine ln s, ⟨.ok, tankRecord t s.tanks[t]⟩))) ∧
     (∀ m : Fin 24, exec (.readMeter ln tag (enc1 m.val)) s =
       .next (answeredBy ln 0x03 tag (takeLine ln s, ⟨.ok, meterRecord (takeLine ln s) m⟩))) ∧
     (∀ i : Fin 16, exec (.readFrequencyInput ln tag (enc1 i.val)) s =
       .next (answeredBy ln 0x04 tag (takeLine ln s, ⟨.ok, inputRecord i s.inputs[i]⟩))) ∧
     (∀ k : Fin 16, exec (.readLine ln tag (enc1 k.val)) s =
       .next (answeredBy ln 0x05 tag (takeLine ln s, ⟨.ok, lineRecord (takeLine ln s) k⟩))) ∧
     (∀ g : Fin 6, exec (.readGroup ln tag (enc1 g.val)) s =
       .next (answeredBy ln 0x06 tag (takeLine ln s, ⟨.ok, groupRecord (takeLine ln s) g⟩))) ∧
     (∀ n : Fin 3, exec (.readTrain ln tag (enc1 n.val)) s =
       .next (answeredBy ln 0x08 tag (takeLine ln s, ⟨.ok, trainRecord (takeLine ln s) n⟩))) ∧
     (∀ x : Nat, x < 256 →
       (12 ≤ x → exec (.readTank ln tag (enc1 x)) s = .next (answeredBy ln 0x02 tag (takeLine ln s, ⟨.badIndex, []⟩))) ∧
       (24 ≤ x → exec (.readMeter ln tag (enc1 x)) s = .next (answeredBy ln 0x03 tag (takeLine ln s, ⟨.badIndex, []⟩))) ∧
       (16 ≤ x → exec (.readFrequencyInput ln tag (enc1 x)) s =
         .next (answeredBy ln 0x04 tag (takeLine ln s, ⟨.badIndex, []⟩))) ∧
       (16 ≤ x → exec (.readLine ln tag (enc1 x)) s = .next (answeredBy ln 0x05 tag (takeLine ln s, ⟨.badIndex, []⟩))) ∧
       (6 ≤ x → exec (.readGroup ln tag (enc1 x)) s = .next (answeredBy ln 0x06 tag (takeLine ln s, ⟨.badIndex, []⟩))) ∧
       (3 ≤ x → exec (.readTrain ln tag (enc1 x)) s = .next (answeredBy ln 0x08 tag (takeLine ln s, ⟨.badIndex, []⟩))))) ∧
  (∀ s : State,
     (∀ (t : Fin 12) (k : Tank) (r : List Byte), k.defn.tag.length = 8 → k.fillTrains.length ≤ 3 →
       k.strapping.length ≤ 12 → r = tankRecord t k →
       r.length = 110 ∧ fieldAt r 0 1 = t.val ∧ (r.drop 1).take 8 = k.defn.tag ∧ fieldAt r 10 2 = k.defn.capacity % 65536 ∧
       fieldAt r 12 2 = k.defn.lowMark % 65536 ∧ fieldAt r 14 2 = k.defn.fillStop % 65536 ∧
       fieldAt r 16 2 = k.defn.tolerance % 65536 ∧ fieldAt r 18 2 = k.defn.quietTime % 65536 ∧
       (fieldAt r 21 1 = 2 ↔ k.state = .inService) ∧ (fieldAt r 22 1 = 1 ↔ k.seeded = true) ∧
       fieldAt r 23 2 = k.seedVolume % 65536 ∧ fieldAt r 26 2 = k.volume % 65536 ∧ fieldAt r 28 4 = k.unbooked.toNat ∧
       fieldAt r 32 4 = k.credited.toNat ∧ fieldAt r 36 4 = k.debited.toNat ∧ fieldAt r 40 2 = k.quietTimer % 65536 ∧
       (k.levelVolume = none → fieldAt r 45 2 = 65535) ∧
       (∀ v, k.levelVolume = some v → fieldAt r 45 2 = v % 65536) ∧ (fieldAt r 47 1 = 2 ↔ k.agreement = .disagree) ∧
       fieldAt r 48 2 = k.trusted % 65536 ∧ fieldAt r 50 2 = k.fillMeasure % 65536 ∧ (fieldAt r 54 1 = 1 ↔ k.duty = true) ∧
       fieldAt r 55 1 = k.fillTrains.length ∧ (∀ (i : Nat) (n : Fin 3), k.fillTrains[i]? = some n →
         fieldAt r (56 + i) 1 = n.val) ∧ (fieldAt r 60 1 = 1 ↔ k.shoreTarget = true) ∧
       fieldAt r 61 1 = k.strapping.length ∧ (∀ (i : Nat) (p : StrapPoint), k.strapping[i]? = some p →
         fieldAt r (62 + 4 * i) 2 = p.head % 65536 ∧ fieldAt r (64 + 4 * i) 2 = p.volume % 65536)) ∧
     (∀ (m : Fin 24) (r : List Byte), r = meterRecord s m →
       r.length = 21 ∧ fieldAt r 0 1 = m.val ∧ (fieldAt r 1 1 = 1 ↔ s.meters[m].defined = true) ∧
       fieldAt r 3 2 = s.meters[m].defn.kFactor % 65536 ∧ fieldAt r 7 2 = s.meters[m].residue % 65536 ∧
       fieldAt r 9 4 = s.meters[m].netTotal.toNat ∧
       (-32768 ≤ s.meters[m].completed.sum * 6 → s.meters[m].completed.sum * 6 ≤ 32767 →
         (fieldAt r 13 2 : Int) = (s.meters[m].completed.sum * 6) % 65536) ∧
       (fieldAt r 15 1 = 1 ↔ s.meters[m].phaseA = true) ∧ (fieldAt r 16 1 = 1 ↔ s.meters[m].phaseB = true) ∧
       fieldAt r 17 2 = s.meters[m].phaseErrors % 65536 ∧ (fieldAt r 19 1 = 1 ↔ s.meters[m].strayNoticed = true)) ∧
     (∀ (i : Fin 16) (x : FrequencyInput) (r : List Byte), x.window.length ≤ 8 → r = inputRecord i x →
       r.length = 31 ∧ fieldAt r 0 1 = i.val ∧ (fieldAt r 1 1 = 1 ↔ x.defined = true) ∧
       (x.lastFrequency = none → fieldAt r 4 1 = 0 ∧ fieldAt r 5 2 = 0) ∧
       (∀ f, x.lastFrequency = some f → fieldAt r 4 1 = 1 ∧ fieldAt r 5 2 = f % 65536) ∧
       (fieldAt r 9 1 = 1 ↔ x.fault = .fault) ∧ fieldAt r 12 1 = x.window.length ∧
       (∀ (j v : Nat), x.window[j]? = some v → fieldAt r (13 + 2 * j) 2 = v % 65536) ∧
       (x.head = none → fieldAt r 29 2 = 65535) ∧ (∀ h, x.head = some h → fieldAt r 29 2 = h % 65536)) ∧
     (∀ (k : Fin 16) (r : List Byte), r = lineRecord s k →
       r.length = 47 ∧ fieldAt r 0 1 = k.val ∧ fieldAt r 2 1 = s.lines[k].defn.group.val ∧
       fieldAt r 3 1 = s.lines[k].defn.flow % 256 ∧ fieldAt r 6 2 = s.lines[k].defn.maxBatch % 65536 ∧
       fieldAt r 10 2 = s.lines[k].defn.stallTime % 65536 ∧ (fieldAt r 16 1 = 1 ↔ s.lines[k].asserted = true) ∧
       (fieldAt r 17 1 = 1 ↔ s.lines[k].masked = true) ∧ (fieldAt r 18 1 = 3 ↔ s.lines[k].state = .flowing) ∧
       (fieldAt r 21 1 = 1 ↔ admissible s k = true) ∧ (s.lines[k].draw = none → ∀ b ∈ r.drop 23, b = 0) ∧
       (∀ d, s.lines[k].draw = some d → fieldAt r 23 1 = 1 ∧ fieldAt r 26 2 = d.delivered % 65536 ∧
         (∀ q, d.requested = some q → fieldAt r 24 2 = q % 65536) ∧ (d.requested = none → fieldAt r 24 2 = 65535) ∧
         fieldAt r 30 2 = d.wait % 65536 ∧
         (∀ w, d.grantSequence = some w → fieldAt r 33 1 = 1 ∧ fieldAt r 34 4 = w.toNat) ∧
         fieldAt r 38 2 = d.duration % 65536 ∧ fieldAt r 40 2 = d.stall % 65536 ∧
         (∀ w, d.suspendedSince = some w → fieldAt r 42 1 = 1 ∧ fieldAt r 43 4 = w.toNat))) ∧
     (∀ (g : Fin 6) (r : List Byte), s.groups[g].rotation.length < 256 → r = groupRecord s g →
       r.length = 7 + s.groups[g].rotation.length ∧ fieldAt r 0 1 = g.val ∧
       fieldAt r 1 1 = s.groups[g].defn.admitLevel % 256 ∧ fieldAt r 2 2 = s.groups[g].defn.patience % 65536 ∧
       fieldAt r 6 1 = s.groups[g].rotation.length ∧
       (∀ (i : Nat) (k : Fin 16), s.groups[g].rotation[i]? = some k → fieldAt r (7 + i) 1 = k.val)) ∧
     (∀ (n : Fin 3) (r : List Byte), r = trainRecord s n →
       r.length = 88 ∧ fieldAt r 0 1 = n.val ∧ fieldAt r 1 1 = s.trains[n].defn.ratedPower % 256 ∧
       fieldAt r 10 2 = s.trains[n].defn.salinityLimit % 65536 ∧ fieldAt r 20 2 = s.trains[n].defn.productStall % 65536 ∧
       fieldAt r 22 1 = s.trains[n].defn.flushLine.val ∧ (fieldAt r 24 1 = 4 ↔ s.trains[n].state = .producing) ∧
       (s.trains[n].target = none → fieldAt r 29 1 = 255) ∧
       (∀ t, s.trains[n].target = some t → fieldAt r 29 1 = t.val) ∧
       (s.trains[n].reading = .fault → fieldAt r 30 2 = 65535) ∧
       (∀ v, s.trains[n].reading = .ppm v → fieldAt r 30 2 = v % 65536) ∧
       fieldAt r 44 2 = s.trains[n].runTimer % 65536 ∧ fieldAt r 46 4 = s.trains[n].startedAt.toNat ∧
       fieldAt r 60 2 = s.trains[n].flushRemaining % 65536 ∧ fieldAt r 67 4 = s.trains[n].runningSeconds.toNat ∧
       fieldAt r 71 4 = s.trains[n].produced.toNat ∧ fieldAt r 75 4 = s.trains[n].diverted.toNat ∧
       (fieldAt r 82 1 = 1 ↔ s.trains[n].state = .producing) ∧ fieldAt r 85 1 = s.eval.callCount % 256) ∧
     (∀ r : List Byte, r = setsRecord s →
       r.length = 37 ∧ (∀ x : Fin 2, fieldAt r (9 * x.val) 2 = s.sets.sets[x].defn.capacity % 65536 ∧
         fieldAt r (9 * x.val + 2) 1 = s.sets.sets[x].defn.ratedPower % 256 ∧
         (fieldAt r (9 * x.val + 3) 1 = 3 ↔ s.sets.sets[x].state = .running) ∧
         fieldAt r (9 * x.val + 5) 1 = s.sets.sets[x].startTimer.count % 256 ∧
         fieldAt r (9 * x.val + 6) 1 = s.sets.sets[x].lossTimer % 256) ∧
       fieldAt r 18 1 = s.sets.duty.val ∧ (fieldAt r 19 1 = 1 ↔ s.sets.supply = .up) ∧
       fieldAt r 20 2 = s.sets.grantCapacity % 65536 ∧ fieldAt r 22 2 = s.sets.settings.reserve % 65536 ∧
       fieldAt r 28 2 = s.arb.supplyLossHold % 65536) ∧
     (∀ r : List Byte, s.power.holders.length ≤ 4 → r = transferRecord s →
       r.length = 52 ∧ fieldAt r 0 1 = s.transfer.pump.ratedPower % 256 ∧ fieldAt r 1 2 = s.transfer.pump.stallTime % 65536 ∧
       (fieldAt r 3 1 = 1 ↔ s.transfer.run ≠ none) ∧
       (∀ w, s.transfer.run = some w → fieldAt r 5 1 = w.source.val ∧ fieldAt r 6 1 = w.dest.val ∧
         fieldAt r 7 2 = w.litres % 65536) ∧
       (fieldAt r 9 4 : Int) = s.transfer.moved % 4294967296 ∧ (fieldAt r 25 1 = 1 ↔ s.shore.run ≠ none) ∧
       (fieldAt r 29 4 : Int) = s.shore.filled % 4294967296 ∧ fieldAt r 40 2 = s.power.allowance % 65536 ∧
       fieldAt r 43 2 = effectiveAllowance s % 65536 ∧ fieldAt r 45 2 = committedLoad s % 65536 ∧
       fieldAt r 47 1 = s.power.holders.length) ∧
     (∀ r : List Byte, r = arbiterRecord s → s.arb.pendingList.length < 256 → s.arb.inService.length < 256 →
       r.length = 19 + s.arb.pendingList.length + 2 * s.arb.inService.length ∧
       (fieldAt r 0 1 = 1 ↔ s.arb.mode = .manual) ∧ fieldAt r 1 1 = s.arb.levelHeld % 256 ∧
       (fieldAt r 2 1 = 1 ↔ s.arb.supplyHeld = .up) ∧ fieldAt r 3 2 = s.arb.capacityHeld % 65536 ∧
       fieldAt r 5 2 = flowingFlow s % 65536 ∧ fieldAt r 17 1 = s.arb.pendingList.length ∧
       (∀ (i : Nat) (k : Fin 16), s.arb.pendingList[i]? = some k → fieldAt r (18 + i) 1 = k.val) ∧
       fieldAt r (18 + s.arb.pendingList.length) 1 = s.arb.inService.length) ∧
     (∀ r : List Byte, r = statusRecord s → s.eval.settings.supplyBands.length = 7 →
       s.eval.settings.productionBands.length = 3 →
       r.length = 100 ∧ fieldAt r 0 2 = 740 ∧ fieldAt r 2 1 = 1 ∧ fieldAt r 3 4 = s.now.toNat ∧
       fieldAt r 7 4 = s.eval.reserve % 4294967296 ∧ fieldAt r 11 4 = s.eval.capacity % 4294967296 ∧
       (s.eval.ratio = none → fieldAt r 15 2 = 65535) ∧ fieldAt r 19 1 = s.eval.level % 256 ∧
       fieldAt r 20 1 = s.eval.callCount % 256 ∧ (fieldAt r 21 4 : Int) = s.eval.imbalance % 4294967296 ∧
       (s.eval.dutyTank = none → fieldAt r 27 1 = 255) ∧ (∀ t, s.eval.dutyTank = some t → fieldAt r 27 1 = t.val) ∧
       (∀ (i b : Nat), s.eval.settings.supplyBands[i]? = some b → fieldAt r (34 + 2 * i) 2 = b % 65536) ∧
       (∀ t : Fin 12, fieldAt r (60 + t.val) 1 = 2 ↔ s.tanks[t].state = .inService) ∧
       (fieldAt r 72 1 = 1 ↔ s.sets.supply = .up) ∧ fieldAt r 82 2 = s.power.allowance % 65536 ∧
       fieldAt r 90 4 = s.strayTotal.toNat ∧ fieldAt r 94 1 = s.link.queue.length % 256 ∧
       (fieldAt r 95 1 = 1 ↔ s.link.overflow = true) ∧ (fieldAt r 99 1 = 1 ↔ s.link.writing ≠ none)) ∧
     (∀ r : List Byte, r = linkRecord s →
       r.length = 19 ∧ fieldAt r 0 2 = s.link.lineA.discards % 65536 ∧ fieldAt r 3 2 = s.link.lineB.discards % 65536 ∧
       (fieldAt r 6 1 = 1 ↔ s.link.localAsserted = true) ∧ (fieldAt r 7 1 = 1 ↔ authority s = .b) ∧
       (authority s = .b ↔ s.link.localAsserted = true) ∧ fieldAt r 8 1 = s.link.trigger % 256 ∧
       fieldAt r 9 1 = s.link.queue.length % 256) ∧
     (∀ image : Snapshot, (snapshotTanks image).length = 76 ∧ (snapshotMeters image).length = 104 ∧
       fieldAt (snapshotTanks image) 0 4 = image.time.toNat ∧ fieldAt (snapshotMeters image) 0 4 = image.time.toNat ∧
       (∀ t : Fin 12, fieldAt (snapshotTanks image) (4 + 6 * t.val) 2 = image.tanks[t].volume % 65536 ∧
         fieldAt (snapshotTanks image) (8 + 6 * t.val) 2 = image.tanks[t].trusted % 65536) ∧
       (∀ m : Fin 24, fieldAt (snapshotMeters image) (4 + 4 * m.val) 4 = image.netTotals[m].toNat) ∧
       fieldAt (snapshotMeters image) 100 4 = image.strayTotal.toNat) ∧
     (∀ n : Notice, n.bytes.length = 11 ∧ fieldAt n.bytes 0 4 = n.time.toNat))

/-- FETCH NOTICES (R178): a maximum of 0 or above 8 is refused BAD_VALUE; otherwise the oldest notices, up to the
maximum, are removed and reported oldest first with the overflow flag as it stood and the number left, the flag is
cleared, and the status is NONE when the queue was empty. -/
def Obligations.FetchNoticesRemovesTheOldest : Prop :=
  ∀ (ln : LinkLine) (tag : Byte) (s : State) (maximum : Nat), LineFree ln s → maximum < 256 →
    (maximum = 0 ∨ 8 < maximum → exec (.fetchNotices ln tag (enc1 maximum)) s =
      .next (answeredBy ln 0x0C tag (takeLine ln s, ⟨.badValue, []⟩))) ∧
    (1 ≤ maximum → maximum ≤ 8 → exec (.fetchNotices ln tag (enc1 maximum)) s =
      .next (answeredBy ln 0x0C tag
        ((takeLine ln s).modLink fun l => { l with queue := s.link.queue.drop maximum, overflow := false },
          ⟨if s.link.queue = [] then .none else .ok,
            encFlag s.link.overflow ++ enc1 (min maximum s.link.queue.length) ++ enc1 (s.link.queue.length - maximum) ++
              (s.link.queue.take maximum).flatMap Notice.bytes⟩)))

/-- The three snapshot requests, on either line, and no image latched at power-on (R179). That the page is checked
before the image is read from the order in which R179 names the two refusals (log 39). -/
def Obligations.SnapshotIsLatchedReadAndReleased : Prop :=
  (∀ (ln : LinkLine) (tag : Byte) (s : State), LineFree ln s →
     (s.link.snapshot = none →
       (∃ image : Snapshot, image.time = s.now ∧ image.strayTotal = s.strayTotal ∧
         (∀ i : Fin 12, image.tanks[i] = ⟨s.tanks[i].volume, s.tanks[i].levelVolume, s.tanks[i].trusted⟩) ∧
         (∀ m : Fin 24, image.netTotals[m] = s.meters[m].netTotal) ∧
         exec (.takeSnapshot ln tag []) s = .next (answeredBy ln 0x0D tag
           ((takeLine ln s).modLink fun l => { l with snapshot := some image }, ⟨.ok, enc1 0 ++ encWord s.now⟩))) ∧
       (∀ page : Nat, page ≤ 1 → exec (.readSnapshot ln tag (enc1 page)) s =
         .next (answeredBy ln 0x0E tag (takeLine ln s, ⟨.wrongState, []⟩))) ∧
       exec (.releaseSnapshot ln tag []) s = .next (answeredBy ln 0x0F tag (takeLine ln s, ⟨.none, []⟩))) ∧
     (∀ image : Snapshot, s.link.snapshot = some image →
       exec (.takeSnapshot ln tag []) s =
         .next (answeredBy ln 0x0D tag (takeLine ln s, ⟨.ok, enc1 1 ++ encWord image.time⟩)) ∧
       exec (.readSnapshot ln tag (enc1 0)) s =
         .next (answeredBy ln 0x0E tag (takeLine ln s, ⟨.ok, snapshotTanks image⟩)) ∧
       exec (.readSnapshot ln tag (enc1 1)) s = .next (answeredBy ln 0x0E tag
         ((takeLine ln s).modLink fun l => { l with snapshot := none }, ⟨.ok, snapshotMeters image⟩)) ∧
       exec (.releaseSnapshot ln tag []) s = .next (answeredBy ln 0x0F tag
         ((takeLine ln s).modLink fun l => { l with snapshot := none }, ⟨.ok, []⟩))) ∧
     (∀ page : Nat, 2 ≤ page → page < 256 → exec (.readSnapshot ln tag (enc1 page)) s =
       .next (answeredBy ln 0x0E tag (takeLine ln s, ⟨.badValue, []⟩)))) ∧
  (∀ (good : Bool) (a b : BitVec 24) (loc : Bool) (s : State), ∃ t : State,
     exec (.powerOn good a b loc) s = .next t ∧ t.link.snapshot = none)

/-- The Link's checks of a request on a free line, the first that fails giving the reply and nothing else changing:
the kind, the body length, authority for all but queries, and no store write in flight for a configuration kind
(R174). -/
def Obligations.LinkChecksComeFirst : Prop :=
  ∀ (c : Instr) (r : RequestFrame) (s : State), requestOf c = some r → LineFree r.line s →
    (r.kind.toNat ∉ requestKinds →
      exec c s = .next (answeredBy r.line r.kind r.tag (takeLine r.line s, ⟨.unknownKind, []⟩))) ∧
    (r.kind.toNat ∈ requestKinds → ¬ lengthRequired r.kind.toNat r.body →
      exec c s = .next (answeredBy r.line r.kind r.tag (takeLine r.line s, ⟨.badLength, []⟩))) ∧
    (r.kind.toNat ∈ requestKinds → lengthRequired r.kind.toNat r.body → 0x20 ≤ r.kind.toNat → r.line ≠ authority s →
      exec c s = .next (answeredBy r.line r.kind r.tag (takeLine r.line s, ⟨.notInControl, []⟩))) ∧
    (r.kind.toNat ∈ requestKinds → lengthRequired r.kind.toNat r.body → 0x20 ≤ r.kind.toNat → r.kind.toNat ≤ 0x2F →
      r.line = authority s → s.link.writing.isSome = true →
      exec c s = .next (answeredBy r.line r.kind r.tag (takeLine r.line s, ⟨.busy, []⟩)))

/-- A request that is refused, by the Link or by its owner, changes nothing and its reply carries the status alone;
NONE is no refusal (R175). A request whose index, enumeration code or value lies outside the ranges its owner gives,
and a definition that is not in order, is refused with the status its owner names, BAD_INDEX, BAD_VALUE,
NOT_CONFIGURED or BUSY, the first failing check first, and changes nothing but the line that asked (R5, R17, R22, R23,
R39, R46, R50, R73, R75, R76, R84, R85, R89, R94, R95, R100, R109, R111, R112, R131 to R133, R150 to R155, R164,
R168). That a bad index is named before a bad state, mode or setting is read from the order in which R17, R131 and
R151 name their refusals (log 39). -/
def Obligations.RefusedRequestChangesNothing : Prop :=
  (∀ own ∈ requestOwners, ∀ (ln : LinkLine) (body : List Byte) (s s' : State) (r : Reply),
     handleRequest own ln body s = (s', r) → r.status ≠ .ok → r.status ≠ .okAdjusted → r.status ≠ .none →
     s' = s ∧ r.fields = []) ∧
  ((∀ (ln : LinkLine) (tag : Byte) (x y litres : Nat) (s : State) (refusedAs : Status → Byte → Instr → Prop),
     (∀ st kind c, refusedAs st kind c ↔ exec c s = .next (answeredBy ln kind tag (takeLine ln s, ⟨st, []⟩))) →
     InControl ln s → x < 256 →
     (12 ≤ x → refusedAs .badIndex 0x40 (.seedTank ln tag (enc1 x ++ enc4 litres)) ∧
       refusedAs .badIndex 0x41 (.reseedTank ln tag (enc1 x)) ∧
       refusedAs .badIndex 0x42 (.tankService ln tag (enc1 x ++ enc1 y)) ∧
       refusedAs .badIndex 0x5A (.startTransfer ln tag (enc1 x ++ enc1 y ++ enc2 litres)) ∧
       refusedAs .badIndex 0x5A (.startTransfer ln tag (enc1 y ++ enc1 x ++ enc2 litres)) ∧
       refusedAs .badIndex 0x5C (.startShoreFill ln tag (enc1 x ++ enc2 litres))) ∧
     (16 ≤ x → refusedAs .badIndex 0x48 (.draw ln tag (enc1 x ++ enc2 litres)) ∧
       refusedAs .badIndex 0x49 (.cancelDraw ln tag (enc1 x)) ∧
       (x ≠ 255 → refusedAs .badIndex 0x4A (.endDraw ln tag (enc1 x))) ∧
       refusedAs .badIndex 0x4C (.setRotation ln tag (enc1 x)) ∧ refusedAs .badIndex 0x4F (.resetLine ln tag (enc1 x))) ∧
     (3 ≤ x → refusedAs .badIndex 0x50 (.trainMode ln tag (enc1 x ++ enc1 y)) ∧
       refusedAs .badIndex 0x51 (.startTrain ln tag (enc1 x)) ∧ refusedAs .badIndex 0x52 (.stopTrain ln tag (enc1 x)) ∧
       refusedAs .badIndex 0x53 (.flushTrain ln tag (enc1 x)) ∧ refusedAs .badIndex 0x54 (.resetTrain ln tag (enc1 x)) ∧
       ∀ n : Fin 3, refusedAs .badValue 0x50 (.trainMode ln tag (enc1 n.val ++ enc1 x))) ∧
     (2 ≤ x → refusedAs .badIndex 0x60 (.pressureSetService ln tag (enc1 x ++ enc1 y)) ∧
       refusedAs .badIndex 0x61 (.resetPressureSet ln tag (enc1 x)) ∧
       (∀ n : Fin 2, refusedAs .badValue 0x60 (.pressureSetService ln tag (enc1 n.val ++ enc1 x))) ∧
       refusedAs .badValue 0x4B (.maskLines ln tag (enc2 litres ++ enc1 x)) ∧
       refusedAs .badValue 0x4D (.arbiterMode ln tag (enc1 x)) ∧ refusedAs .badValue 0x55 (.setWaters ln tag (enc1 x))) ∧
     (∀ t : Fin 12, x < 2 ∨ 4 < x → refusedAs .badValue 0x42 (.tankService ln tag (enc1 t.val ++ enc1 x)))) ∧
   (∀ (ln : LinkLine) (tag : Byte) (s : State) (refusedAs : Status → Byte → Instr → Prop),
     (∀ st kind c, refusedAs st kind c ↔ exec c s = .next (answeredBy ln kind tag (takeLine ln s, ⟨st, []⟩))) →
     MayDefine ln s →
     (∀ (x : Nat) (rest : List Byte), x < 256 →
       (12 ≤ x → rest.length = 20 → refusedAs .badIndex 0x20 (.defineTank ln tag (enc1 x ++ rest))) ∧
       (12 ≤ x → ∀ count : Nat, count < 256 → rest.length = 4 * count →
         refusedAs .badIndex 0x21 (.loadStrapping ln tag (enc1 x ++ enc1 count ++ rest))) ∧
       (24 ≤ x → rest.length = 5 → refusedAs .badIndex 0x22 (.defineMeter ln tag (enc1 x ++ rest))) ∧
       (16 ≤ x → rest.length = 2 → refusedAs .badIndex 0x23 (.defineFrequencyInput ln tag (enc1 x ++ rest))) ∧
       (6 ≤ x → rest.length = 3 → refusedAs .badIndex 0x25 (.defineGroup ln tag (enc1 x ++ rest))) ∧
       (3 ≤ x → rest.length = 22 → refusedAs .badIndex 0x29 (.defineTrain ln tag (enc1 x ++ rest)))) ∧
     (∀ (t : Fin 12) (d : TankDef), d.tag.length = 8 → 0 < d.capacity → d.capacity < 65536 → d.lowMark < 65536 →
       d.fillStop < 65536 → d.tolerance < 65536 → d.quietTime < 65536 →
       ∀ (sound busy : Prop),
       (sound ↔ (∀ b ∈ d.tag, 0x20 ≤ b.toNat ∧ b.toNat ≤ 0x7E) ∧ 500 ≤ d.capacity ∧ d.capacity ≤ 60000 ∧
         d.lowMark < d.fillStop ∧ d.fillStop ≤ d.capacity ∧ 20 ≤ d.tolerance ∧ d.tolerance ≤ 5000 ∧
         ∀ p, s.tanks[t].strapping.getLast? = some p → p.volume ≤ d.capacity) →
       (busy ↔ s.tanks[t].duty = true ∨ s.tanks[t].fillTrains ≠ [] ∨ s.tanks[t].transferRole ≠ .none ∨
         s.tanks[t].shoreTarget = true) →
       (¬ sound → refusedAs .badValue 0x20 (.defineTank ln tag (tankBody t d))) ∧
       (sound → busy → refusedAs .busy 0x20 (.defineTank ln tag (tankBody t d)))) ∧
     (∀ (t : Fin 12) (points : List StrapPoint), points.length < 256 →
       (∀ p ∈ points, p.head < 65536 ∧ p.volume < 65536) →
       (s.tanks[t].state = .unconfigured →
         refusedAs .notConfigured 0x21 (.loadStrapping ln tag (strappingBody t points))) ∧
       (s.tanks[t].state ≠ .unconfigured →
         points.length = 1 ∨ 12 < points.length ∨ (∃ p ∈ points, 4000 < p.head) ∨
           ¬ points.Pairwise (fun p q => p.head < q.head ∧ p.volume ≤ q.volume) ∨
           (∃ p ∈ points, s.tanks[t].defn.capacity < p.volume) →
         refusedAs .badValue 0x21 (.loadStrapping ln tag (strappingBody t points)))) ∧
     (∀ (m : Fin 24) (d : MeterDef), d.kFactor < 65536 →
       (1000 < d.kFactor → refusedAs .badValue 0x22 (.defineMeter ln tag (meterBody m d))) ∧
       (1 ≤ d.kFactor → d.kFactor ≤ 1000 → ∀ (taken : Prop),
         (taken ↔ d.role ≠ .none ∧ ∃ j : Fin 24, j ≠ m ∧ s.meters[j].defined = true ∧ s.meters[j].defn.role = d.role) →
         (taken → refusedAs .badValue 0x22 (.defineMeter ln tag (meterBody m d))) ∧
         (¬ taken → roleBusy s.meters[m].defn.role s = true ∨ roleBusy d.role s = true →
           refusedAs .busy 0x22 (.defineMeter ln tag (meterBody m d)))) ∧
       (d.kFactor = 0 → roleBusy s.meters[m].defn.role s = true →
         refusedAs .busy 0x22 (.defineMeter ln tag (meterBody m d)))) ∧
     (∀ (i j : Fin 16) (r : InputRole), r ≠ .none → j ≠ i → s.inputs[j].defined = true → s.inputs[j].role = r →
       refusedAs .badValue 0x23 (.defineFrequencyInput ln tag (inputBody i (some r)))) ∧
     (∀ (bands : List Nat) (h : Nat), (∀ x ∈ bands, x < 65536) → h < 256 →
       (bands.length = 7 → (∃ x ∈ bands, 1000 < x) ∨ 100 < h ∨ ¬ bands.Pairwise (fun a b => b ≤ a) →
         refusedAs .badValue 0x26 (.setSupplyBands ln tag (bands.flatMap enc2 ++ enc1 h))) ∧
       (bands.length = 3 → (∃ x ∈ bands, 1000 < x) ∨ 200 < h ∨ ¬ bands.Pairwise (fun a b => b ≤ a) →
         refusedAs .badValue 0x27 (.setProductionBands ln tag (bands.flatMap enc2 ++ enc1 h)))) ∧
     (∀ band limit period : Nat, band < 65536 → limit < 65536 →
       20000 < band ∨ (1 ≤ limit ∧ limit < 501) ∨ 30000 < limit ∨ (limit ≠ 0 ∧ limit ≤ band) →
       refusedAs .badValue 0x28 (.setBalance ln tag (enc2 band ++ enc2 limit ++ enc2 period))) ∧
     (∀ (n : Fin 3) (d : TrainDef), d.ratedPower < 256 → d.salinityLimit < 65536 → d.flushVolume < 65536 →
       80 < d.ratedPower ∨ d.salinityLimit < 50 ∨ 2000 < d.salinityLimit ∨ d.flushVolume < 20 ∨ 1000 < d.flushVolume →
       refusedAs .badValue 0x29 (.defineTrain ln tag (trainBody n d))) ∧
     (∀ (a b : SetDef) (r : SetSettings) (hold : Nat), a.capacity < 65536 → b.capacity < 65536 → r.reserve < 65536 →
       a.ratedPower < 256 → b.ratedPower < 256 →
       600 < a.capacity ∨ 600 < b.capacity ∨ 250 < a.ratedPower ∨ 250 < b.ratedPower ∨ 600 < r.reserve →
       refusedAs .badValue 0x2A (.defineSets ln tag (setsBody a b r hold))) ∧
     (∀ (ks : List (Fin 16)) (d : LineDef), ks.length < 256 → d.flow < 256 → d.defaultBatch < 65536 →
       d.maxBatch < 65536 →
       (ks = [] → refusedAs .badValue 0x24 (.defineLines ln tag (linesBody ks d))) ∧
       (ks ≠ [] → 200 < d.flow → refusedAs .badValue 0x24 (.defineLines ln tag (linesBody ks d))) ∧
       (ks ≠ [] → 1 ≤ d.flow → d.flow ≤ 200 → ∀ (sound : Prop),
         (sound ↔ 1 ≤ d.defaultBatch ∧ d.defaultBatch ≤ d.maxBatch ∧ d.maxBatch ≤ 20000 ∧
           ∀ n, d.source = .flush n → (∃ k, ∀ j ∈ ks, j = k) ∧
             ∀ j : Fin 16, j ∉ ks → s.lines[j].defined = true → s.lines[j].defn.source ≠ .flush n) →
         (¬ sound → refusedAs .badValue 0x24 (.defineLines ln tag (linesBody ks d))) ∧
         (sound → (∃ k ∈ ks, s.lines[k].state.holdsDraw = true) →
           refusedAs .busy 0x24 (.defineLines ln tag (linesBody ks d))))) ∧
     (∀ (listed rest : List Byte) (group flow kind train : Nat) (middle : List Byte), listed ≠ [] → listed.length < 256 →
       (rest.length = 12 → (∃ b ∈ listed, 16 ≤ b.toNat) →
         refusedAs .badIndex 0x24 (.defineLines ln tag (enc1 listed.length ++ listed ++ rest))) ∧
       ((∀ b ∈ listed, b.toNat < 16) → 1 ≤ flow → flow ≤ 200 → middle.length = 8 → group < 256 → kind < 256 →
         train < 256 → rest = enc1 group ++ enc1 flow ++ middle ++ enc1 kind ++ enc1 train →
         (6 ≤ group → refusedAs .badIndex 0x24 (.defineLines ln tag (enc1 listed.length ++ listed ++ rest))) ∧
         (group < 6 → 3 ≤ kind → refusedAs .badValue 0x24 (.defineLines ln tag (enc1 listed.length ++ listed ++ rest))) ∧
         (group < 6 → kind = 2 → 3 ≤ train →
           refusedAs .badIndex 0x24 (.defineLines ln tag (enc1 listed.length ++ listed ++ rest))))) ∧
     (∀ (t : Fin 12) (label marks : List Byte) (side capacity start : Nat), label.length = 8 → marks.length = 8 → side < 256 →
       start < 256 → capacity < 65536 →
       (0 < capacity → 3 ≤ side ∨ start < 2 ∨ 4 < start → refusedAs .badValue 0x20 (.defineTank ln tag
         (enc1 t.val ++ label ++ enc1 side ++ enc2 capacity ++ marks ++ enc1 start))) ∧
       (s.tanks[t].duty = true ∨ s.tanks[t].fillTrains ≠ [] ∨ s.tanks[t].transferRole ≠ .none ∨
           s.tanks[t].shoreTarget = true →
         refusedAs .busy 0x20 (.defineTank ln tag (enc1 t.val ++ label ++ enc1 side ++ enc2 0 ++ marks ++ enc1 start)) ∧
         ∀ points : List StrapPoint, points.length ≠ 1 → points.length ≤ 12 → s.tanks[t].state ≠ .unconfigured →
           (∀ p ∈ points, p.head ≤ 4000 ∧ p.volume ≤ s.tanks[t].defn.capacity ∧ p.volume < 65536) →
           points.Pairwise (fun p q => p.head < q.head ∧ p.volume ≤ q.volume) →
           refusedAs .busy 0x21 (.loadStrapping ln tag (strappingBody t points)))) ∧
     (∀ (m : Fin 24) (k mode kind index : Nat), 1 ≤ k → k ≤ 1000 → mode < 256 → kind < 256 → index < 256 →
       ∀ body, body = enc1 m.val ++ enc1 mode ++ enc2 k ++ enc1 kind ++ enc1 index →
       (3 ≤ mode ∨ 6 ≤ kind → refusedAs .badValue 0x22 (.defineMeter ln tag body)) ∧
       (mode < 3 → kind = 2 ∧ 3 ≤ index ∨ kind = 5 ∧ 16 ≤ index → refusedAs .badIndex 0x22 (.defineMeter ln tag body))) ∧
     (∀ (i : Fin 16) (kind target : Nat), kind < 256 → target < 256 →
       ∀ body, body = enc1 i.val ++ enc1 kind ++ enc1 target →
       (4 ≤ kind → refusedAs .badValue 0x23 (.defineFrequencyInput ln tag body)) ∧
       (kind = 2 ∧ 12 ≤ target ∨ kind = 3 ∧ 3 ≤ target → refusedAs .badIndex 0x23 (.defineFrequencyInput ln tag body))) ∧
     (∀ (n : Fin 3) (d : TrainDef) (x : Nat), d.ratedPower ≤ 80 → 50 ≤ d.salinityLimit → d.salinityLimit ≤ 2000 →
       20 ≤ d.flushVolume → d.flushVolume ≤ 1000 → 16 ≤ x → x < 256 →
       refusedAs .badIndex 0x29 (.defineTrain ln tag
         (enc1 n.val ++ enc1 d.ratedPower ++ (trainTimes d).flatMap enc2 ++ enc1 x)))))

/-- The receiver takes each byte by its table; a gap and a bad stop bit discard the frame outside HUNT and only there;
each discard is counted up to 65,535 (R172). That FRAME_DISCARD counts and hunts in every receiver state, HUNT
included, and that a gap in HUNT changes nothing, are the model's choices (log 9). A good frame that completes while
its line is busy is discarded and counted, and nothing else changes (R172, R173). -/
def Obligations.ReceiverFollowsItsTable : Prop :=
  (∀ (ln : LinkLine) (s : State),
     (exec (.frameDiscard ln) s = .next (finish (s.modSerial ln fun l =>
       { l with receiver := .hunt, discards := min 65535 (l.discards + 1) }))) ∧
     ((s.link.serial ln).receiver = .hunt →
       exec (.receiverGapTimeout ln) s = .next (finish s) ∧
       ∀ b : Byte, exec (.byteReceived ln b false) s = .next (finish s) ∧
         (b = 0xE7 → exec (.byteReceived ln b true) s =
           .next (finish (s.modSerial ln fun l => { l with receiver := .length }))) ∧
         (b ≠ 0xE7 → exec (.byteReceived ln b true) s = .next (finish s))) ∧
     ((s.link.serial ln).receiver ≠ .hunt →
       exec (.receiverGapTimeout ln) s = .next (finish (s.modSerial ln fun l =>
         { l with receiver := .hunt, discards := min 65535 (l.discards + 1) })) ∧
       ∀ b : Byte, exec (.byteReceived ln b false) s = .next (finish (s.modSerial ln fun l =>
         { l with receiver := .hunt, discards := min 65535 (l.discards + 1) }))) ∧
     ((s.link.serial ln).receiver = .length → ∀ b : Byte,
       (2 ≤ b.toNat → b.toNat ≤ 200 → exec (.byteReceived ln b true) s =
         .next (finish (s.modSerial ln fun l => { l with receiver := .body b.toNat [] }))) ∧
       (b.toNat < 2 ∨ 200 < b.toNat → exec (.byteReceived ln b true) s = .next (finish (s.modSerial ln fun l =>
         { l with receiver := .hunt, discards := min 65535 (l.discards + 1) })))) ∧
     (∀ (n : Nat) (kept : List Byte) (b : Byte), (s.link.serial ln).receiver = .body n kept →
       (kept.length + 1 < n → exec (.byteReceived ln b true) s =
         .next (finish (s.modSerial ln fun l => { l with receiver := .body n (kept ++ [b]) }))) ∧
       (kept.length + 1 = n → exec (.byteReceived ln b true) s =
         .next (finish (s.modSerial ln fun l => { l with receiver := .check n (kept ++ [b]) })))) ∧
     (∀ (n : Nat) (kept : List Byte) (b : Byte), (s.link.serial ln).receiver = .check n kept →
       (n + (kept.map BitVec.toNat).sum + b.toNat) % 256 ≠ 0 →
       exec (.byteReceived ln b true) s = .next (finish (s.modSerial ln fun l =>
         { l with receiver := .hunt, discards := min 65535 (l.discards + 1) })))) ∧
  (∀ (ln : LinkLine) (s : State), (s.link.serial ln).busy = true →
     (∀ (c : Instr) (r : RequestFrame), requestOf c = some r → r.line = ln →
       exec c s = .next (finish (s.modSerial ln fun l =>
         { l with receiver := .hunt, discards := min 65535 (l.discards + 1) }))) ∧
     exec (.frameWhileBusy ln) s = .next (finish (s.modSerial ln fun l =>
       { l with receiver := .hunt, discards := min 65535 (l.discards + 1) })))

/-- A frame sent byte by byte with good stop bits to a hunting receiver (start byte, length, kind, tag, body, check
byte) has exactly the effect of its request row: the row whose kind it carries, or UNKNOWN_KIND_REQUEST (R172, R173,
spec/10 section 10.1). The state is one that a command left (`finish s = s`). -/
def Obligations.BytesMakeTheRequest : Prop :=
  ∀ (c : Instr) (r : RequestFrame) (s : State), requestOf c = some r → r.body.length ≤ 198 →
    finish s = s → (s.link.serial r.line).receiver = .hunt →
    (([0xE7, BitVec.ofNat 8 (2 + r.body.length), r.kind, r.tag] ++ r.body ++
        [-(BitVec.ofNat 8 (2 + r.body.length) + r.kind + r.tag + r.body.sum)]).foldl
      (fun (o : Host.Outcome State Fault Refusal) b =>
        match o with
        | .next t => exec (.byteReceived r.line b true) t
        | .fault f => .fault f
        | .refused f => .refused f) (.next s)) = exec c s

/-- REPLY_SENT frees the line; STORE_WRITE_COMPLETE ends the write in flight, with SAVE_DONE and the new image stored
when the read-back check holds and SAVE_FAILED and the old image kept when it fails; AUTHORITY_CHANGE moves the
debounced LOCAL (R173, R174, R180). SAVE CONFIGURATION starts a store write of the definitions held, and SET NOTICE
TRIGGER writes the trigger, 0 and above 32 being refused BAD_VALUE (R177, R180). -/
def Obligations.StoreTriggerAndLineEvents : Prop :=
  ((∀ (ln : LinkLine) (s : State), exec (.replySent ln) s =
     .next (finish (s.modSerial ln fun l => { l with busy := false, reply := [] }))) ∧
   (∀ (s : State) (image : Image), s.link.writing = some image →
     exec (.storeWriteComplete true) s = .next (finish (post .saveDone (s.modLink fun l =>
       { l with writing := none, stored := some image, lastWrite := .done }))) ∧
     exec (.storeWriteComplete false) s = .next (finish (post .saveFailed (s.modLink fun l =>
       { l with writing := none, lastWrite := .failed })))) ∧
   (∀ s : State, .authorityChange ∈ s.due → s.link.localSample ≠ s.link.localAsserted →
     exec .authorityChange s = .next (finish ((took .authorityChange s).modLink fun l =>
       { l with localAsserted := l.localSample })))) ∧
  (∀ (ln : LinkLine) (tag : Byte) (s : State), MayDefine ln s →
     (∃ image : Image,
       (∀ i : Fin 12, image.tanks[i] =
         if s.tanks[i].state = .unconfigured then none else some ⟨s.tanks[i].defn, s.tanks[i].strapping⟩) ∧
       (∀ m : Fin 24, image.meters[m] = if s.meters[m].defined = true then some s.meters[m].defn else none) ∧
       (∀ i : Fin 16, image.inputs[i] = if s.inputs[i].defined = true then some s.inputs[i].role else none) ∧
       (∀ k : Fin 16, image.lines[k] = if s.lines[k].defined = true then some s.lines[k].defn else none) ∧
       (∀ g : Fin 6, image.groups[g] = s.groups[g].defn) ∧ (∀ n : Fin 3, image.trains[n] = s.trains[n].defn) ∧
       image.evaluator = s.eval.settings ∧ image.setA = s.sets.sets[(0 : Fin 2)].defn ∧
       image.setB = s.sets.sets[(1 : Fin 2)].defn ∧ image.setSettings = s.sets.settings ∧
       image.supplyLossHold = s.arb.supplyLossHold ∧ image.pump = s.transfer.pump ∧ image.trigger = s.link.trigger ∧
       exec (.saveConfiguration ln tag []) s = .next (answeredBy ln 0x2F tag
         ((takeLine ln s).modLink fun l => { l with writing := some image }, ⟨.ok, []⟩))) ∧
     (∀ n : Nat, n < 256 →
       (1 ≤ n → n ≤ 32 → exec (.setNoticeTrigger ln tag (enc1 n)) s = .next (answeredBy ln 0x2C tag
         ((takeLine ln s).modLink fun l => { l with trigger := n }, ⟨.ok, []⟩))) ∧
       (n = 0 ∨ 32 < n → exec (.setNoticeTrigger ln tag (enc1 n)) s =
         .next (answeredBy ln 0x2C tag (takeLine ln s, ⟨.badValue, []⟩)))))

/-- A posted notice joins the end of the queue with the present time; posted to a queue of 32 it is discarded and the
overflow flag is set; nothing else changes (R176). The notice queue holds at most 32 notices: every command keeps it
so (R176). -/
def Obligations.QueueLawIsKept : Prop :=
  (∀ s t : State, QueueLaw s → step s = .next t → QueueLaw t) ∧
  (∀ (n : NoticeBody) (s : State),
     (s.link.queue.length < 32 → post n s = s.modLink fun l => { l with queue := l.queue ++ [⟨s.now, n⟩] }) ∧
     (32 ≤ s.link.queue.length → post n s = s.modLink fun l => { l with overflow := true }))

/-! ## The Tank Inventory -/

/-- A credit and a debit of one litre: V within its range, U past it, C or D, and the quiet timer at 0 (R9, R10); U is
cleared by a seed and by a definition that unseeds or removes. -/
def Obligations.BookingsOfOneLitre : Prop :=
  (∀ k : Tank, k.volume < k.defn.capacity →
    k.credit = { k with volume := k.volume + 1, credited := k.credited + 1, quietTimer := 0 }) ∧
  (∀ k : Tank, k.volume = k.defn.capacity →
    k.credit = { k with unbooked := k.unbooked + 1, credited := k.credited + 1, quietTimer := 0 }) ∧
  (∀ k : Tank, 0 < k.volume →
    k.debit = { k with volume := k.volume - 1, debited := k.debited + 1, quietTimer := 0 }) ∧
  (∀ k : Tank, k.volume = 0 →
    k.debit = { k with unbooked := k.unbooked - 1, debited := k.debited + 1, quietTimer := 0 }) ∧
  (∀ (k : Tank) (amount : Nat) (o : SeedOrigin), (k.seed amount o).unbooked = 0) ∧
  (∀ k : Tank, k.unseed.unbooked = 0) ∧ Tank.unconfigured.unbooked = 0

/-- SEED TANK and RESEED TANK seed a defined tank: the accounts, the origin, the agreement, the quiet timer, the start
state of an UNKNOWN tank and the TANK_STATE notice of R20, then the tank change; the amount is clamped to the
capacity, and the refusals are those of R22 and R23. -/
def Obligations.SeedRequestsSeedTheTank : Prop :=
  ∀ (ln : LinkLine) (tag : Byte) (t : Fin 12) (s : State), InControl ln s →
    (s.tanks[t].state = .unconfigured →
      (∀ amount : Nat, exec (.seedTank ln tag (enc1 t.val ++ enc4 amount)) s =
        .next (answeredBy ln 0x40 tag (takeLine ln s, ⟨.notConfigured, []⟩))) ∧
      exec (.reseedTank ln tag (enc1 t.val)) s =
        .next (answeredBy ln 0x41 tag (takeLine ln s, ⟨.notConfigured, []⟩))) ∧
    (s.tanks[t].state ≠ .unconfigured → s.tanks[t].levelVolume = none →
      exec (.reseedTank ln tag (enc1 t.val)) s = .next (answeredBy ln 0x41 tag (takeLine ln s, ⟨.wrongState, []⟩))) ∧
    (∀ (amount : Nat) (origin : SeedOrigin) (after : TankState) (t' : State),
      s.tanks[t].state ≠ .unconfigured →
      after = (if s.tanks[t].state = .unknown then s.tanks[t].defn.startState.toTankState else s.tanks[t].state) →
      t' = tankChange (post (.tankState t (seedCause origin) after) ((takeLine ln s).modTank t fun k =>
        { k with volume := min amount k.defn.capacity, seedVolume := min amount k.defn.capacity, unbooked := 0,
                 credited := 0, debited := 0, seedOrigin := some origin, agreement := .unchecked, quietTimer := 0,
                 seeded := true, state := after })) →
      (origin = .seed → amount < 4294967296 → exec (.seedTank ln tag (enc1 t.val ++ enc4 amount)) s =
        .next (answeredBy ln 0x40 tag (t', ⟨acceptedAs (amount ≤ s.tanks[t].defn.capacity),
          enc2 (min amount s.tanks[t].defn.capacity)⟩))) ∧
      (origin = .reseed → s.tanks[t].levelVolume = some amount → exec (.reseedTank ln tag (enc1 t.val)) s =
        .next (answeredBy ln 0x41 tag (t', ⟨.ok, enc2 (min amount s.tanks[t].defn.capacity)⟩))))

/-- TANK SERVICE answers by the state table of R17; a change posts TANK_STATE with cause SERVICE before it is handed
over (R17, R19). DEFINE TANK on a tank without a role: a definition in order is written with its quiet time clamped,
and the tank is made UNKNOWN and unseeded when it had none or its capacity changes; capacity 0 removes the definition
(R5 to R8, R19). That an accepted removal replies OK whatever its quiet time holds is the model's choice (log 37).
LOAD STRAPPING with a table in order on a defined tank without a role: the table is replaced, the window of the tank's
LEVEL input emptied, the head and level volume made absent and the agreement UNCHECKED, and the change handed over
(R50, R51, R56). -/
def Obligations.TankRequestsAct : Prop :=
  (∀ (ln : LinkLine) (tag : Byte) (t : Fin 12) (wanted : ServiceState) (s : State), InControl ln s →
     (s.tanks[t].state = .unconfigured →
       exec (.tankService ln tag (enc1 t.val ++ enc1 wanted.toTankState.code)) s =
         .next (answeredBy ln 0x42 tag (takeLine ln s, ⟨.notConfigured, []⟩))) ∧
     ((s.tanks[t].state = .unknown ∨ s.tanks[t].state = .isolated ∧ s.tanks[t].seeded = false) → wanted ≠ .isolated →
       exec (.tankService ln tag (enc1 t.val ++ enc1 wanted.toTankState.code)) s =
         .next (answeredBy ln 0x42 tag (takeLine ln s, ⟨.notSeeded, []⟩))) ∧
     (s.tanks[t].state = wanted.toTankState →
       (wanted = .isolated ∨ s.tanks[t].state ≠ .isolated) →
       exec (.tankService ln tag (enc1 t.val ++ enc1 wanted.toTankState.code)) s =
         .next (answeredBy ln 0x42 tag (takeLine ln s, ⟨.ok, []⟩))) ∧
     (s.tanks[t].state ≠ .unconfigured → s.tanks[t].state ≠ wanted.toTankState →
       (s.tanks[t].state = .unknown → wanted = .isolated) →
       (s.tanks[t].state = .isolated → s.tanks[t].seeded = true) →
       exec (.tankService ln tag (enc1 t.val ++ enc1 wanted.toTankState.code)) s = .next (answeredBy ln 0x42 tag
         (tankChange (post (.tankState t .service wanted.toTankState)
           ((takeLine ln s).modTank t fun k => { k with state := wanted.toTankState })), ⟨.ok, []⟩)))) ∧
  (∀ (ln : LinkLine) (tag : Byte) (t : Fin 12) (d : TankDef) (s : State), MayDefine ln s →
     s.tanks[t].duty = false → s.tanks[t].fillTrains = [] → s.tanks[t].transferRole = .none →
     s.tanks[t].shoreTarget = false →
     (∀ (d' : TankDef) (reply : Reply), d.tag.length = 8 → (∀ b ∈ d.tag, 0x20 ≤ b.toNat ∧ b.toNat ≤ 0x7E) →
       500 ≤ d.capacity → d.capacity ≤ 60000 → d.lowMark < d.fillStop → d.fillStop ≤ d.capacity →
       20 ≤ d.tolerance → d.tolerance ≤ 5000 → d.quietTime < 65536 →
       (∀ p, s.tanks[t].strapping.getLast? = some p → p.volume ≤ d.capacity) →
       d' = { d with quietTime := max 30 (min 600 d.quietTime) } →
       reply = ⟨acceptedAs (30 ≤ d.quietTime && d.quietTime ≤ 600), []⟩ →
       (s.tanks[t].state = .unconfigured → exec (.defineTank ln tag (tankBody t d)) s = .next (answeredBy ln 0x20 tag
         (tankChange (post (.tankState t .defined .unknown)
           ((takeLine ln s).modTank t fun _ => .fresh d' [] .unknown)), reply))) ∧
       (s.tanks[t].state ≠ .unconfigured → s.tanks[t].defn.capacity ≠ d.capacity →
         exec (.defineTank ln tag (tankBody t d)) s = .next (answeredBy ln 0x20 tag
           (tankChange (post (.tankState t .redefined .unknown) ((takeLine ln s).modTank t fun k =>
             { k with defn := d', state := .unknown, seeded := false, volume := 0, unbooked := 0, credited := 0,
                      debited := 0, seedVolume := 0, seedOrigin := none, agreement := .unchecked, quietTimer := 0 })),
             reply))) ∧
       (s.tanks[t].state ≠ .unconfigured → s.tanks[t].defn.capacity = d.capacity →
         exec (.defineTank ln tag (tankBody t d)) s = .next (answeredBy ln 0x20 tag
           (tankChange ((takeLine ln s).modTank t fun k => { k with defn := d' }), reply)))) ∧
     (d.tag.length = 8 → d.capacity = 0 →
       (s.tanks[t].state = .unconfigured → exec (.defineTank ln tag (tankBody t d)) s =
         .next (answeredBy ln 0x20 tag (takeLine ln s, ⟨.ok, []⟩))) ∧
       (s.tanks[t].state ≠ .unconfigured → exec (.defineTank ln tag (tankBody t d)) s = .next (answeredBy ln 0x20 tag
         (tankChange (post (.tankState t .undefined .unconfigured)
           ((takeLine ln s).modTank t fun _ => .unconfigured)), ⟨.ok, []⟩))))) ∧
  (∀ (ln : LinkLine) (tag : Byte) (t : Fin 12) (points : List StrapPoint) (s : State), MayDefine ln s →
     s.tanks[t].state ≠ .unconfigured → s.tanks[t].duty = false → s.tanks[t].fillTrains = [] →
     s.tanks[t].transferRole = .none → s.tanks[t].shoreTarget = false →
     points.length ≠ 1 → points.length ≤ 12 → (∀ p ∈ points, p.head ≤ 4000) →
     points.Pairwise (fun p q => p.head < q.head ∧ p.volume ≤ q.volume) →
     (∀ p ∈ points, p.volume ≤ s.tanks[t].defn.capacity ∧ p.volume < 65536) →
     ∃ t' : State, exec (.loadStrapping ln tag (strappingBody t points)) s =
         .next (answeredBy ln 0x21 tag (tankChange t', ⟨.ok, []⟩)) ∧
       (∀ i : Fin 16, t'.inputs[i] = if s.inputs[i].defined = true ∧ s.inputs[i].role = .level t then
         { s.inputs[i] with window := [], head := none } else s.inputs[i]) ∧
       t' = { (takeLine ln s).modTank t fun k =>
               { k with strapping := points, levelHead := none, levelVolume := none, agreement := .unchecked } with
             inputs := t'.inputs })

/-- A strapping table turns a head into a volume: v₀ below the first point, the last volume at or above the last, and
the segment rounded down in between, clamped to the capacity; an empty table gives none (R52). Trusted volume and fill
measure (R55). -/
def Obligations.StrappingAndTrustedVolume : Prop :=
  ((∀ (cap h : Nat), strapVolume cap [] h = none) ∧
   ∀ (cap : Nat) (points : List StrapPoint) (h : Nat), points.Pairwise (fun p q => p.head < q.head) →
     (∀ p, points.head? = some p → h < p.head → strapVolume cap points h = some (min p.volume cap)) ∧
     (∀ p, points.getLast? = some p → p.head ≤ h → strapVolume cap points h = some (min p.volume cap)) ∧
     (∀ (i : Nat) (p q : StrapPoint), points[i]? = some p → points[i + 1]? = some q → p.head ≤ h → h < q.head →
       strapVolume cap points h =
         some (min (p.volume + (h - p.head) * (q.volume - p.volume) / (q.head - p.head)) cap))) ∧
  (∀ k : Tank,
     (∀ lv, k.levelVolume = some lv →
       (k.agreement = .disagree → k.trusted = min k.volume lv) ∧ (k.agreement ≠ .disagree → k.trusted = k.volume) ∧
       k.fillMeasure = max k.volume lv) ∧
     (k.levelVolume = none → k.trusted = k.volume ∧ k.fillMeasure = k.volume))

/-- A new head at a tank (R53). An UNCONFIGURED tank takes nothing, and a defined tank with an empty strapping table
takes the head alone. At a seeded tank with a table the level volume is written, and a quiet tank is checked against
its tolerance, with a DISAGREE notice when the agreement enters or leaves DISAGREE (R54); an unseeded tank with a
table is seeded (R21). -/
def Obligations.NewHeadReconcilesOrSeeds : Prop :=
  ∀ (t : Fin 12) (h : Nat) (s : State),
    (s.tanks[t].state = .unconfigured → takeHead t h s = s) ∧
    (s.tanks[t].state ≠ .unconfigured → s.tanks[t].strapping = [] →
      takeHead t h s = s.modTank t fun k => { k with levelHead := some h }) ∧
    (s.tanks[t].strapping ≠ [] → ∃ lv, strapVolume s.tanks[t].defn.capacity s.tanks[t].strapping h = some lv) ∧
    (∀ lv : Nat, s.tanks[t].state ≠ .unconfigured →
      strapVolume s.tanks[t].defn.capacity s.tanks[t].strapping h = some lv →
      ∀ (put : Agreement → State),
        (∀ a, put a = s.modTank t fun k => { k with levelHead := some h, levelVolume := some lv, agreement := a }) →
        (s.tanks[t].seeded = false → takeHead t h s = seedWith t lv .automatic (put s.tanks[t].agreement)) ∧
        (s.tanks[t].seeded = true →
          (s.tanks[t].quietTimer < s.tanks[t].defn.quietTime →
            takeHead t h s = tankChange (put s.tanks[t].agreement)) ∧
          (s.tanks[t].defn.quietTime ≤ s.tanks[t].quietTimer →
            (((s.tanks[t].volume : Int) - lv).natAbs ≤ s.tanks[t].defn.tolerance →
              (s.tanks[t].agreement ≠ .disagree → takeHead t h s = tankChange (put .agree)) ∧
              (s.tanks[t].agreement = .disagree →
                takeHead t h s = tankChange (post (.disagree t false ((s.tanks[t].volume : Int) - lv)) (put .agree)))) ∧
            (s.tanks[t].defn.tolerance < ((s.tanks[t].volume : Int) - lv).natAbs →
              (s.tanks[t].agreement = .disagree → takeHead t h s = tankChange (put .disagree)) ∧
              (s.tanks[t].agreement ≠ .disagree →
                takeHead t h s = tankChange (post (.disagree t true ((s.tanks[t].volume : Int) - lv)) (put .disagree)))))))

/-- The two laws of the tank accounts, kept by every step: the volume of a seeded tank lies within its capacity, and V
plus U equals S plus C minus D modulo 2 to the 32 (R11). -/
def Obligations.TankLawsAreKept : Prop :=
  ∀ s t : State, TankLaws s → step s = .next t → TankLaws t

/-! ## The Meter Channels -/

/-- The count a channel takes from new levels of its phases, by its mode: SINGLE and QUAD1 at the rising edges of
phase A, QUAD4 at every edge of one phase with the sign of the table, and a phase error, without a count, when both
change; when both phases of a QUAD1 channel change and A rises, the level of B is the new one if B is taken first and
the old one otherwise (R27 to R29). METER_EDGE: an undefined channel only takes the levels; a defined channel takes
them and its count, if any; a count that completes no litre moves the residue by one step; one that completes a litre
adds its sign to the net total and to the open rate slot, sets the residue to its new value, and goes to the role.
With both phases changed at once a SINGLE channel counts a rise of phase A, a QUAD1 channel whose phase A rises takes
the two edges in either order (a free choice, log 10), and a QUAD4 channel counts a phase error and takes the levels
(R25, R27 to R33). -/
def Obligations.MeterEdgeCounts : Prop :=
  ((∀ (m : Meter) (a b c : Bool), m.defn.mode = .single →
     countOf m a b c = if a = true ∧ m.phaseA = false then some true else none) ∧
   (∀ (m : Meter) (a : Bool) (c : Bool), m.defn.mode = .quad1 →
     countOf m a m.phaseB c = if a = true ∧ m.phaseA = false then some (!m.phaseB) else none) ∧
   (∀ (m : Meter) (c : Bool), m.defn.mode = .quad1 → m.phaseA = false →
     countOf m true (!m.phaseB) c = some (if c = true then m.phaseB else !m.phaseB)) ∧
   (∀ (m : Meter) (b : Bool) (c : Bool), m.defn.mode ≠ .quad4 → countOf m m.phaseA b c = none) ∧
   (∀ (m : Meter) (c : Bool), m.defn.mode = .quad4 →
     countOf m (!m.phaseA) m.phaseB c = some (m.phaseA == m.phaseB) ∧
     countOf m m.phaseA (!m.phaseB) c = some (m.phaseA != m.phaseB) ∧
     countOf m m.phaseA m.phaseB c = none ∧ countOf m (!m.phaseA) (!m.phaseB) c = none)) ∧
  ((∀ (m : Fin 24) (s : State), s.meters[m].defined = true → s.meters[m].defn.mode = .quad4 →
     exec (.meterEdge m (!s.meters[m].phaseA) (!s.meters[m].phaseB)) s = .next (finish (s.modMeter m fun c =>
       { c with phaseA := !c.phaseA, phaseB := !c.phaseB, phaseErrors := min 65535 (c.phaseErrors + 1) }))) ∧
   ∀ (m : Fin 24) (a b : Bool) (s : State) (put : Nat → State → State) (counted : Bool → State → State),
     (∀ r u, put r u = u.modMeter m fun c => { c with phaseA := a, phaseB := b, residue := r }) →
     (∀ u : State,
       (u.meters[m].residue + 1 ≠ u.meters[m].defn.kFactor → counted true u = put (u.meters[m].residue + 1) u) ∧
       (u.meters[m].residue + 1 = u.meters[m].defn.kFactor → counted true u =
         applyLitre m true ((put 0 u).modMeter m fun c => { c with netTotal := c.netTotal + 1, openSlot := c.openSlot + 1 })) ∧
       (u.meters[m].residue ≠ 0 → counted false u = put (u.meters[m].residue - 1) u) ∧
       (u.meters[m].residue = 0 → counted false u = applyLitre m false ((put (u.meters[m].defn.kFactor - 1) u).modMeter m
         fun c => { c with netTotal := c.netTotal - 1, openSlot := c.openSlot - 1 }))) →
     (s.meters[m].defined = false → exec (.meterEdge m a b) s = .next (finish (put s.meters[m].residue s))) ∧
     (s.meters[m].defined = true → a = s.meters[m].phaseA ∨ b = s.meters[m].phaseB →
       (countOf s.meters[m] a b false = none → exec (.meterEdge m a b) s = .next (finish (put s.meters[m].residue s))) ∧
       (∀ forward, countOf s.meters[m] a b false = some forward →
         exec (.meterEdge m a b) s = .next (finish (counted forward s)))) ∧
     (s.meters[m].defined = true → s.meters[m].defn.mode ≠ .quad4 → a = !s.meters[m].phaseA → b = !s.meters[m].phaseB →
       (a = false → exec (.meterEdge m a b) s = .next (finish (put s.meters[m].residue s))) ∧
       (a = true → s.meters[m].defn.mode = .single → exec (.meterEdge m a b) s = .next (finish (counted true s))) ∧
       (a = true → s.meters[m].defn.mode = .quad1 → ∃ (bFirst forward : Bool),
         countOf s.meters[m] a b bFirst = some forward ∧
         exec (.meterEdge m a b) s = .next (finish (counted forward { s with choices := s.choices + 1 })))))

/-- The residue and the litres of a channel are division by the K-factor rounding down: over any list of counts, the
net of the litres emitted and the residue left satisfy residue' + K × litres = residue + net count, with 0 ≤ residue'
< K (R30). -/
def Obligations.ResidueIsDivisionRoundingDown : Prop :=
  ∀ (counts : List Bool) (m : Meter), m.residue < m.defn.kFactor →
    ∀ (final : Meter × Int),
      final = counts.foldl (fun (p : Meter × Int) c =>
        (p.1.count c, p.2 + match litreOf p.1 c with | some l => signOf l | none => 0)) (m, 0) →
      final.1.residue < m.defn.kFactor ∧
      (final.1.residue : Int) + m.defn.kFactor * final.2 = m.residue + (counts.map signOf).sum ∧
      (m.residue = 0 → final.2 = (counts.map signOf).sum / (m.defn.kFactor : Int) ∧
        (final.1.residue : Int) = (counts.map signOf).sum - m.defn.kFactor * ((counts.map signOf).sum / (m.defn.kFactor : Int)))

/-- Where a litre goes, by the role of its channel (R33 to R38): SUPPLY against the duty tank, PRODUCT into the fill
target of a producing train and otherwise to its diverted total, TRANSFER and SHORE to the running operation, LINE to
a flowing draw, and stray otherwise. A stray litre adds its sign to the plant stray total; the first of a spell posts
STRAY_FLOW with the total after it and sets stray noticed, the later ones post nothing (R38). -/
def Obligations.LitreGoesToItsRole : Prop :=
  (∀ (m : Fin 24) (forward : Bool) (s : State),
     (s.meters[m].defn.role = .none → applyLitre m forward s = s) ∧
     (s.meters[m].defn.role = .supply →
       (∀ t, s.eval.dutyTank = some t →
         applyLitre m forward s = tankChange (s.modTank t fun k => if forward then k.debit else k.credit)) ∧
       (s.eval.dutyTank = none → applyLitre m forward s = strayLitre m .supply forward s)) ∧
     (∀ n : Fin 3, s.meters[m].defn.role = .product n →
       (∀ t, s.trains[n].state = .producing → s.trains[n].target = some t →
         applyLitre m forward s = tankChange ((s.modTrain n fun w =>
           { w with produced := addSign w.produced forward, stall := { w.stall with count := 0 } }).modTank t fun k =>
             if forward then k.credit else k.debit)) ∧
       (s.trains[n].state ≠ .producing →
         applyLitre m forward s = s.modTrain n fun w => { w with diverted := addSign w.diverted forward })) ∧
     (s.meters[m].defn.role = .transfer →
       (∀ r, s.transfer.run = some r → applyLitre m forward s = transferLitre r forward s) ∧
       (s.transfer.run = none → applyLitre m forward s = strayLitre m .transfer forward s)) ∧
     (s.meters[m].defn.role = .shore →
       (∀ r, s.shore.run = some r →
         applyLitre m forward s = tankChange (({ s with shore := { s.shore with
             filled := s.shore.filled + if forward then 1 else -1 } } : State).modTank r.target fun k =>
           if forward then k.credit else k.debit)) ∧
       (s.shore.run = none → applyLitre m forward s = strayLitre m .shore forward s)) ∧
     (∀ k : Fin 16, s.meters[m].defn.role = .line k → s.lines[k].state ≠ .flowing →
       applyLitre m forward s = strayLitre m .line forward s) ∧
     (∀ (k : Fin 16) (d d' : Draw), s.meters[m].defn.role = .line k → s.lines[k].state = .flowing →
       s.lines[k].draw = some d →
       d' = { d with delivered := if forward then min 20000 (d.delivered + 1) else d.delivered - 1, stall := 0 } →
       (forward = true → (∃ q, d.requested = some q ∧ q ≤ d'.delivered) → applyLitre m forward s =
         endDraw k .complete (s.modLine k fun l => { l with draw := some d' })) ∧
       (forward = false ∨ (∀ q, d.requested = some q → d'.delivered < q) → applyLitre m forward s =
         s.modLine k fun l => { l with draw := some d' }))) ∧
  (∀ (m : Fin 24) (cause : StrayCause) (forward : Bool) (s : State) (total : Word32),
     total = (if forward then s.strayTotal + 1 else s.strayTotal - 1) →
     (s.meters[m].strayNoticed = true → strayLitre m cause forward s = { s with strayTotal := total }) ∧
     (s.meters[m].strayNoticed = false → strayLitre m cause forward s =
       post (.strayFlow m cause total) (({ s with strayTotal := total } : State).modMeter m fun c =>
         { c with strayNoticed := true })))

/-- A TRANSFER litre makes its two bookings and no other: every account of every tank after it, C, D and S among them,
is that of a debit of the source and a credit of the destination, or the opposite two, so the volumes and unbooked
litres of all tanks together keep their sum modulo 2 to the 32 (R36, R9, R10). Moved takes its sign, the stall timer
is 0, and the transfer ends once, COMPLETE before SOURCE_LOW before DEST_FULL, or goes on (R165). Moved is exact
within its range and a free value outside it (log 13); the two bookings are two tank changes (log 12). -/
def Obligations.TransferLitreMovesOneLitre : Prop :=
  ∀ (r : TransferRun) (forward : Bool) (s t : State) (booked : Fin 12 → Tank), r.source ≠ r.dest →
    t = transferLitre r forward s →
    (∀ i, booked i = if i = r.source then (if forward then s.tanks[i].debit else s.tanks[i].credit)
      else if i = r.dest then (if forward then s.tanks[i].credit else s.tanks[i].debit) else s.tanks[i]) →
    (∀ i : Fin 12, t.tanks[i] = { booked i with
      duty := t.tanks[i].duty, fillTrains := t.tanks[i].fillTrains, transferRole := t.tanks[i].transferRole,
      shoreTarget := t.tanks[i].shoreTarget }) ∧
    (allTanks.map fun i => BitVec.ofNat 32 t.tanks[i].volume + t.tanks[i].unbooked).sum =
      (allTanks.map fun i => BitVec.ofNat 32 s.tanks[i].volume + s.tanks[i].unbooked).sum ∧
    ∀ net moved : Int, net = s.transfer.moved + (if forward then 1 else -1) →
      moved = (if -60000 ≤ net ∧ net ≤ 60000 then net else Config.movedOutOfRange net) →
      t.transfer = { s.transfer with
        moved := moved, stall := { s.transfer.stall with count := 0 }, run := t.transfer.run, lastEnd := t.transfer.lastEnd } ∧
      (s.transfer.run = some r → ∀ (ends : TransferCause → Prop) (low full : Prop),
        (∀ c, ends c ↔ t.transfer.run = none ∧ t.transfer.lastEnd = some ⟨c, r.source, r.dest, moved⟩) →
        (low ↔ (booked r.source).trusted ≤ (booked r.source).defn.lowMark) →
        (full ↔ (booked r.dest).defn.fillStop ≤ (booked r.dest).fillMeasure) →
        (moved = r.litres → ends .complete) ∧
        (moved ≠ r.litres → s.tanks[r.source].state = .inService → s.tanks[r.dest].state = .inService →
          (low → ends .sourceLow) ∧ (¬ low → full → ends .destFull) ∧
          (¬ low → ¬ full → t.transfer.run = some r ∧ t.transfer.lastEnd = s.transfer.lastEnd)))

/-- DEFINE METER: a definition that passes the checks of R39 makes the channel defined with its running fields cleared
and the phase levels kept, and K-factor 0 removes it; a line that loses its meter is UNCONFIGURED, and a defined line
that gains one enters RELEASE_WAIT or IDLE (R39, R40, R81). -/
def Obligations.DefineMeterGivesTheRole : Prop :=
  ∀ (ln : LinkLine) (tag : Byte) (m : Fin 24) (d : MeterDef) (s : State), MayDefine ln s →
    roleBusy s.meters[m].defn.role s = false →
    ∀ (lose gain : State → State),
      (∀ u, lose u = match s.meters[m].defn.role with
        | .line k => u.modLine k fun l => { l with metered := false, state := .unconfigured }
        | _ => u) →
      (∀ u, gain u = match d.role with
        | .line k => u.modLine k fun l => { l with metered := true, state :=
            if l.defined then (if l.defn.source = .contact ∧ l.asserted = true then .releaseWait else .idle)
            else .unconfigured }
        | _ => u) →
      (1 ≤ d.kFactor → d.kFactor ≤ 1000 → roleBusy d.role s = false →
        (d.role ≠ .none → ∀ j : Fin 24, j ≠ m → s.meters[j].defined = true → s.meters[j].defn.role ≠ d.role) →
        exec (.defineMeter ln tag (meterBody m d)) s = .next (answeredBy ln 0x22 tag
          ((fun u => if s.meters[m].defn.role = d.role then u else gain (lose u))
            ((takeLine ln s).modMeter m fun c => .fresh (some d) c.phaseA c.phaseB), ⟨.ok, []⟩))) ∧
      (d.kFactor = 0 → s.meters[m].defined = true →
        exec (.defineMeter ln tag (meterBody m d)) s = .next (answeredBy ln 0x22 tag
          (lose ((takeLine ln s).modMeter m fun c => .fresh none c.phaseA c.phaseB), ⟨.ok, []⟩))) ∧
      (d.kFactor = 0 → s.meters[m].defined = false →
        exec (.defineMeter ln tag (meterBody m d)) s = .next (answeredBy ln 0x22 tag (takeLine ln s, ⟨.ok, []⟩)))

/-- The residue of every meter channel lies between 0 and its K-factor minus 1: every step keeps it (R30). -/
def Obligations.ResidueLawIsKept : Prop :=
  ∀ s t : State, ResidueLaw s → step s = .next t → ResidueLaw t

/-! ## The Frequency Inputs -/

/-- The gate end of an input that is not defined, or of one that stays in its fault state: the last frequency and raw
value, the runs, and the value or FAULT reading handed on (R44, R45, R48). The third out-of-band gate in GOOD puts an
input in FAULT, with its window emptied, LEVEL_FAULT posted and the entry handed to the owner of its role; the third
in-band gate in FAULT returns it to GOOD and handles that gate's value (R45). The rows INPUT_FAULT_ENTRY and
INPUT_FAULT_CLEARED are those gate ends (the model's reading, log 7). -/
def Obligations.GateEndReadsTheInput : Prop :=
  (∀ (i : Fin 16) (f : Nat) (s : State),
     (s.inputs[i].defined = false → exec (.frequencyGateEnd i f) s =
       .next (finish (s.modInput i fun x => { x with lastFrequency := some f }))) ∧
     (s.inputs[i].defined = true → s.inputs[i].fault = .good → 900 ≤ f → f ≤ 5100 →
       exec (.frequencyGateEnd i f) s = .next (finish (takeValue i (min 4000 (f - 1000)) (s.modInput i fun x =>
         { x with lastFrequency := some f, lastRaw := some (min 4000 (f - 1000)), outRun := 0 })))) ∧
     (s.inputs[i].defined = true → s.inputs[i].fault = .good → (f < 900 ∨ 5100 < f) → s.inputs[i].outRun < 2 →
       exec (.frequencyGateEnd i f) s = .next (finish (s.modInput i fun x =>
         { x with lastFrequency := some f, lastRaw := none, outRun := x.outRun + 1 }))) ∧
     (s.inputs[i].defined = true → s.inputs[i].fault = .fault → 900 ≤ f → f ≤ 5100 → s.inputs[i].inRun < 2 →
       exec (.frequencyGateEnd i f) s = .next (finish (handFault i (s.modInput i fun x =>
         { x with lastFrequency := some f, lastRaw := some (min 4000 (f - 1000)), inRun := x.inRun + 1 })))) ∧
     (s.inputs[i].defined = true → s.inputs[i].fault = .fault → (f < 900 ∨ 5100 < f) →
       exec (.frequencyGateEnd i f) s = .next (finish (handFault i (s.modInput i fun x =>
         { x with lastFrequency := some f, lastRaw := none, inRun := 0 }))))) ∧
  (∀ (i : Fin 16) (f : Nat) (s : State), s.inputs[i].defined = true →
     (s.inputs[i].fault = .good → (f < 900 ∨ 5100 < f) → 2 ≤ s.inputs[i].outRun →
       ∀ (u : State), u = post (.levelFault i true f) (s.modInput i fun x =>
           { x with lastFrequency := some f, lastRaw := none, fault := .fault, outRun := 0, inRun := 0, window := [],
                    head := none }) →
       ∀ (v : State), (s.inputs[i].role = .none → v = u) →
         (∀ t, s.inputs[i].role = .level t → v = tankChange (u.modTank t fun k =>
           { k with levelHead := none, levelVolume := none, agreement := .unchecked })) →
         (∀ n, s.inputs[i].role = .salinity n → v = takeReading .fault n u) →
       exec (.inputFaultEntry i f) s = .next (finish v) ∧ exec (.frequencyGateEnd i f) s = .next (finish v)) ∧
     (s.inputs[i].fault = .fault → 900 ≤ f → f ≤ 5100 → 2 ≤ s.inputs[i].inRun →
       ∀ (v : State), v = takeValue i (min 4000 (f - 1000)) (post (.levelFault i false f) (s.modInput i fun x =>
           { x with lastFrequency := some f, lastRaw := some (min 4000 (f - 1000)), fault := .good, outRun := 0,
                    inRun := 0 })) →
       exec (.inputFaultCleared i f) s = .next (finish v) ∧ exec (.frequencyGateEnd i f) s = .next (finish v)))

/-- What a value in GOOD does by the role (R44, R48, R49): nothing for NONE, a reading to the train of SALINITY(n),
and for LEVEL(t) it joins the window of at most eight, whose full sum divided by 8 is a new head for the tank. What a
salinity reading does at a train (R139, R141): it replaces the reading held; in DIVERTING a reading within the limit
advances the qualification timer and any other sets it to 0; in PRODUCING one above the limit, or FAULT, returns the
train to DIVERTING; in the other states it does no more. QUALIFICATION_HOLD_COMPLETE: the reading that brings the
qualification timer to the hold length asks for a fill target and takes the answer at once: the train enters PRODUCING
with that tank, or stops with cause NO_TARGET (R140, R141). That the timers of the state left are then absent or 0 of
0 is read from R143 (log 28), and that the row is such a gate end from R140 (log 7). -/
def Obligations.ReadingsReachTheirOwners : Prop :=
  (∀ (i : Fin 16) (u : Nat) (s : State),
     (s.inputs[i].role = .none → takeValue i u s = s) ∧
     (∀ n : Fin 3, s.inputs[i].role = .salinity n → takeValue i u s = takeReading (.ppm u) n s) ∧
     (∀ t : Fin 12, s.inputs[i].role = .level t →
       (s.inputs[i].window.length < 7 → takeValue i u s =
         s.modInput i fun x => { x with window := x.window ++ [u], head := none }) ∧
       (s.inputs[i].window.length = 7 → ∀ h, h = (s.inputs[i].window.sum + u) / 8 → takeValue i u s =
         takeHead t h (s.modInput i fun x => { x with window := x.window ++ [u], head := some h })) ∧
       (s.inputs[i].window.length = 8 → ∀ h, h = ((s.inputs[i].window.drop 1).sum + u) / 8 → takeValue i u s =
         takeHead t h (s.modInput i fun x => { x with window := x.window.drop 1 ++ [u], head := some h })))) ∧
  (∀ (r : Salinity) (n : Fin 3) (s : State) (ok : Bool),
     (ok = true ↔ ∃ v, r = .ppm v ∧ v ≤ s.trains[n].defn.salinityLimit) →
     (s.trains[n].state ≠ .diverting → (s.trains[n].state ≠ .producing ∨ ok = true) →
       takeReading r n s = s.modTrain n fun w => { w with reading := r }) ∧
     (s.trains[n].state = .diverting → ok = false → takeReading r n s = s.modTrain n fun w =>
       { w with reading := r, qualification := { w.qualification with count := 0 } }) ∧
     (s.trains[n].state = .diverting → ok = true →
       s.trains[n].qualification.count + 1 < s.trains[n].qualification.length → takeReading r n s = s.modTrain n fun w =>
         { w with reading := r, qualification := { w.qualification with count := w.qualification.count + 1 } }) ∧
     (s.trains[n].state = .producing → ok = false → ∀ t, s.trains[n].target = some t → takeReading r n s =
       (s.modTank t fun k => { k with fillTrains := k.fillTrains.filter (· != n) }).modTrain n fun w =>
         { w with reading := r, target := none, producingSince := none, state := .diverting,
                  stage := some ⟨0, w.defn.divertMax⟩, qualification := ⟨0, w.defn.qualificationHold⟩, stall := ⟨0, 0⟩ })) ∧
  (∀ (i : Fin 16) (n : Fin 3) (f : Nat) (s u : State), s.inputs[i].defined = true → s.inputs[i].role = .salinity n →
     s.inputs[i].fault = .good → 900 ≤ f → f ≤ 5100 → s.trains[n].state = .diverting →
     min 4000 (f - 1000) ≤ s.trains[n].defn.salinityLimit →
     s.trains[n].qualification.length ≤ s.trains[n].qualification.count + 1 →
     u = ((s.modInput i fun x => { x with lastFrequency := some f, lastRaw := some (min 4000 (f - 1000)), outRun := 0 }).modTrain
       n fun w => { w with reading := .ppm (min 4000 (f - 1000)), qualification :=
         { w.qualification with count := w.qualification.count + 1 } }) →
     (∀ t v, selectFill s = some t → v = ((u.modTank t fun k => { k with fillTrains := k.fillTrains ++ [n] }).modTrain n fun w =>
         { w with state := .producing, target := some t, producingSince := some s.now, stage := none, qualification := ⟨0, 0⟩,
                  stall := ⟨0, w.defn.productStall⟩ }) →
       (s.trains[n].mode = .auto → exec (.qualificationHoldComplete i f) s = .next (finish (stopCheck v))) ∧
       (s.trains[n].mode ≠ .auto → exec (.qualificationHoldComplete i f) s = .next (finish v))) ∧
     (selectFill s = none → exec (.qualificationHoldComplete i f) s = .next (finish (haltTrain n .noTarget u))))

/-- DEFINE FREQUENCY INPUT: the input takes the role, or becomes not defined, with a fresh window; a LEVEL role given
up or taken up makes the tank's level absent, and a SALINITY role given up hands its train FAULT (R46, R47). An input
that is not defined stays as it is under UNDEFINED. -/
def Obligations.DefineFrequencyInputSetsTheRole : Prop :=
  ∀ (ln : LinkLine) (tag : Byte) (i : Fin 16) (role : Option InputRole) (s : State), MayDefine ln s →
    (∀ r, role = some r → r ≠ .none → ∀ j : Fin 16, j ≠ i → s.inputs[j].defined = true → s.inputs[j].role ≠ r) →
    (role = none → s.inputs[i].defined = false →
      exec (.defineFrequencyInput ln tag (inputBody i role)) s = .next (answeredBy ln 0x23 tag (takeLine ln s, ⟨.ok, []⟩))) ∧
    ((role ≠ none ∨ s.inputs[i].defined = true) →
      ∀ (u v : State), u = ((takeLine ln s).modInput i fun x =>
          match role with
          | none => { x with defined := false, role := .none, lastRaw := none, fault := .good, outRun := 0, inRun := 0,
                             window := [], head := none }
          | some r => { x with defined := true, role := r, window := [], head := none }) →
        (s.inputs[i].role = .none ∨ role = some s.inputs[i].role → v = u) →
        (∀ t, s.inputs[i].role = .level t → role ≠ some (.level t) → v = levelLost t u) →
        (∀ n, s.inputs[i].role = .salinity n → role ≠ some (.salinity n) → v = takeReading .fault n u) →
        ((role = none ∨ role = some .none) →
          exec (.defineFrequencyInput ln tag (inputBody i role)) s = .next (answeredBy ln 0x23 tag (v, ⟨.ok, []⟩))) ∧
        (∀ t, role = some (.level t) →
          exec (.defineFrequencyInput ln tag (inputBody i role)) s =
            .next (answeredBy ln 0x23 tag (levelLost t v, ⟨.ok, []⟩))) ∧
        (∀ n, role = some (.salinity n) →
          exec (.defineFrequencyInput ln tag (inputBody i role)) s = .next (answeredBy ln 0x23 tag
            (if s.inputs[i].role ≠ .salinity n ∧ s.inputs[i].fault = .fault then takeReading .fault n v else v,
              ⟨.ok, []⟩))))

/-! ## The Supply Evaluator and a tank change -/

/-- A tank change, whatever it makes the Evaluator, the Arbiter, the sets, the trains and the transfer do, leaves
every account, definition, state and level of every tank as it was, every meter's count, input, snapshot and stored
image, and the definitions, settings, modes and totals of every other unit (R13, R14). -/
def Obligations.TankChangeKeepsTheAccounts : Prop :=
  ∀ s : State,
    (∀ t : Fin 12, (tankChange s).tanks[t] =
      { s.tanks[t] with duty := (tankChange s).tanks[t].duty, fillTrains := (tankChange s).tanks[t].fillTrains,
                        transferRole := (tankChange s).tanks[t].transferRole,
                        shoreTarget := (tankChange s).tanks[t].shoreTarget }) ∧
    (∀ m : Fin 24, (tankChange s).meters[m] =
      { s.meters[m] with strayNoticed := (tankChange s).meters[m].strayNoticed }) ∧
    (tankChange s).inputs = s.inputs ∧ (tankChange s).now = s.now ∧ (tankChange s).strayTotal = s.strayTotal ∧
    (tankChange s).waters = s.waters ∧ (tankChange s).pending = s.pending ∧
    (tankChange s).power.allowance = s.power.allowance ∧ (tankChange s).eval.settings = s.eval.settings ∧
    (tankChange s).eval.floor = s.eval.floor ∧ (tankChange s).eval.reviewTimer = s.eval.reviewTimer ∧
    (tankChange s).link.lineA = s.link.lineA ∧ (tankChange s).link.lineB = s.link.lineB ∧
    (tankChange s).link.stored = s.link.stored ∧ (tankChange s).link.writing = s.link.writing ∧
    (tankChange s).link.snapshot = s.link.snapshot ∧ (tankChange s).link.trigger = s.link.trigger ∧
    (tankChange s).link.localSample = s.link.localSample ∧ (tankChange s).link.localAsserted = s.link.localAsserted ∧
    (tankChange s).link.lastWrite = s.link.lastWrite ∧
    (∀ k : Fin 16, (tankChange s).lines[k] =
      { s.lines[k] with state := (tankChange s).lines[k].state, draw := (tankChange s).lines[k].draw }) ∧
    (∀ g : Fin 6, (tankChange s).groups[g] = { s.groups[g] with rotation := (tankChange s).groups[g].rotation }) ∧
    (tankChange s).arb.mode = s.arb.mode ∧ (tankChange s).arb.supplyLossHold = s.arb.supplyLossHold ∧
    (tankChange s).sets.settings = s.sets.settings ∧ (tankChange s).sets.duty = s.sets.duty ∧
    (tankChange s).sets.alternationTimer = s.sets.alternationTimer ∧
    (∀ x : Fin 2, (tankChange s).sets.sets[x].defn = s.sets.sets[x].defn) ∧
    (∀ n : Fin 3, (tankChange s).trains[n].defn = s.trains[n].defn ∧ (tankChange s).trains[n].mode = s.trains[n].mode ∧
      (tankChange s).trains[n].reading = s.trains[n].reading ∧
      (tankChange s).trains[n].runningSeconds = s.trains[n].runningSeconds ∧
      (tankChange s).trains[n].produced = s.trains[n].produced ∧
      (tankChange s).trains[n].diverted = s.trains[n].diverted ∧ (tankChange s).trains[n].rest = s.trains[n].rest) ∧
    (tankChange s).transfer.pump = s.transfer.pump ∧ (tankChange s).transfer.moved = s.transfer.moved ∧
    (tankChange s).shore.filled = s.shore.filled

/-- After a tank change the Evaluator's figures are those of the tanks: the sums and the ratio of the IN_SERVICE tanks
(R61), the graded supply level and its floor (R62, R63), the call count (R65), the imbalance (R66) and the candidates
(R59); the level held by the Arbiter follows a change. -/
def Obligations.TankChangeWorksOutTheFigures : Prop :=
  ∀ s : State, ∀ e : Evaluator, e = (tankChange s).eval →
    e.reserve = ((allTanks.filter fun t => s.tanks[t].state = .inService).map fun t => s.tanks[t].trusted).sum ∧
    e.capacity = ((allTanks.filter fun t => s.tanks[t].state = .inService).map fun t => s.tanks[t].defn.capacity).sum ∧
    (e.capacity = 0 → e.ratio = none ∧ e.computed = 7 ∧ e.callCount = 0) ∧
    (0 < e.capacity → e.ratio = some (1000 * e.reserve / e.capacity) ∧
      e.computed = gradedLevel s.eval.settings.supplyBands s.eval.settings.hysteresis s.eval.computed
        (1000 * e.reserve / e.capacity) ∧
      e.callCount = gradedLevel s.eval.settings.productionBands s.eval.settings.productionHysteresis s.eval.callCount
        (1000 * e.reserve / e.capacity)) ∧
    e.level = max e.computed e.floor ∧
    (s.eval.level ≠ e.level → (tankChange s).arb.levelHeld = e.level) ∧
    (s.eval.level = e.level → (tankChange s).arb.levelHeld = s.arb.levelHeld) ∧
    e.imbalance = (((allTanks.filter fun t => s.tanks[t].state = .inService ∧ s.tanks[t].defn.side = .port).map fun t =>
        s.tanks[t].trusted).sum : Int) -
      ((allTanks.filter fun t => s.tanks[t].state = .inService ∧ s.tanks[t].defn.side = .stbd).map fun t =>
        s.tanks[t].trusted).sum ∧
    (∀ t : Fin 12, t ∈ e.dutyCandidates ↔
      s.tanks[t].state = .inService ∧ s.tanks[t].defn.lowMark < s.tanks[t].trusted) ∧
    (∀ t : Fin 12, t ∈ e.fillCandidates ↔
      s.tanks[t].state = .inService ∧ s.tanks[t].fillMeasure < s.tanks[t].defn.fillStop)

/-- After a tank change the duty tank is a duty candidate, and there is one whenever there is a candidate; a duty tank
that is still a candidate is kept (R68, R69); a lost duty tank leaves no set STARTING or RUNNING and supply DOWN
(R130). A transfer or shore fill that still runs has come to none of the ends of R165 and R169. The premise on the
duty flags is kept (R69). -/
def Obligations.TankChangeSettlesTheRoles : Prop :=
  ∀ s t : State, t = tankChange s →
    (∀ d, t.eval.dutyTank = some d → d ∈ t.eval.dutyCandidates) ∧
    (t.eval.dutyTank = none ↔ t.eval.dutyCandidates = []) ∧
    (∀ d, s.eval.dutyTank = some d → d ∈ t.eval.dutyCandidates → t.eval.dutyTank = some d) ∧
    ((∀ i : Fin 12, s.tanks[i].duty = true ↔ s.eval.dutyTank = some i) →
      ∀ i : Fin 12, t.tanks[i].duty = true ↔ t.eval.dutyTank = some i) ∧
    (s.eval.dutyTank ≠ none → t.eval.dutyTank = none → t.sets.supply = .down ∧ t.sets.grantCapacity = 0 ∧
      ∀ x : Fin 2, t.sets.sets[x].state ≠ .starting ∧ t.sets.sets[x].state ≠ .running) ∧
    (∀ r, t.transfer.run = some r → t.transfer.moved ≠ r.litres ∧ t.tanks[r.source].state = .inService ∧
      t.tanks[r.dest].state = .inService ∧ t.tanks[r.source].defn.lowMark < t.tanks[r.source].trusted ∧
      t.tanks[r.dest].fillMeasure < t.tanks[r.dest].defn.fillStop) ∧
    (∀ r, t.shore.run = some r → (0 < r.litres → t.shore.filled ≠ r.litres) ∧ t.tanks[r.target].state ≠ .isolated ∧
      (t.tanks[r.target].state ≠ .unconfigured → t.tanks[r.target].fillMeasure < t.tanks[r.target].defn.fillStop))

/-- The fill targets of a tank change (R15, R71, R72, R141, R142). From lists that agree with the targets
(`FillLists`) they agree after it, and every target is a fill candidate. A train that was PRODUCING and still is keeps
its product stall timer and producing since; it keeps a target that is still a candidate, and otherwise has the tank
that R71 chooses. One that is PRODUCING no more was stopped CALL_DROPPED, or NO_TARGET with no candidate left; no
other train enters PRODUCING. A new target takes the train at the end of its list. -/
def Obligations.TankChangeFindsFillTargets : Prop :=
  (∀ s t : State, FillLists s → t = tankChange s →
    FillLists t ∧ (∀ (n : Fin 3) (d : Fin 12), t.trains[n].target = some d → d ∈ t.eval.fillCandidates) ∧
    (∀ (n : Fin 3) (d : Fin 12), s.trains[n].target = some d →
      (t.trains[n].state = .producing →
        t.trains[n].stall = s.trains[n].stall ∧ t.trains[n].producingSince = s.trains[n].producingSince ∧
        (d ∈ t.eval.fillCandidates → t.trains[n].target = some d) ∧
        (d ∉ t.eval.fillCandidates → t.trains[n].target = selectFill t)) ∧
      (t.trains[n].state ≠ .producing → t.trains[n].stopCause = some .callDropped ∨
        (t.trains[n].stopCause = some .noTarget ∧ t.eval.fillCandidates = []))) ∧
    (∀ n : Fin 3, s.trains[n].state ≠ .producing → t.trains[n].state ≠ .producing)) ∧
  (∀ (n : Fin 3) (d : Fin 12) (s : State), s.trains[n].target = some d →
    (∀ e, selectFill s = some e → retarget s n =
      ((s.modTank d fun k => { k with fillTrains := k.fillTrains.filter (· != n) }).modTank e fun k =>
        { k with fillTrains := k.fillTrains ++ [n] }).modTrain n fun w => { w with target := some e }) ∧
    (selectFill s = none → retarget s n = haltTrain n .noTarget s))

/-- Grades and choices. With bands that do not rise, a graded level stands at or above grade i + 1 exactly when the
ratio is below band i, or the held level stood there and the ratio is below band i plus the hysteresis (R62, R65). The
duty tank and a fill target are the best of the candidates, on the preferred side where it has any, the lowest index
on a tie (R66, R67, R71); so are the two tanks of a balancing transfer, and there is none exactly when no IN_SERVICE
tank stands on the heavier side, or no fill candidate on the lighter side (R167). -/
def Obligations.GradesAndChoicesFollowTheRules : Prop :=
  (∀ (bands : List Nat) (h held ratio i b : Nat), bands.Pairwise (fun x y => y ≤ x) → bands[i]? = some b →
    (i + 1 ≤ gradedLevel bands h held ratio ↔ ratio < b ∨ (i + 1 ≤ held ∧ ratio < b + h))) ∧
  (∀ (s : State) (heavy light : Option Side), s.eval.dutyCandidates.Pairwise (· < ·) →
    s.eval.fillCandidates.Pairwise (· < ·) → (∀ t ∈ s.eval.fillCandidates, 0 < s.tanks[t].defn.capacity) →
    ((s.eval.settings.balanceBand : Int) < s.eval.imbalance → heavy = some .port ∧ light = some .stbd) →
    (s.eval.imbalance < -(s.eval.settings.balanceBand : Int) → heavy = some .stbd ∧ light = some .port) →
    (-(s.eval.settings.balanceBand : Int) ≤ s.eval.imbalance → s.eval.imbalance ≤ s.eval.settings.balanceBand →
      heavy = none ∧ light = none) →
    ∀ (pool : Option Side → List (Fin 12) → Fin 12 → Prop),
    (∀ side cands t, pool side cands t ↔ t ∈ cands ∧
      ∀ d, side = some d → (∃ u ∈ cands, s.tanks[u].defn.side = d) → s.tanks[t].defn.side = d) →
    (selectDuty s = none ↔ s.eval.dutyCandidates = []) ∧
    (∀ t, selectDuty s = some t → pool heavy s.eval.dutyCandidates t ∧ ∀ u, pool heavy s.eval.dutyCandidates u →
      s.tanks[u].trusted < s.tanks[t].trusted ∨ s.tanks[u].trusted = s.tanks[t].trusted ∧ t ≤ u) ∧
    (selectFill s = none ↔ s.eval.fillCandidates = []) ∧
    (∀ t, selectFill s = some t → pool light s.eval.fillCandidates t ∧ ∀ u, pool light s.eval.fillCandidates u →
      s.tanks[t].trusted * s.tanks[u].defn.capacity < s.tanks[u].trusted * s.tanks[t].defn.capacity ∨
      s.tanks[t].trusted * s.tanks[u].defn.capacity = s.tanks[u].trusted * s.tanks[t].defn.capacity ∧ t ≤ u) ∧
    (∀ (from_ to_ : Side) (t : Fin 12), s.eval.imbalance ≠ 0 →
      (0 < s.eval.imbalance → from_ = .port ∧ to_ = .stbd) → (s.eval.imbalance < 0 → from_ = .stbd ∧ to_ = .port) →
      (balanceSource s = none ↔ ∀ u : Fin 12, s.tanks[u].state = .inService → s.tanks[u].defn.side ≠ from_) ∧
      (balanceDest s = none ↔ ∀ u ∈ s.eval.fillCandidates, s.tanks[u].defn.side ≠ to_) ∧
      (balanceSource s = some t → s.tanks[t].state = .inService ∧ s.tanks[t].defn.side = from_ ∧
        ∀ u : Fin 12, s.tanks[u].state = .inService → s.tanks[u].defn.side = from_ →
          s.tanks[u].trusted < s.tanks[t].trusted ∨ s.tanks[u].trusted = s.tanks[t].trusted ∧ t ≤ u) ∧
      (balanceDest s = some t → t ∈ s.eval.fillCandidates ∧ s.tanks[t].defn.side = to_ ∧
        ∀ u ∈ s.eval.fillCandidates, s.tanks[u].defn.side = to_ →
          s.tanks[t].trusted * s.tanks[u].defn.capacity < s.tanks[u].trusted * s.tanks[t].defn.capacity ∨
          s.tanks[t].trusted * s.tanks[u].defn.capacity = s.tanks[u].trusted * s.tanks[t].defn.capacity ∧ t ≤ u)))

/-- The settings of the evaluator, the groups and the pump: SET SUPPLY BANDS (R73, R74), SET PRODUCTION BANDS (R75),
SET BALANCE (R76), SET SUPPLY FLOOR (R64), DEFINE GROUP (R84) and DEFINE TRANSFER PUMP (R163). A new effective supply
level is posted and handed to the Arbiter (R63), a new call count to the trains (R65), and a new admit level starts a
pass (R97). That the rated power of the pump is checked before a running transfer is read from the order in which R163
names its checks (log 39). -/
def Obligations.SettingsAreWritten : Prop :=
  (∀ (ln : LinkLine) (tag : Byte) (bands : List Nat) (h : Nat) (s : State), MayDefine ln s →
    (∀ x ∈ bands, x ≤ 1000) → bands.Pairwise (fun a b => b ≤ a) →
    (bands.length = 7 → h ≤ 100 →
      ∀ (computed level : Nat) (u : State),
      computed = (match s.eval.ratio with | none => 7 | some r => gradedLevel bands h s.eval.computed r) →
      level = max computed s.eval.floor →
      u = (takeLine ln s).modEval (fun e => { e with
        settings := { e.settings with supplyBands := bands, hysteresis := h }, computed := computed }) →
      (level = s.eval.level → exec (.setSupplyBands ln tag (bands.flatMap enc2 ++ enc1 h)) s =
        .next (answeredBy ln 0x26 tag (u, ⟨.ok, []⟩))) ∧
      (level ≠ s.eval.level → exec (.setSupplyBands ln tag (bands.flatMap enc2 ++ enc1 h)) s =
        .next (answeredBy ln 0x26 tag (takeLevel level (post (.supplyLevel .bands level)
          (u.modEval fun e => { e with level := level })), ⟨.ok, []⟩)))) ∧
    (bands.length = 3 → h ≤ 200 →
      ∀ (call : Nat) (u : State),
      call = (match s.eval.ratio with | none => 0 | some r => gradedLevel bands h s.eval.callCount r) →
      u = (takeLine ln s).modEval (fun e => { e with
        settings := { e.settings with productionBands := bands, productionHysteresis := h }, callCount := call }) →
      exec (.setProductionBands ln tag (bands.flatMap enc2 ++ enc1 h)) s = .next (answeredBy ln 0x27 tag
        (if call = s.eval.callCount then u else stopCheck (startCheck u), ⟨.ok, []⟩)))) ∧
  (∀ (ln : LinkLine) (tag : Byte) (band limit period : Nat) (s : State), MayDefine ln s →
    band ≤ 20000 → limit = 0 ∨ (501 ≤ limit ∧ limit ≤ 30000 ∧ band < limit) → period < 65536 →
    exec (.setBalance ln tag (enc2 band ++ enc2 limit ++ enc2 period)) s = .next (answeredBy ln 0x28 tag
      ((takeLine ln s).modEval (fun e => { e with settings := { e.settings with
          balanceBand := band, balanceLimit := limit, reviewPeriod := max 60 (min 3600 period) } }),
        ⟨acceptedAs (60 ≤ period && period ≤ 3600), []⟩))) ∧
  (∀ (ln : LinkLine) (tag : Byte) (n floor level : Nat) (s u : State), InControl ln s → n < 256 → floor = min n 7 →
    level = max s.eval.computed floor → u = (takeLine ln s).modEval (fun e => { e with floor := floor }) →
    (level = s.eval.level → exec (.setSupplyFloor ln tag (enc1 n)) s = .next (answeredBy ln 0x58 tag
      (u, ⟨acceptedAs (n ≤ 7), enc1 floor ++ enc1 level⟩))) ∧
    (level ≠ s.eval.level → exec (.setSupplyFloor ln tag (enc1 n)) s = .next (answeredBy ln 0x58 tag
      (takeLevel level (post (.supplyLevel .floor level) (u.modEval fun e => { e with level := level })),
        ⟨acceptedAs (n ≤ 7), enc1 floor ++ enc1 level⟩)))) ∧
  (∀ (ln : LinkLine) (tag : Byte) (g : Fin 6) (given admitted patience : Nat) (s u : State), MayDefine ln s →
    given < 256 → patience < 65536 → admitted = (if g = 0 then s.groups[g].defn.admitLevel else given) →
    u = (takeLine ln s).modGroup g (fun r => { r with defn := ⟨admitted, max 10 (min 3600 patience)⟩ }) →
    (g ≠ 0 → given = 0 ∨ 7 < given →
      exec (.defineGroup ln tag (enc1 g.val ++ enc1 given ++ enc2 patience)) s =
        .next (answeredBy ln 0x25 tag (takeLine ln s, ⟨.badValue, []⟩))) ∧
    (g = 0 ∨ (1 ≤ given ∧ given ≤ 7) →
      exec (.defineGroup ln tag (enc1 g.val ++ enc1 given ++ enc2 patience)) s = .next (answeredBy ln 0x25 tag
        (if admitted = s.groups[g].defn.admitLevel then u else grantPass u,
          ⟨acceptedAs (10 ≤ patience && patience ≤ 3600), []⟩)))) ∧
  (∀ (ln : LinkLine) (tag : Byte) (power stall : Nat) (s : State), MayDefine ln s → power < 256 → stall < 65536 →
    (100 < power → exec (.defineTransferPump ln tag (enc1 power ++ enc2 stall)) s =
      .next (answeredBy ln 0x2B tag (takeLine ln s, ⟨.badValue, []⟩))) ∧
    (power ≤ 100 → s.transfer.run ≠ none → exec (.defineTransferPump ln tag (enc1 power ++ enc2 stall)) s =
      .next (answeredBy ln 0x2B tag (takeLine ln s, ⟨.busy, []⟩))) ∧
    (power ≤ 100 → s.transfer.run = none → exec (.defineTransferPump ln tag (enc1 power ++ enc2 stall)) s =
      .next (answeredBy ln 0x2B tag ({ takeLine ln s with transfer := { s.transfer with
        pump := ⟨power, max 10 (min 300 stall)⟩ } }, ⟨acceptedAs (10 ≤ stall && stall ≤ 300), []⟩))))

/-- REVIEW_TIMER_EXPIRY: the review timer is 0; with a duty tank the duty selection is made again, and a better tank
takes duty with a DUTY_CHANGED notice (R69, R70); then a balancing transfer starts when every condition of R167 holds,
and otherwise nothing starts. -/
def Obligations.ReviewSelectsAndBalances : Prop :=
  ∀ (s u v : State), .review ∈ s.due → u = (took .review s).modEval (fun e => { e with reviewTimer := 0 }) →
    (s.eval.dutyTank = none → v = u) →
    (∀ old, s.eval.dutyTank = some old → ∃ t, selectDuty u = some t ∧ (t = old → v = u) ∧
      (t ≠ old → v = post (.dutyChanged t .review (some old))
        { u with
          tanks := upd (upd u.tanks old fun k => { k with duty := false }) t fun k => { k with duty := true }
          eval := { u.eval with dutyTank := some t } })) →
    ∀ (wanted : Prop), (wanted ↔ 0 < s.eval.settings.balanceLimit ∧
      s.eval.settings.balanceLimit < s.eval.imbalance.natAbs ∧ s.transfer.run = none ∧
      0 < s.transfer.pump.ratedPower) →
    (¬ wanted ∨ balanceSource v = none ∨ balanceDest v = none →
      exec .reviewTimerExpiry s = .next (finish v)) ∧
    (∀ (src dst : Fin 12) (amount : Int), wanted → balanceSource v = some src → balanceDest v = some dst →
      amount = min ((s.eval.imbalance.natAbs / 2 : Nat) : Int)
        (min ((s.tanks[src].trusted : Int) - s.tanks[src].defn.lowMark)
          ((s.tanks[dst].defn.fillStop : Int) - s.tanks[dst].fillMeasure)) →
      (amount < 50 ∨ effectiveAllowance s < committedLoad s + s.transfer.pump.ratedPower →
        exec .reviewTimerExpiry s = .next (finish v)) ∧
      (50 ≤ amount → committedLoad s + s.transfer.pump.ratedPower ≤ effectiveAllowance s →
        exec .reviewTimerExpiry s = .next (finish (activateRole .transfer
          { v with
            transfer := { v.transfer with run := some ⟨.balance, src, dst, amount.toNat⟩, moved := 0,
                                          stall := ⟨0, v.transfer.pump.stallTime⟩ }
            power := { v.power with holders := v.power.holders ++ [.pump] }
            tanks := upd (upd v.tanks src fun k => { k with transferRole := .source }) dst fun k =>
              { k with transferRole := .dest } }))))

/-! ## Draw lines, groups and the Draw Arbiter -/

/-- DEFINE LINES on a set of lines that hold no draw. With a nominal flow of 1 to 200 every line of the set takes the
definition with its time fields clamped; a line not defined before, or that changes group, joins the bottom of the
group's rotation order in ascending index; a line's state follows the two tables. With a nominal flow of 0 the defined
lines of the set lose their definition and their place. Nothing else changes. With a line that holds a draw the
request is refused BUSY (R81, R85, R86). That an accepted removal replies OK whatever its max duration and stall time
hold is the model's choice (log 33). -/
def Obligations.DefineLinesWritesTheSet : Prop :=
  ∀ (ln : LinkLine) (tag : Byte) (ks : List (Fin 16)) (d : LineDef) (s : State), MayDefine ln s →
    ks ≠ [] → ks.length < 256 →
    ((∃ k ∈ ks, s.lines[k].state.holdsDraw = true) → d.flow = 0 →
      exec (.defineLines ln tag (linesBody ks d)) s = .next (answeredBy ln 0x24 tag (takeLine ln s, ⟨.busy, []⟩))) ∧
    ((∀ k ∈ ks, s.lines[k].state.holdsDraw = false) →
      (d.flow = 0 → ∃ t : State,
        exec (.defineLines ln tag (linesBody ks d)) s = .next (answeredBy ln 0x24 tag (t, ⟨.ok, []⟩)) ∧
        (∀ k : Fin 16, t.lines[k] = if k ∈ ks ∧ s.lines[k].defined = true then
          { s.lines[k] with defined := false, defn := .default, state := .unconfigured } else s.lines[k]) ∧
        (∀ g : Fin 6, t.groups[g] = { s.groups[g] with
          rotation := s.groups[g].rotation.filter fun k =>
            !decide (k ∈ ks ∧ s.lines[k].defined = true ∧ s.lines[k].defn.group = g) }) ∧
        t = { takeLine ln s with lines := t.lines, groups := t.groups }) ∧
      (1 ≤ d.flow → d.flow ≤ 200 → 1 ≤ d.defaultBatch → d.defaultBatch ≤ d.maxBatch → d.maxBatch ≤ 20000 →
        d.maxDuration < 65536 → d.stallTime < 65536 →
        (∀ n, d.source = .flush n → (∃ k, ∀ j ∈ ks, j = k) ∧
          ∀ j : Fin 16, j ∉ ks → s.lines[j].defined = true → s.lines[j].defn.source ≠ .flush n) →
        ∃ t : State, exec (.defineLines ln tag (linesBody ks d)) s = .next (answeredBy ln 0x24 tag
            (t, ⟨acceptedAs (10 ≤ d.maxDuration && d.maxDuration ≤ 7200 && 10 ≤ d.stallTime && d.stallTime ≤ 300), []⟩)) ∧
          (∀ k : Fin 16, k ∉ ks → t.lines[k] = s.lines[k]) ∧
          (∀ k : Fin 16, k ∈ ks → t.lines[k] = { s.lines[k] with
            defined := true
            defn := { d with maxDuration := max 10 (min 7200 d.maxDuration), stallTime := max 10 (min 300 d.stallTime) }
            state :=
              if s.lines[k].defined = true then
                (if s.lines[k].state = .idle ∧ d.source = .contact ∧ s.lines[k].asserted = true then .releaseWait
                 else if s.lines[k].state = .releaseWait ∧ d.source ≠ .contact then .idle else s.lines[k].state)
              else if s.lines[k].metered = true then
                (if d.source = .contact ∧ s.lines[k].asserted = true then .releaseWait else .idle)
              else .unconfigured }) ∧
          (∀ g : Fin 6, g ≠ d.group → t.groups[g] = { s.groups[g] with
            rotation := s.groups[g].rotation.filter fun k =>
              !decide (k ∈ ks ∧ s.lines[k].defined = true ∧ s.lines[k].defn.group = g) }) ∧
          t.groups[d.group] = { s.groups[d.group] with
            rotation := s.groups[d.group].rotation ++ allLines.filter fun k =>
              decide (k ∈ ks ∧ ¬(s.lines[k].defined = true ∧ s.lines[k].defn.group = d.group)) } ∧
          t = { takeLine ln s with lines := t.lines, groups := t.groups }))

/-- A draw is registered by DRAW and by a contact's assertion, and withdrawn by a contact's release and by CANCEL
DRAW: the line, its new draw record, the pending list in priority order, the reply, and the pass that follows (R82,
R88, R89, R91, R111); a withdrawn flush draw is handed to its train before the pass (R113; the order is the model's
choice, log 23). -/
def Obligations.DrawsAreRegisteredAndWithdrawn : Prop :=
  ∀ (k : Fin 16) (s : State),
    ∀ (enter : Option Nat → Source → State → State) (leave : State → State),
      (∀ q o u, enter q o u = u.modLine k fun l => { l with
        state := .pending
        draw := some { requested := q, delivered := 0, origin := o, wait := 0, aged := false, grantSequence := none,
                       duration := 0, stall := 0, suspendedSince := none } }) →
      (∀ u, leave u = refreshPending (u.modLine k fun l => { l with state := .idle, draw := none })) →
    (∀ (ln : LinkLine) (tag : Byte) (litres : Nat), InControl ln s → litres < 65536 →
      ((∀ n, ¬(s.lines[k].defined = true ∧ s.lines[k].defn.source = .flush n)) → s.lines[k].state = .idle →
        (litres = 0 → exec (.draw ln tag (enc1 k.val ++ enc2 litres)) s = .next (answeredBy ln 0x48 tag
          (grantPass (refreshPending (enter none .message (takeLine ln s))), ⟨.ok, enc1 k.val ++ enc2 0⟩))) ∧
        (1 ≤ litres → exec (.draw ln tag (enc1 k.val ++ enc2 litres)) s = .next (answeredBy ln 0x48 tag
          (grantPass (refreshPending (enter (some (min litres s.lines[k].defn.maxBatch)) .message (takeLine ln s))),
            ⟨acceptedAs (litres ≤ s.lines[k].defn.maxBatch), enc1 k.val ++ enc2 (min litres s.lines[k].defn.maxBatch)⟩)))) ∧
      (∀ n, s.lines[k].defined = true → s.lines[k].defn.source = .flush n →
        exec (.draw ln tag (enc1 k.val ++ enc2 litres)) s =
          .next (answeredBy ln 0x48 tag (takeLine ln s, ⟨.badValue, []⟩))) ∧
      ((∀ n, ¬(s.lines[k].defined = true ∧ s.lines[k].defn.source = .flush n)) → s.lines[k].state ≠ .idle →
        exec (.draw ln tag (enc1 k.val ++ enc2 litres)) s =
          .next (answeredBy ln 0x48 tag (takeLine ln s, ⟨.wrongState, []⟩)))) ∧
    (∀ (ln : LinkLine) (tag : Byte) (d : Draw), InControl ln s → s.lines[k].state = .pending → s.lines[k].draw = some d →
      ((∀ n, d.origin ≠ .flush n) → exec (.cancelDraw ln tag (enc1 k.val)) s =
        .next (answeredBy ln 0x49 tag (grantPass (leave (takeLine ln s)), ⟨.ok, enc2 d.delivered⟩))) ∧
      (∀ n, d.origin = .flush n → exec (.cancelDraw ln tag (enc1 k.val)) s = .next (answeredBy ln 0x49 tag
        (grantPass (flushEnded .cancelled d.delivered n (leave (takeLine ln s))), ⟨.ok, enc2 d.delivered⟩)))) ∧
    (.contactAssertion k ∈ s.due → s.lines[k].contactClosed = true → s.lines[k].asserted = false →
      ∀ u, u = (took (.contactAssertion k) s).modLine k (fun l => { l with asserted := true }) →
      (s.lines[k].defined = true → s.lines[k].defn.source = .contact → s.lines[k].state = .idle →
        exec (.contactAssertion k) s = .next (finish (grantPass (refreshPending
          (enter (some s.lines[k].defn.defaultBatch) .contact u))))) ∧
      (¬(s.lines[k].defined = true ∧ s.lines[k].defn.source = .contact ∧ s.lines[k].state = .idle) →
        exec (.contactAssertion k) s = .next (finish u))) ∧
    (.contactRelease k ∈ s.due → s.lines[k].contactClosed = false → s.lines[k].asserted = true →
      ∀ u, u = (took (.contactRelease k) s).modLine k (fun l => { l with asserted := false }) →
      (¬(s.lines[k].defined = true ∧ s.lines[k].defn.source = .contact) →
        exec (.contactRelease k) s = .next (finish u)) ∧
      (s.lines[k].defined = true → s.lines[k].defn.source = .contact →
        (∀ d, s.lines[k].state = .pending → s.lines[k].draw = some d → d.origin = .contact →
          exec (.contactRelease k) s = .next (finish (grantPass (leave u)))) ∧
        (s.lines[k].state = .releaseWait →
          exec (.contactRelease k) s = .next (finish (u.modLine k fun l => { l with state := .idle }))) ∧
        (s.lines[k].state ≠ .releaseWait →
          (s.lines[k].state = .pending → ∀ d, s.lines[k].draw = some d → d.origin ≠ .contact) →
          exec (.contactRelease k) s = .next (finish u))))

/-- What ends a draw, and with which cause: CANCEL DRAW and END DRAW of a draw in service, a non-specific END DRAW,
the duration and the stall timer, and the expiry of the hold with supply DOWN, which ends every suspended draw in rank
order (R108, R109, R110, R111, R118). `endDraw` is the procedure of R106, stated below. -/
def Obligations.DrawsEndByTheirCauses : Prop :=
  (∀ (ln : LinkLine) (tag : Byte) (k : Fin 16) (s : State), InControl ln s →
    (∀ d, s.lines[k].state = .flowing ∨ s.lines[k].state = .suspended → s.lines[k].draw = some d →
      exec (.cancelDraw ln tag (enc1 k.val)) s =
        .next (answeredBy ln 0x49 tag (endDraw k .cancelled (takeLine ln s), ⟨.ok, enc2 d.delivered⟩)) ∧
      exec (.endDraw ln tag (enc1 k.val)) s = .next (answeredBy ln 0x4A tag
        (endDraw k .ended (takeLine ln s), ⟨.ok, enc1 k.val ++ enc2 d.delivered⟩))) ∧
    (s.lines[k].state ≠ .flowing → s.lines[k].state ≠ .suspended →
      exec (.endDraw ln tag (enc1 k.val)) s = .next (answeredBy ln 0x4A tag (takeLine ln s, ⟨.wrongState, []⟩)) ∧
      (s.lines[k].state ≠ .pending → exec (.cancelDraw ln tag (enc1 k.val)) s =
        .next (answeredBy ln 0x49 tag (takeLine ln s, ⟨.wrongState, []⟩))))) ∧
  (∀ (ln : LinkLine) (tag : Byte) (s : State) (reached : Fin 16 → Prop), InControl ln s →
    (∀ k, reached k ↔ k ∈ s.arb.inService ∧ ∃ d, s.lines[k].draw = some d ∧ d.requested = none ∧ d.origin = .message) →
    ((∀ k, ¬ reached k) →
      exec (.endDrawNonSpecific ln tag) s = .next (answeredBy ln 0x4A tag (takeLine ln s, ⟨.none, []⟩))) ∧
    (∀ (k : Fin 16) (d : Draw), reached k → s.lines[k].draw = some d →
      (∀ j, reached j → j ≠ k → s.lines[k].defn.group < s.lines[j].defn.group ∨
        s.lines[k].defn.group = s.lines[j].defn.group ∧ s.arb.inService.idxOf k < s.arb.inService.idxOf j) →
      exec (.endDrawNonSpecific ln tag) s = .next (answeredBy ln 0x4A tag
        (endDraw k .ended (takeLine ln s), ⟨.ok, enc1 k.val ++ enc2 d.delivered⟩)))) ∧
  (∀ (k : Fin 16) (d : Draw) (s : State), s.lines[k].state = .flowing → s.lines[k].draw = some d →
    (.drawTimedOut k ∈ s.due → s.lines[k].defn.maxDuration ≤ d.duration →
      exec (.drawTimedOut k) s = .next (finish (endDraw k .timedOut (took (.drawTimedOut k) s)))) ∧
    (.drawStalled k ∈ s.due → s.lines[k].defn.stallTime ≤ d.stall →
      exec (.drawStalled k) s = .next (finish (endDraw k .stalled (took (.drawStalled k) s))))) ∧
  (∀ (s : State) (g : Timer), .holdExpiry ∈ s.due → s.arb.hold = some g → g.length ≤ g.count →
    (s.arb.supplyHeld = .down → exec .holdTimerExpiry s = .next (finish
      ((((rankOrder s).filter fun k => s.lines[k].state == .suspended).foldl (fun u k => endDraw k .supplyLost u)
        (took .holdExpiry s)).modArb fun a => { a with hold := none }))) ∧
    (s.arb.supplyHeld = .up → exec .holdTimerExpiry s =
      .next (finish ((took .holdExpiry s).modArb fun a => { a with hold := none }))))

/-- The end of a draw (R106, R107): the draw leaves the in-service set and its record is discarded, the line takes the
state of the table, DRAW_ENDED and LINE_FAULT are posted as R107 says, a flush draw's end is handed to its train
(R113), and a grant pass runs. For a flush draw the hand-over and the pass are each taken whole, in either order (a
free choice of the model, log 10). -/
def Obligations.EndOfADraw : Prop :=
  ∀ (k : Fin 16) (cause : EndCause) (d : Draw) (s u v w : State), s.lines[k].draw = some d →
    u = (s.modLine k fun l => { l with
        draw := none
        state := if cause = .timedOut ∨ cause = .stalled then .fault
          else if l.defn.source = .contact ∧ l.asserted = true then .releaseWait else .idle }).modArb (fun a =>
      { a with inService := a.inService.filter (· != k) }) →
    v = (if cause = .complete ∧ d.origin ≠ .message then u else post (.drawEnded k cause d.delivered) u) →
    w = (if cause = .timedOut then post (.lineFault k .timedOut d.delivered) v
      else if cause = .stalled then post (.lineFault k .stalled d.delivered) v else v) →
    ((∀ n, d.origin ≠ .flush n) → endDraw k cause s = grantPass w) ∧
    (∀ n, d.origin = .flush n →
      endDraw k cause s = grantPass (flushEnded cause d.delivered n { w with choices := w.choices + 1 }) ∨
      endDraw k cause s = flushEnded cause d.delivered n (grantPass { w with choices := w.choices + 1 }))

/-- The other requests to the Draw Arbiter and the ageing of a draw: MASK LINES (R95), SET ROTATION (R94), ARBITER
MODE (R100), DISPATCH (R101), RESET LINE (R112) and DRAW_AGES (R114). -/
def Obligations.ArbiterRequestsAct : Prop :=
  (∀ (ln : LinkLine) (tag : Byte) (s : State), InControl ln s →
    (∀ (word : Nat) (on : Bool), word < 65536 →
      (word = 0 → exec (.maskLines ln tag (enc2 word ++ encFlag on)) s =
        .next (answeredBy ln 0x4B tag (takeLine ln s, ⟨.badValue, []⟩))) ∧
      (word ≠ 0 → ∃ t : State, (∀ k : Fin 16, t.lines[k] =
          if word.testBit k.val = true then { s.lines[k] with masked := on } else s.lines[k]) ∧
        t = { takeLine ln s with lines := t.lines } ∧
        ((∀ k : Fin 16, word.testBit k.val = true → s.lines[k].masked = on) →
          exec (.maskLines ln tag (enc2 word ++ encFlag on)) s = .next (answeredBy ln 0x4B tag (t, ⟨.ok, []⟩))) ∧
        ((∃ k : Fin 16, word.testBit k.val = true ∧ s.lines[k].masked ≠ on) →
          exec (.maskLines ln tag (enc2 word ++ encFlag on)) s =
            .next (answeredBy ln 0x4B tag (grantPass t, ⟨.ok, []⟩))))) ∧
    (∀ k : Fin 16,
      (s.lines[k].defined = false → exec (.setRotation ln tag (enc1 k.val)) s =
        .next (answeredBy ln 0x4C tag (takeLine ln s, ⟨.notConfigured, []⟩))) ∧
      (∀ above below : List (Fin 16), s.lines[k].defined = true → k ∉ above →
        s.groups[s.lines[k].defn.group].rotation = above ++ k :: below →
        exec (.setRotation ln tag (enc1 k.val)) s = .next (answeredBy ln 0x4C tag
          (refreshPending ((takeLine ln s).modGroup s.lines[k].defn.group fun g =>
            { g with rotation := below ++ above ++ [k] }), ⟨.ok, []⟩))) ∧
      (s.lines[k].state = .fault → ∀ after : LineState,
        after = (if s.lines[k].defn.source = .contact ∧ s.lines[k].asserted = true then .releaseWait else .idle) →
        exec (.resetLine ln tag (enc1 k.val)) s = .next (answeredBy ln 0x4F tag
          ((takeLine ln s).modLine k fun l => { l with state := after }, ⟨.ok, enc1 after.code⟩))) ∧
      (s.lines[k].state ≠ .fault → exec (.resetLine ln tag (enc1 k.val)) s =
        .next (answeredBy ln 0x4F tag (takeLine ln s, ⟨.wrongState, []⟩)))) ∧
    (∀ mode : ArbiterMode,
      (s.arb.mode = mode → exec (.arbiterMode ln tag (enc1 mode.code)) s =
        .next (answeredBy ln 0x4D tag (takeLine ln s, ⟨.ok, []⟩))) ∧
      (s.arb.mode ≠ mode → exec (.arbiterMode ln tag (enc1 mode.code)) s = .next (answeredBy ln 0x4D tag
        (grantPass ((takeLine ln s).modArb fun a => { a with mode := mode }), ⟨.ok, []⟩)))) ∧
    (s.arb.mode = .auto →
      exec (.dispatch ln tag []) s = .next (answeredBy ln 0x4E tag (takeLine ln s, ⟨.wrongState, []⟩))) ∧
    (∀ open_ : Fin 16 → Prop, s.arb.mode = .manual →
      (∀ k, open_ k ↔ s.lines[k].defn.group ≠ 0 ∧ s.lines[k].masked = false ∧
        s.arb.levelHeld ≤ s.groups[s.lines[k].defn.group].defn.admitLevel) →
      ((∀ k ∈ s.arb.pendingList, ¬ open_ k) →
        exec (.dispatch ln tag []) s = .next (answeredBy ln 0x4E tag (takeLine ln s, ⟨.none, []⟩))) ∧
      (∀ (k : Fin 16) (before after : List (Fin 16)), s.arb.pendingList = before ++ k :: after →
        (∀ j ∈ before, ¬ open_ j) → open_ k →
        (s.arb.inService.length < 8 → s.lines[k].defn.flow ≤ s.arb.capacityHeld - flowingFlow s →
          exec (.dispatch ln tag []) s =
            .next (answeredBy ln 0x4E tag (grant k (takeLine ln s), ⟨.ok, enc1 k.val⟩))) ∧
        (8 ≤ s.arb.inService.length ∨ s.arb.capacityHeld - flowingFlow s < s.lines[k].defn.flow →
          exec (.dispatch ln tag []) s = .next (answeredBy ln 0x4E tag (takeLine ln s, ⟨.none, []⟩)))))) ∧
  (∀ (k : Fin 16) (d : Draw) (s : State), .drawAges k ∈ s.due → s.lines[k].state = .pending → s.lines[k].draw = some d →
    d.aged = false → 0 < d.wait →
    exec (.drawAges k) s = .next (finish (post (.aged k s.lines[k].defn.group d.wait) (refreshPending
      (((took (.drawAges k) s).modLine k fun l => { l with draw := some { d with aged := true } }).modGroup
        s.lines[k].defn.group fun g => { g with rotation := k :: g.rotation.filter (· != k) })))))

/-- The pass walks the pending list in priority order (R98). From lists that agree with the lines (`ListsLaw`) and a
pending list in priority order, a pass that reached the end leaves only lines it skips: masked, of G1 to G5 in MANUAL
mode, or not admitted by level. A pass that stopped wrote its stopped-at line: a line that is not skipped and does not
fit, and for which, in G0, no room can be made (R96, R115); every line before it in the list is one the pass skips. -/
def Obligations.PassStopsOnlyAtALineThatMayNotGo : Prop :=
  ∀ (s t : State) (skipped : Fin 16 → Prop), ListsLaw s → s.arb.pendingList = priorityOrder s → t = grantPass s →
    (∀ k, skipped k ↔ s.lines[k].masked = true ∨ (s.arb.mode = .manual ∧ s.lines[k].defn.group ≠ 0) ∨
      (s.lines[k].defn.group ≠ 0 ∧ s.groups[s.lines[k].defn.group].defn.admitLevel < s.arb.levelHeld)) →
    (t.arb.stoppedAt = none → ∀ k ∈ t.arb.pendingList, skipped k) ∧
    (∀ k, t.arb.stoppedAt = some k → ∃ before after : List (Fin 16), t.arb.pendingList = before ++ k :: after ∧
      (∀ j ∈ before, skipped j) ∧ ¬ skipped k ∧
      (8 ≤ t.arb.inService.length ∨ t.arb.capacityHeld < flowingFlow t + t.lines[k].defn.flow) ∧
      (t.lines[k].defn.group = 0 → ∀ movable : List (Fin 16),
        movable = allLines.filter (fun j => decide (t.lines[j].state = .flowing ∧ t.lines[j].defn.group ≠ 0)) →
        t.arb.capacityHeld - flowingFlow t + (movable.map fun j => t.lines[j].defn.flow).sum < t.lines[k].defn.flow ∨
        8 ≤ t.arb.inService.length - movable.length))

/-- What a grant pass changes: the states and draws of lines, the rotation orders, the Arbiter's lists, counter and
stopped-at line, the stray spells of channels, and the flush fields of trains; nothing else (R92, R98, R99, R116). -/
def Obligations.PassChangesOnlyDraws : Prop :=
  ∀ s t : State, t = grantPass s →
    (∀ k : Fin 16, t.lines[k] = { s.lines[k] with state := t.lines[k].state, draw := t.lines[k].draw }) ∧
    (∀ k : Fin 16, s.lines[k].state ≠ .pending → s.lines[k].state ≠ .flowing → k ∉ s.arb.pendingList →
      t.lines[k] = s.lines[k]) ∧
    (∀ g : Fin 6, t.groups[g] = { s.groups[g] with rotation := t.groups[g].rotation }) ∧
    (∀ m : Fin 24, t.meters[m] = { s.meters[m] with strayNoticed := t.meters[m].strayNoticed }) ∧
    (∀ n : Fin 3, t.trains[n] = { s.trains[n] with
      state := t.trains[n].state, retry := t.trains[n].retry, flushPlaced := t.trains[n].flushPlaced,
      flushWait := t.trains[n].flushWait } ∧
      (s.trains[n].state ≠ .flushWait → s.trains[n].state ≠ .flushing → s.trains[n].state ≠ .fault →
        t.trains[n] = s.trains[n])) ∧
    t = { s with
      lines := t.lines, groups := t.groups, meters := t.meters, trains := t.trains
      arb := { s.arb with
        pendingList := t.arb.pendingList, inService := t.arb.inService, grantCounter := t.arb.grantCounter
        stoppedAt := t.arb.stoppedAt, preemptedNow := t.arb.preemptedNow } }

/-- A grant (R92, R93, R99) and a preemption (R93, R116) of one line: the line and its draw, the in-service set and
the grant counter, the rotation order, the pending list, the stray spell of the line's channel, and the hand-over of a
flush draw to its train (R113, R145, R146); nothing else. The lines preempted at one event are remembered in the order
in which they were granted, the earliest first, and those of the line's group stand together at its top in that order
(`preemptedNow`, log 22). That the flush wait timer is 0 of 0 in FLUSHING is log 28's reading, and that a train
granted in FAULT keeps its fault cause is log 25's. -/
def Obligations.GrantAndPreemptionOfOneDraw : Prop :=
  (∀ (k : Fin 16) (d : Draw) (s t : State), s.lines[k].draw = some d → t = grant k s →
    (∀ j : Fin 16, t.lines[j] = if j = k then { s.lines[k] with
      state := .flowing, draw := some { d with grantSequence := some (s.arb.grantCounter + 1), duration := 0, stall := 0 } }
      else s.lines[j]) ∧
    (∀ g : Fin 6, t.groups[g] = if g = s.lines[k].defn.group
      then { s.groups[g] with rotation := s.groups[g].rotation.filter (· != k) ++ [k] } else s.groups[g]) ∧
    (∀ m : Fin 24, t.meters[m] = if s.meters[m].defined = true ∧ s.meters[m].defn.role = .line k
      then { s.meters[m] with strayNoticed := false } else s.meters[m]) ∧
    (∀ n : Fin 3, t.trains[n] =
      if d.origin = .flush n ∧ s.trains[n].state = .flushWait then
        { s.trains[n] with state := .flushing, flushWait := ⟨0, 0⟩ }
      else if d.origin = .flush n ∧ s.trains[n].state = .fault ∧ s.trains[n].flushPlaced = true then
        { s.trains[n] with state := .flushing, retry := true, flushWait := ⟨0, 0⟩ }
      else s.trains[n]) ∧
    t.arb.pendingList = priorityOrder t ∧
    t = { s with
      lines := t.lines, groups := t.groups, meters := t.meters, trains := t.trains
      arb := { s.arb with
        inService := s.arb.inService ++ [k], grantCounter := s.arb.grantCounter + 1, pendingList := t.arb.pendingList
        preemptedNow := s.arb.preemptedNow.filter (·.1 != k) } }) ∧
  (∀ (k : Fin 16) (d : Draw) (s t : State), s.lines[k].draw = some d → t = preempt k s →
    ∀ (now : List (Fin 16 × Word32)) (top : List (Fin 16)) (older : Fin 16 × Word32 → Fin 16 × Word32 → Prop),
    now = t.arb.preemptedNow → top = (now.map (·.1)).filter (fun j => s.lines[j].defn.group == s.lines[k].defn.group) →
    (∀ x y, older x y ↔ (s.arb.grantCounter - y.2).toNat ≤ (s.arb.grantCounter - x.2).toNat) →
    now.Perm ((k, d.grantSequence.getD 0) :: s.arb.preemptedNow.filter (·.1 != k)) ∧
    (s.arb.preemptedNow.Pairwise older → now.Pairwise older) ∧
    (∀ j : Fin 16, t.lines[j] = if j = k then { s.lines[k] with
      state := .pending
      draw := some { d with wait := 0, aged := false, grantSequence := none, suspendedSince := none } } else s.lines[j]) ∧
    (∀ g : Fin 6, t.groups[g] = if g = s.lines[k].defn.group
      then { s.groups[g] with rotation := top ++ s.groups[g].rotation.filter fun j => !top.contains j } else s.groups[g]) ∧
    (∀ n : Fin 3, t.trains[n] = if d.origin = .flush n ∧ s.trains[n].state = .flushing then
        { s.trains[n] with state := .flushWait, flushPlaced := true, flushWait := ⟨0, s.trains[n].defn.flushWaitMax⟩ }
      else s.trains[n]) ∧
    t.arb.pendingList = priorityOrder t ∧
    t = { s with
      lines := t.lines, groups := t.groups, trains := t.trains
      arb := { s.arb with
        inService := s.arb.inService.filter (· != k), pendingList := t.arb.pendingList
        preemptedNow := now } })

/-- What the Arbiter does with a supply state and a grant capacity handed over (R117, R119, R120): on a loss every
flowing draw is suspended and the hold starts; on a restore no draw stays suspended and the hold is absent; after a
restore or a change of the capacity the flowing draws fit it; the same supply again changes nothing. Before the pass
that ends it, a restore takes the suspended draws in rank order (R92), and each resumes when its flow and those of the
draws resumed ahead of it fit, and is preempted otherwise; a fall of the capacity preempts the lowest-ranked flowing
draws, only until the rest fit. The room made for a pending G0 line (R115): the lowest-ranked flowing draws of the
other groups are preempted, only until flow and place suffice, and they do suffice when all of them together would.
After a restore, a fall and the making of room, the lines of one group that were preempted stand together at the top
of its rotation order, the earliest granted at the top, told by the grants since theirs (R116; log 22), and the others
follow as before. -/
def Obligations.SupplyHandOverSuspendsAndRestores : Prop :=
  ∀ (s : State) (ahead : Fin 16 → Fin 16 → Bool) (preempted : DrawLine → DrawLine) (grantsSince : Fin 16 → Nat)
    (raised : State → Prop), ArbiterLaw s →
    (∀ j k : Fin 16, ahead j k = true ↔ s.lines[j].defn.group < s.lines[k].defn.group ∨
      s.lines[j].defn.group = s.lines[k].defn.group ∧ s.arb.inService.idxOf j < s.arb.inService.idxOf k) →
    (∀ l : DrawLine, preempted l = { l with
      state := .pending
      draw := l.draw.map fun d => { d with wait := 0, aged := false, grantSequence := none, suspendedSince := none } }) →
    (∀ k : Fin 16, grantsSince k = (s.arb.grantCounter - (s.lines[k].draw.bind (·.grantSequence)).getD 0).toNat) →
    (∀ u : State, raised u ↔ ∀ g : Fin 6, ∃ top : List (Fin 16), top.Nodup ∧
      (∀ k : Fin 16, k ∈ top ↔ s.lines[k].defn.group = g ∧ s.lines[k].state ≠ .pending ∧ u.lines[k].state = .pending) ∧
      top.Pairwise (fun j k => grantsSince k ≤ grantsSince j) ∧
      u.groups[g] = { s.groups[g] with rotation := top ++ s.groups[g].rotation.filter fun k => !top.contains k }) →
    (∀ (t : State) (supply : SupplyState) (capacity : Nat), (supply = .down → capacity = 0) →
      t = takeSupply supply capacity s →
      t.arb.supplyHeld = supply ∧ t.arb.capacityHeld = capacity ∧
      (s.arb.supplyHeld = supply → s.arb.capacityHeld = capacity → t = s) ∧
      (s.arb.supplyHeld = .up → supply = .down →
        (∀ k : Fin 16, t.lines[k] = if s.lines[k].state = .flowing then { s.lines[k] with
          state := .suspended, draw := s.lines[k].draw.map fun d => { d with suspendedSince := some s.now } }
          else s.lines[k]) ∧
        t.arb.inService = s.arb.inService ∧ t.arb.pendingList = s.arb.pendingList ∧ t.groups = s.groups ∧
        t.trains = s.trains ∧
        ((∀ k : Fin 16, s.lines[k].state ≠ .flowing) → t.arb.hold = s.arb.hold) ∧
        ((∃ k : Fin 16, s.lines[k].state = .flowing) → t.arb.hold = some ⟨0, s.arb.supplyLossHold⟩)) ∧
      (s.arb.supplyHeld = .down → supply = .up → t.arb.hold = none ∧
        (∀ k : Fin 16, t.lines[k].state ≠ .suspended) ∧ flowingFlow t ≤ capacity) ∧
      (s.arb.supplyHeld = .up → supply = .up → t.arb.hold = s.arb.hold ∧
        (∀ k : Fin 16, t.lines[k].state = .suspended ↔ s.lines[k].state = .suspended) ∧ flowingFlow t ≤ capacity) ∧
      (supply = .up → s.arb.supplyHeld = .down ∨ s.arb.capacityHeld ≠ capacity → ∃ u : State, t = grantPass u ∧ raised u ∧
        (s.arb.supplyHeld = .down →
          (∀ k : Fin 16, s.lines[k].state ≠ .suspended → u.lines[k] = s.lines[k]) ∧
          (∀ k : Fin 16, s.lines[k].state = .suspended → u.lines[k] =
            if s.lines[k].defn.flow + flowSum s (allLines.filter fun j => ahead j k && u.lines[j].state == .flowing) ≤ capacity
            then { s.lines[k] with
              state := .flowing, draw := s.lines[k].draw.map fun d => { d with suspendedSince := none } }
            else preempted s.lines[k])) ∧
        (s.arb.supplyHeld = .up → u.meters = s.meters ∧
          (∀ k : Fin 16, s.lines[k].state ≠ .flowing → u.lines[k] = s.lines[k]) ∧
          (∀ k : Fin 16, s.lines[k].state = .flowing → u.lines[k] =
            if s.lines[k].defn.flow + flowSum s (allLines.filter fun j => ahead j k && s.lines[j].state == .flowing) ≤ capacity
            then s.lines[k] else preempted s.lines[k])) ∧
        (s.arb.pendingList = priorityOrder s → u.arb.pendingList = priorityOrder u) ∧
        u = { s with
          lines := u.lines, groups := u.groups, meters := u.meters, trains := u.trains
          arb := { s.arb with
            supplyHeld := .up, capacityHeld := capacity
            hold := if s.arb.supplyHeld = .down then none else s.arb.hold
            inService := s.arb.inService.filter fun k => u.lines[k].state != .pending
            pendingList := u.arb.pendingList, preemptedNow := u.arb.preemptedNow } })) ∧
    (∀ (k : Fin 16) (u : State) (giving : Fin 16 → Bool) (room : (Fin 16 → Bool) → Prop),
      s.lines[k].state = .pending → s.lines[k].defn.group = 0 → u = makeRoom k s →
      (∀ i : Fin 16, giving i = true ↔ s.lines[i].state = .flowing ∧ s.lines[i].defn.group ≠ 0) →
      (∀ gone, room gone ↔ s.lines[k].defn.flow + flowSum s (allLines.filter fun i => s.lines[i].state == .flowing && !gone i)
        ≤ s.arb.capacityHeld ∧ (s.arb.inService.filter fun i => !gone i).length < 8) →
      raised u ∧ (roomCanBeMade s k = true ↔ room giving) ∧ (room giving → fits u k = true) ∧
      (∀ j : Fin 16, giving j = false ∨ room (fun i => giving i && ahead j i) → u.lines[j] = s.lines[j]) ∧
      (∀ j : Fin 16, giving j = true → ¬ room (fun i => giving i && ahead j i) → u.lines[j] = preempted s.lines[j]) ∧
      u.arb.inService = s.arb.inService.filter fun i => u.lines[i].state != .pending)

/-- The law of the Draw Arbiter, kept by every step: the pending list, the in-service set and the rotation orders
agree with the lines, at most 8 draws are in service, the nominal flows of the flowing draws fit the grant capacity
held, and no draw flows while supply is DOWN (R80, R91, R92, R93, R96, R117). -/
def Obligations.ArbiterLawIsKept : Prop :=
  ∀ s t : State, ArbiterLaw s → step s = .next t → ArbiterLaw t

/-! ## The Pressure Sets -/

/-- After a change of a set has been settled: the supply state and the grant capacity are those of the duty set and
the reserve, and the Arbiter holds both; the designation moves exactly when the duty set is not usable and the other
is, and then one SET_CHANGEOVER is posted with the cause of the event, and nothing else; the duty set is not left IDLE
while it is usable and there is a duty tank; a set changes only from IDLE to STARTING (R124, R125, R126). The cause
each event gives stands with its command (SetEventsAct, SetRequestsAct). -/
def Obligations.SettledSetsAgree : Prop :=
  ∀ (cause : ChangeoverCause) (s t : State), (s.arb.supplyHeld = .down → s.arb.capacityHeld = 0) →
    t = settleSets cause s →
    (t.sets.supply = .up ↔ t.sets.sets[t.sets.duty].state = .running) ∧
    (t.sets.supply = .up → t.sets.grantCapacity = t.sets.sets[t.sets.duty].defn.capacity - t.sets.settings.reserve) ∧
    (t.sets.supply = .down → t.sets.grantCapacity = 0) ∧
    t.arb.supplyHeld = t.sets.supply ∧ t.arb.capacityHeld = t.sets.grantCapacity ∧
    (t.sets.duty ≠ s.sets.duty ↔
      s.sets.sets[s.sets.duty].usable = false ∧ s.sets.sets[otherSet s.sets.duty].usable = true) ∧
    (s.eval.dutyTank ≠ none → t.sets.sets[t.sets.duty].usable = true → t.sets.sets[t.sets.duty].state ≠ .idle) ∧
    (∀ x : Fin 2, t.sets.sets[x] = s.sets.sets[x] ∨ (x = t.sets.duty ∧ s.sets.sets[x].state = .idle ∧
      s.eval.dutyTank ≠ none ∧
      t.sets.sets[x] = { s.sets.sets[x] with state := .starting, startTimer := ⟨0, s.sets.settings.startProof⟩ })) ∧
    t.sets.settings = s.sets.settings ∧ t.sets.alternationTimer = s.sets.alternationTimer ∧ t.eval = s.eval ∧
    t.tanks = s.tanks ∧ t.power = s.power ∧
    t.link = (if t.sets.duty = s.sets.duty then s else post (.setChangeover t.sets.duty cause s.sets.duty) s).link

/-- The events of the sets: the proof of a start, of the duty set or of a standby in an alternation (R125, R129), the
failure of a start (R125), the loss of proof (R127), and the expiry of the alternation timer (R128, R129). -/
def Obligations.SetEventsAct : Prop :=
  (∀ (x : Fin 2) (s : State), .setProved x ∈ s.due → s.sets.sets[x].state = .starting → s.sets.sets[x].proofClosed = true →
    ∀ u, u = (took (.setProved x) s).modSet x (fun p => { p with state := .running, lossTimer := 0 }) →
    (x = s.sets.duty → exec (.setProved x) s = .next (finish (workOutSupply u))) ∧
    (x ≠ s.sets.duty → ∀ v, v = u.modSet s.sets.duty (fun p =>
        { p with state := .idle, lossTimer := 0 }) →
      exec (.setProved x) s = .next (finish (workOutSupply (post (.setChangeover x .alternation s.sets.duty)
        { v with sets := { v.sets with duty := x } }))))) ∧
  (∀ (x : Fin 2) (s : State), .setStartProofFailed x ∈ s.due → s.sets.sets[x].state = .starting →
    s.sets.sets[x].startTimer.length ≤ s.sets.sets[x].startTimer.count →
    exec (.setStartProofFailed x) s = .next (finish (settleSets .proofFailed
      (post (.setFailed x .startProof s.sets.sets[x].startTimer.count)
        ((took (.setStartProofFailed x) s).modSet x fun p => { p with state := .failed }))))) ∧
  (∀ (x : Fin 2) (s : State), .setProofLost x ∈ s.due → s.sets.sets[x].state = .running →
    s.sets.sets[x].proofClosed = false →
    exec (.setProofLost x) s = .next (finish (settleSets .proofLost
      (post (.setFailed x .proofLost s.sets.sets[x].lossTimer)
        ((took (.setProofLost x) s).modSet x fun p => { p with state := .failed }))))) ∧
  (∀ (s : State) (g : Timer), .alternation ∈ s.due → s.sets.alternationTimer = some g → g.length * 3600 ≤ g.count →
    ∀ u, u = { took .alternation s with sets := { s.sets with
        alternationTimer := if s.sets.settings.alternation = 0 then none else some ⟨0, s.sets.settings.alternation⟩ } } →
    ∀ standby, standby = otherSet s.sets.duty →
    (s.sets.supply = .up → s.sets.sets[standby].state = .idle → 0 < s.sets.sets[standby].defn.capacity →
      ∃ t, exec .alternationExpiry s = .next (finish t) ∧
        t = { u.modSet standby (fun p => { p with state := .starting, startTimer := ⟨0, s.sets.settings.startProof⟩ }) with
              due := t.due }) ∧
    (s.sets.supply = .down ∨ s.sets.sets[standby].state ≠ .idle ∨ s.sets.sets[standby].defn.capacity = 0 →
      exec .alternationExpiry s = .next (finish u)))

/-- The requests to the sets: PRESSURE SET SERVICE (R131), RESET PRESSURE SET (R132) and DEFINE SETS (R133), which
writes every field at one event with its times clamped, settles the sets, and hands the set reserve to the Power
Allowance (R160). The cause of a changeover by DEFINE SETS and the order of its parts are read from R124 and R133 (log
27). -/
def Obligations.SetRequestsAct : Prop :=
  (∀ (ln : LinkLine) (tag : Byte) (x : Fin 2) (s : State), InControl ln s →
    (s.sets.sets[x].state = .offLine → exec (.pressureSetService ln tag (enc1 x.val ++ enc1 0)) s =
      .next (answeredBy ln 0x60 tag (takeLine ln s, ⟨.ok, []⟩))) ∧
    (s.sets.sets[x].state ≠ .offLine → exec (.pressureSetService ln tag (enc1 x.val ++ enc1 0)) s =
      .next (answeredBy ln 0x60 tag (settleSets .service ((takeLine ln s).modSet x fun p =>
        { p with state := .offLine, startTimer := ⟨0, 0⟩, lossTimer := 0 }), ⟨.ok, []⟩))) ∧
    (s.sets.sets[x].state ≠ .offLine → exec (.pressureSetService ln tag (enc1 x.val ++ enc1 1)) s =
      .next (answeredBy ln 0x60 tag (takeLine ln s, ⟨.ok, []⟩))) ∧
    (s.sets.sets[x].state = .offLine → exec (.pressureSetService ln tag (enc1 x.val ++ enc1 1)) s =
      .next (answeredBy ln 0x60 tag (settleSets .recovery ((takeLine ln s).modSet x fun p =>
        { p with state := .idle, startTimer := ⟨0, 0⟩, lossTimer := 0 }), ⟨.ok, []⟩))) ∧
    (s.sets.sets[x].state = .failed → exec (.resetPressureSet ln tag (enc1 x.val)) s =
      .next (answeredBy ln 0x61 tag (settleSets .recovery ((takeLine ln s).modSet x fun p =>
        { p with state := .idle, startTimer := ⟨0, 0⟩, lossTimer := 0 }), ⟨.ok, []⟩))) ∧
    (s.sets.sets[x].state ≠ .failed → exec (.resetPressureSet ln tag (enc1 x.val)) s =
      .next (answeredBy ln 0x61 tag (takeLine ln s, ⟨.wrongState, []⟩)))) ∧
  (∀ (ln : LinkLine) (tag : Byte) (a b : SetDef) (r : SetSettings) (hold : Nat) (s : State), MayDefine ln s →
    a.capacity ≤ 600 → b.capacity ≤ 600 → a.ratedPower ≤ 250 → b.ratedPower ≤ 250 → r.reserve ≤ 600 →
    r.startProof < 256 → r.changeover < 256 → r.alternation < 65536 → hold < 65536 →
    ∀ (active : Fin 2 → Prop), (∀ x, active x ↔ s.sets.sets[x].state = .starting ∨ s.sets.sets[x].state = .running) →
    ((active 0 ∧ a.capacity = 0) ∨ (active 1 ∧ b.capacity = 0) →
      exec (.defineSets ln tag (setsBody a b r hold)) s =
        .next (answeredBy ln 0x2A tag (takeLine ln s, ⟨.busy, []⟩))) ∧
    ((active 0 → 0 < a.capacity) → (active 1 → 0 < b.capacity) →
      ∀ (r' : SetSettings) (u : State),
      r' = { reserve := r.reserve, startProof := max 3 (min 60 r.startProof), changeover := max 2 (min 60 r.changeover),
             alternation := min 336 r.alternation } →
      u = { takeLine ln s with
        sets := { s.sets with
          sets := #v[{ s.sets.sets[(0 : Fin 2)] with defn := a }, { s.sets.sets[(1 : Fin 2)] with defn := b }]
          settings := r'
          alternationTimer := if s.sets.alternationTimer = none ∧ 0 < r'.alternation then some ⟨0, r'.alternation⟩
            else s.sets.alternationTimer }
        arb := { s.arb with supplyLossHold := max 5 (min 300 hold) } } →
      exec (.defineSets ln tag (setsBody a b r hold)) s = .next (answeredBy ln 0x2A tag
        (allowanceChanged .setReserve (effectiveAllowance s)
            (settleSets (if s.sets.sets[s.sets.duty].usable = true then .service else .recovery) u),
          ⟨acceptedAs (3 ≤ r.startProof && r.startProof ≤ 60 && 2 ≤ r.changeover && r.changeover ≤ 60 &&
            r.alternation ≤ 336 && 5 ≤ hold && hold ≤ 300), []⟩))))

/-- At most one set is RUNNING and it is the duty set, an active set has a capacity, and the supply state and grant
capacity are those of the duty set and are held by the Arbiter: every step keeps it (R125, R126). At most one train is
in PRIMING or RAMPING (R147); the committed load never exceeds the effective allowance, the holders are the running
trains and the pump of a running transfer, each once, and the start order names every train (R158, R159): every step
keeps both laws. -/
def Obligations.SetsStartAndPowerLawsAreKept : Prop :=
  (∀ s t : State, SetsLaw s → step s = .next t → SetsLaw t) ∧
  (∀ s t : State, step s = .next t → (StartLaw s → StartLaw t) ∧ (PowerLaw s → PowerLaw t))

/-! ## The Watermaker Trains -/

/-- The timers of the trains: the prime and the ramp timer move the train on and free the start slot (R138, R140,
R148), the divert max timer stops it QUALITY (R140), the product stall timer stops it NO_PRODUCT (R141), the run timer
at min run brings the stop check (R149), a tick in FLUSH_WAIT brings a flush request (R144), the flush wait timer
faults the train UNFLUSHED with its notice (R144, R146), and the rest timer ends its rest (R146). The product stall
timer 0 of 0 at the entry to DIVERTING and the flush wait timer 0 of 0 at the entry to FAULT are the reading of log
28. -/
def Obligations.TrainTimersAct : Prop :=
  ∀ (n : Fin 3) (s : State),
    (∀ g, .prime n ∈ s.due → s.trains[n].state = .priming → s.trains[n].stage = some g → g.length ≤ g.count →
      exec (.primeTimerExpiry n) s = .next (finish (startCheck ((took (.prime n) s).modTrain n fun w =>
        { w with state := .ramping, stage := some ⟨0, w.defn.rampTime⟩ })))) ∧
    (∀ g, .ramp n ∈ s.due → s.trains[n].state = .ramping → s.trains[n].stage = some g → g.length ≤ g.count →
      exec (.rampTimerExpiry n) s = .next (finish (startCheck ((took (.ramp n) s).modTrain n fun w =>
        { w with state := .diverting, stage := some ⟨0, w.defn.divertMax⟩, qualification := ⟨0, w.defn.qualificationHold⟩,
                 stall := ⟨0, 0⟩ })))) ∧
    (∀ g, .divertMax n ∈ s.due → s.trains[n].state = .diverting → s.trains[n].stage = some g → g.length ≤ g.count →
      exec (.divertMaxExpiry n) s = .next (finish (haltTrain n .quality (took (.divertMax n) s)))) ∧
    (.productStall n ∈ s.due → s.trains[n].state = .producing → s.trains[n].stall.length ≤ s.trains[n].stall.count →
      exec (.productStallExpiry n) s = .next (finish (haltTrain n .noProduct (took (.productStall n) s)))) ∧
    (.minRun n ∈ s.due → s.trains[n].mode = .auto → s.trains[n].state = .producing →
      s.trains[n].defn.minRun ≤ s.trains[n].runTimer →
      exec (.minRunExpiry n) s = .next (finish (stopCheck (took (.minRun n) s)))) ∧
    (.flushRequest n ∈ s.due → s.trains[n].state = .flushWait → s.trains[n].flushPlaced = false →
      exec (.flushRequest n) s = .next (finish (askFlush n (took (.flushRequest n) s)))) ∧
    (.flushWait n ∈ s.due → s.trains[n].state = .flushWait → s.trains[n].flushWait.length ≤ s.trains[n].flushWait.count →
      exec (.flushWaitExpiry n) s = .next (finish (startCheck (post (.trainFault n .unflushed s.trains[n].flushRemaining)
        ((took (.flushWait n) s).modTrain n fun w =>
          { w with state := .fault, faultCause := some .unflushed, flushWait := ⟨0, 0⟩ }))))) ∧
    (∀ g, .rest n ∈ s.due → s.trains[n].rest = some g → g.length ≤ g.count →
      exec (.restTimerExpiry n) s = .next (finish (startCheck ((took (.rest n) s).modTrain n fun w =>
        { w with rest := none }))))

/-- The requests to the trains: TRAIN MODE (R151), START TRAIN with its refusals (R147, R152), STOP TRAIN and FLUSH
TRAIN (R153), RESET TRAIN (R154) and SET WATERS (R150). FLUSH TRAIN from FAULT keeps the fault cause (the model's
reading, log 25). That TRAIN MODE to the mode already held makes no check is read from R151 (log 36). That FLUSH TRAIN
looks at the rated power before the state is read from the order in which R153 names its checks (log 39). -/
def Obligations.TrainRequestsAct : Prop :=
  ∀ (ln : LinkLine) (tag : Byte) (n : Fin 3) (s : State), InControl ln s →
    (∀ (mode : TrainMode) (u : State), u = (takeLine ln s).modTrain n (fun w => { w with mode := mode }) →
      (s.trains[n].mode = mode → mode ≠ .disabled ∨ s.trains[n].state.running = false →
        exec (.trainMode ln tag (enc1 n.val ++ enc1 mode.code)) s =
          .next (answeredBy ln 0x50 tag (takeLine ln s, ⟨.ok, []⟩))) ∧
      (s.trains[n].mode ≠ mode → mode ≠ .disabled ∨ s.trains[n].state.running = false →
        exec (.trainMode ln tag (enc1 n.val ++ enc1 mode.code)) s =
          .next (answeredBy ln 0x50 tag (stopCheck (startCheck u), ⟨.ok, []⟩))) ∧
      (s.trains[n].mode ≠ mode → mode = .disabled → s.trains[n].state.running = true →
        exec (.trainMode ln tag (enc1 n.val ++ enc1 mode.code)) s =
          .next (answeredBy ln 0x50 tag (stopCheck (startCheck (haltTrain n .modeDisabled u)), ⟨.ok, []⟩)))) ∧
    (∀ (named may headroom : Prop), (named ↔ 0 < s.trains[n].defn.ratedPower) →
      (may ↔ s.trains[n].mode ≠ .disabled ∧ s.trains[n].state = .off ∧ s.trains[n].rest = none ∧ ∀ m, ¬ Starting s m) →
      (headroom ↔ committedLoad s + s.trains[n].defn.ratedPower ≤ effectiveAllowance s) →
      ∀ answers : State × Reply → Prop,
      (∀ a, answers a ↔ exec (.startTrain ln tag (enc1 n.val)) s = .next (answeredBy ln 0x51 tag a)) →
      (¬ named → answers (takeLine ln s, ⟨.notConfigured, []⟩)) ∧
      (named → ¬ may → answers (takeLine ln s, ⟨.wrongState, []⟩)) ∧
      (named → may → s.waters = .restricted → answers (takeLine ln s, ⟨.restricted, []⟩)) ∧
      (named → may → s.waters = .opened → ¬ headroom → answers (takeLine ln s, ⟨.noPower, []⟩)) ∧
      (named → may → s.waters = .opened → headroom → s.eval.fillCandidates = [] →
        answers (takeLine ln s, ⟨.none, []⟩)) ∧
      (named → may → s.waters = .opened → headroom → s.eval.fillCandidates ≠ [] →
        answers ({ (takeLine ln s).modTrain n (fun w =>
            { w with state := .priming, stopCause := none, retry := false, runTimer := 0, startedAt := s.now,
                     stage := some ⟨0, w.defn.primeTime⟩ }) with
          power := { s.power with holders := s.power.holders ++ [.train n] }
          startOrder := s.startOrder.filter (· != n) ++ [n] }, ⟨.ok, []⟩))) ∧
    (s.trains[n].state.running = true → exec (.stopTrain ln tag (enc1 n.val)) s =
      .next (answeredBy ln 0x52 tag (haltTrain n .hostStop (takeLine ln s), ⟨.ok, []⟩))) ∧
    (s.trains[n].state.running = false → exec (.stopTrain ln tag (enc1 n.val)) s =
      .next (answeredBy ln 0x52 tag (takeLine ln s, ⟨.wrongState, []⟩))) ∧
    (s.trains[n].defn.ratedPower = 0 → exec (.flushTrain ln tag (enc1 n.val)) s =
      .next (answeredBy ln 0x53 tag (takeLine ln s, ⟨.notConfigured, []⟩))) ∧
    (0 < s.trains[n].defn.ratedPower →
      (s.trains[n].state = .off → exec (.flushTrain ln tag (enc1 n.val)) s = .next (answeredBy ln 0x53 tag
        (askFlush n ((takeLine ln s).modTrain n fun w =>
          { w with state := .flushWait, stopCause := some .manualFlush, faultCause := none, retry := false,
                   flushRemaining := w.defn.flushVolume, flushPlaced := false,
                   flushWait := ⟨0, w.defn.flushWaitMax⟩ }), ⟨.ok, []⟩))) ∧
      (s.trains[n].state = .fault → s.trains[n].faultCause = some .unflushed →
        exec (.flushTrain ln tag (enc1 n.val)) s = .next (answeredBy ln 0x53 tag
          (askFlush n ((takeLine ln s).modTrain n fun w =>
            { w with state := .flushWait, retry := true, flushWait := ⟨0, w.defn.flushWaitMax⟩,
                     flushRemaining := if w.flushRemaining = 0 then w.defn.flushVolume else w.flushRemaining }),
            ⟨.ok, []⟩))) ∧
      (s.trains[n].state ≠ .off → (s.trains[n].state = .fault → s.trains[n].faultCause ≠ some .unflushed) →
        exec (.flushTrain ln tag (enc1 n.val)) s =
          .next (answeredBy ln 0x53 tag (takeLine ln s, ⟨.wrongState, []⟩)))) ∧
    (s.trains[n].state = .fault → s.trains[n].flushPlaced = false → exec (.resetTrain ln tag (enc1 n.val)) s =
      .next (answeredBy ln 0x54 tag (startCheck ((takeLine ln s).modTrain n fun w =>
        { w with state := .off, faultCause := none, stopCause := none, retry := false,
                 rest := if w.defn.minRest = 0 then none else some ⟨0, w.defn.minRest⟩ }), ⟨.ok, []⟩))) ∧
    (s.trains[n].state ≠ .fault ∨ s.trains[n].flushPlaced = true → exec (.resetTrain ln tag (enc1 n.val)) s =
      .next (answeredBy ln 0x54 tag (takeLine ln s, ⟨.wrongState, []⟩))) ∧
    (∀ (w : Waters), (s.waters = w → exec (.setWaters ln tag (enc1 w.code)) s =
        .next (answeredBy ln 0x55 tag (takeLine ln s, ⟨.ok, []⟩))) ∧
      (s.waters ≠ w → w = .opened → exec (.setWaters ln tag (enc1 w.code)) s =
        .next (answeredBy ln 0x55 tag (startCheck { takeLine ln s with waters := .opened }, ⟨.ok, []⟩))) ∧
      (s.waters ≠ w → w = .restricted → exec (.setWaters ln tag (enc1 w.code)) s =
        .next (answeredBy ln 0x55 tag (([0, 1, 2] : List (Fin 3)).foldl
          (fun u m => if u.trains[m].state.running = true then haltTrain m .restricted u else u)
          { takeLine ln s with waters := .restricted }, ⟨.ok, []⟩))))

/-- DEFINE TRAIN on a train in OFF or FAULT with no flush placed writes every field with its times clamped; a rated
power of 0 takes a train in FAULT to OFF; the start check follows (R148, R155). In another state it is refused BUSY.
-/
def Obligations.DefineTrainWritesTheDefinition : Prop :=
  ∀ (ln : LinkLine) (tag : Byte) (n : Fin 3) (d d' : TrainDef) (s : State), MayDefine ln s →
    d.ratedPower ≤ 80 → 50 ≤ d.salinityLimit → d.salinityLimit ≤ 2000 → 20 ≤ d.flushVolume → d.flushVolume ≤ 1000 →
    (∀ x ∈ trainTimes d, x < 65536) →
    d' = { d with
      primeTime := max 10 (min 600 d.primeTime), rampTime := max 10 (min 300 d.rampTime)
      qualificationHold := max 10 (min 900 d.qualificationHold), divertMax := max 60 (min 3600 d.divertMax)
      flushWaitMax := max 30 (min 900 d.flushWaitMax), minRun := min 7200 d.minRun, minRest := min 3600 d.minRest
      productStall := max 10 (min 300 d.productStall) } →
    ((s.trains[n].state ≠ .off ∧ s.trains[n].state ≠ .fault) ∨ s.trains[n].flushPlaced = true →
      exec (.defineTrain ln tag (trainBody n d)) s = .next (answeredBy ln 0x29 tag (takeLine ln s, ⟨.busy, []⟩))) ∧
    (s.trains[n].state = .off ∨ s.trains[n].state = .fault → s.trains[n].flushPlaced = false →
      exec (.defineTrain ln tag (trainBody n d)) s = .next (answeredBy ln 0x29 tag
        (startCheck ((takeLine ln s).modTrain n fun w =>
          if d.ratedPower = 0 ∧ w.state = .fault then
            { w with defn := d', state := .off, stopCause := none, faultCause := none, rest := none, retry := false }
          else { w with defn := d' }), ⟨acceptedAs (decide (d' = d)), []⟩)))

/-- The stop of a train (R143): its cause, the target given up, the timers abandoned, the headroom released,
FLUSH_WAIT with the flush volume, the flush request, and then the start check. The flush request (R90, R144): with the
flush line defined with the train's FLUSH source and IDLE, the flush is placed and the line becomes PENDING with the
remaining litres up to its max batch, and a pass runs; otherwise nothing changes. That the abandoned timers then stand
at 0 with length 0, or are absent, is the reading of log 28; a request placed for 0 litres remaining is that of log
30. -/
def Obligations.StoppingATrain : Prop :=
  (∀ (n : Fin 3) (cause : StopCause) (s u v : State),
    (∀ t, s.trains[n].target = some t → v = s.modTank t fun k => { k with fillTrains := k.fillTrains.filter (· != n) }) →
    (s.trains[n].target = none → v = s) →
    u = { v.modTrain n (fun w => { w with
        state := .flushWait, stopCause := some cause, faultCause := none, target := none, producingSince := none
        stage := none, qualification := ⟨0, 0⟩, stall := ⟨0, 0⟩, flushRemaining := w.defn.flushVolume
        flushPlaced := false, flushWait := ⟨0, w.defn.flushWaitMax⟩ }) with
      power := { s.power with holders := s.power.holders.filter (· != .train n) } } →
    haltTrain n cause s = startCheck (askFlush n u)) ∧
  (∀ (n : Fin 3) (k : Fin 16) (s : State), s.trains[n].state = .flushWait → s.trains[n].flushPlaced = false →
    k = s.trains[n].defn.flushLine →
    (s.lines[k].defined = true → s.lines[k].defn.source = .flush n → s.lines[k].state = .idle →
      askFlush n s = grantPass (refreshPending ((s.modTrain n fun w => { w with flushPlaced := true }).modLine k fun l =>
        { l with
          state := .pending
          draw := some { requested := some (min s.trains[n].flushRemaining s.lines[k].defn.maxBatch), delivered := 0,
                         origin := .flush n, wait := 0, aged := false, grantSequence := none, duration := 0, stall := 0,
                         suspendedSince := none } }))) ∧
    (¬(s.lines[k].defined = true ∧ s.lines[k].defn.source = .flush n ∧ s.lines[k].state = .idle) → askFlush n s = s))

/-- The end of a flush draw at its train (R145, R146): a flush that is finished leaves the train in FAULT with its
notice, or in OFF at rest; a remainder, a loss of supply or the host's end brings a retry; a timed-out or stalled
flush faults the train UNFLUSHED; in FAULT a cancelled flush only leaves its remainder. A retry when nothing remains
after SUPPLY_LOST, ENDED or CANCELLED is the reading of log 30, and the flush wait timer 0 of 0 in FAULT and OFF that
of log 28. -/
def Obligations.FlushEndsAtItsTrain : Prop :=
  ∀ (n : Fin 3) (cause : EndCause) (delivered remainder : Nat) (s : State),
    remainder = s.trains[n].flushRemaining - delivered →
    (s.trains[n].state = .flushing → cause = .complete → remainder = 0 →
      (∀ c, (if s.trains[n].retry = true then some FaultCause.unflushed
          else if s.trains[n].stopCause = some .quality then some .quality
          else if s.trains[n].stopCause = some .noProduct then some .noProduct else none) = some c →
        flushEnded cause delivered n s = startCheck (post (.trainFault n c 0) (s.modTrain n fun w =>
          { w with state := .fault, faultCause := some c, flushRemaining := 0, flushPlaced := false,
                   flushWait := ⟨0, 0⟩ }))) ∧
      (s.trains[n].retry = false → s.trains[n].stopCause ≠ some .quality → s.trains[n].stopCause ≠ some .noProduct →
        flushEnded cause delivered n s = startCheck (s.modTrain n fun w =>
          { w with state := .off, flushRemaining := 0, flushPlaced := false,
                   rest := if w.defn.minRest = 0 then none else some ⟨0, w.defn.minRest⟩ }))) ∧
    ((s.trains[n].state = .flushing ∧ ((cause = .complete ∧ 0 < remainder) ∨ cause = .supplyLost ∨ cause = .ended ∨
        cause = .cancelled)) ∨ (s.trains[n].state = .flushWait ∧ (cause = .supplyLost ∨ cause = .ended ∨
        cause = .cancelled)) →
      flushEnded cause delivered n s = askFlush n (s.modTrain n fun w =>
        { w with state := .flushWait, flushRemaining := remainder, flushPlaced := false,
                 flushWait := ⟨0, w.defn.flushWaitMax⟩ })) ∧
    (s.trains[n].state = .flushing → cause = .timedOut ∨ cause = .stalled →
      flushEnded cause delivered n s = startCheck (post (.trainFault n .unflushed remainder) (s.modTrain n fun w =>
        { w with state := .fault, faultCause := some .unflushed, flushRemaining := remainder, flushPlaced := false,
                 flushWait := ⟨0, 0⟩ }))) ∧
    (s.trains[n].state = .fault → cause = .cancelled →
      flushEnded cause delivered n s = s.modTrain n fun w =>
        { w with flushRemaining := remainder, flushPlaced := false })

/-- The automatic start check considers the first train in the start order that may start, and starts it or none
(R147, R148). The automatic stop check, while the call count is below the AUTO trains running, stops the qualifying
train that has produced longest, the lower index on a tie, and looks again (R149). -/
def Obligations.TrainChecksStartAndStop : Prop :=
  (∀ s : State, (s.eval.callCount ≤ autoRunning s ∨ ∃ n, Starting s n) → startCheck s = s) ∧
  (∀ (s : State) (ok : Fin 3 → Prop), autoRunning s < s.eval.callCount → (∀ n, ¬ Starting s n) →
    (∀ n, ok n ↔ s.trains[n].state = .off ∧ s.trains[n].mode = .auto ∧ s.trains[n].rest = none ∧
      0 < s.trains[n].defn.ratedPower) →
    ((∀ n ∈ s.startOrder, ¬ ok n) → startCheck s = s) ∧
    (∀ (n : Fin 3) (before after : List (Fin 3)), s.startOrder = before ++ n :: after → (∀ m ∈ before, ¬ ok m) → ok n →
      (s.waters = .restricted ∨ s.eval.fillCandidates = [] ∨
        effectiveAllowance s < committedLoad s + s.trains[n].defn.ratedPower → startCheck s = s) ∧
      (s.waters = .opened → s.eval.fillCandidates ≠ [] →
        committedLoad s + s.trains[n].defn.ratedPower ≤ effectiveAllowance s →
        startCheck s = { s.modTrain n (fun w =>
            { w with state := .priming, stopCause := none, retry := false, runTimer := 0, startedAt := s.now,
                     stage := some ⟨0, w.defn.primeTime⟩ }) with
          power := { s.power with holders := s.power.holders ++ [.train n] }
          startOrder := s.startOrder.filter (· != n) ++ [n] }))) ∧
  (∀ (s : State) (ok : Fin 3 → Prop), (∀ n, ok n ↔ s.trains[n].mode = .auto ∧ s.trains[n].state = .producing ∧
      s.trains[n].defn.minRun ≤ s.trains[n].runTimer) →
    (autoRunning s ≤ s.eval.callCount ∨ (∀ n, ¬ ok n) → stopCheck s = s) ∧
    (∀ n, s.eval.callCount < autoRunning s → ok n →
      (∀ m, ok m → m ≠ n → producingFor s m < producingFor s n ∨ producingFor s m = producingFor s n ∧ n < m) →
      stopCheck s = stopCheck (haltTrain n .callDropped s)))

/-- The law of the fill targets, kept by every step: a tank's fill-target list holds the trains whose target it is,
each once, a train has a target exactly while it is PRODUCING, the fill candidates are the IN_SERVICE tanks that are
not FULL, and every target is one of them (R15, R59, R72, R141, R142). -/
def Obligations.FillLawIsKept : Prop :=
  ∀ s t : State, FillLaw s → step s = .next t → FillLaw t

/-! ## Transfers, shore filling and the Power Allowance -/

/-- The requests of the Transfer and Shore Unit and TRANSFER_STALLED: START TRANSFER (R164), STOP TRANSFER (R166),
START SHORE FILL (R168), STOP SHORE FILL (R169) and the stall of a transfer (R165). The end of a transfer (R166) and
of a shore fill (R169): the roles, the holder, the last end, the notice, and for a transfer the start check of the
trains. -/
def Obligations.TransferRequestsAct : Prop :=
  ((∀ (ln : LinkLine) (tag : Byte) (src dst : Fin 12) (litres : Nat) (s : State) (answers : State × Reply → Prop),
     InControl ln s → litres < 65536 →
     (∀ a, answers a ↔
       exec (.startTransfer ln tag (enc1 src.val ++ enc1 dst.val ++ enc2 litres)) s = .next (answeredBy ln 0x5A tag a)) →
     (src = dst ∨ litres = 0 ∨ 60000 < litres → answers (takeLine ln s, ⟨.badValue, []⟩)) ∧
     (src ≠ dst → 1 ≤ litres → litres ≤ 60000 →
       (s.transfer.pump.ratedPower = 0 → answers (takeLine ln s, ⟨.notConfigured, []⟩)) ∧
       (0 < s.transfer.pump.ratedPower →
         (s.transfer.run ≠ none → answers (takeLine ln s, ⟨.busy, []⟩)) ∧
         (s.transfer.run = none → ∀ tanks : Prop,
           (tanks ↔ s.tanks[src].state = .inService ∧ s.tanks[dst].state = .inService ∧
             s.tanks[src].defn.lowMark < s.tanks[src].trusted ∧ s.tanks[dst].fillMeasure < s.tanks[dst].defn.fillStop) →
           (¬ tanks → answers (takeLine ln s, ⟨.wrongState, []⟩)) ∧
           (tanks → effectiveAllowance s < committedLoad s + s.transfer.pump.ratedPower →
             answers (takeLine ln s, ⟨.noPower, []⟩)) ∧
           (tanks → committedLoad s + s.transfer.pump.ratedPower ≤ effectiveAllowance s →
             answers (activateRole .transfer
               ({ takeLine ln s with
                   transfer := { s.transfer with run := some ⟨.host, src, dst, litres⟩, moved := 0,
                                                 stall := ⟨0, s.transfer.pump.stallTime⟩ }
                   power := { s.power with holders := s.power.holders ++ [.pump] }
                   tanks := upd (upd s.tanks src fun k => { k with transferRole := .source }) dst fun k =>
                     { k with transferRole := .dest } }), ⟨.ok, []⟩)))))) ∧
   (∀ (ln : LinkLine) (tag : Byte) (t : Fin 12) (litres : Nat) (s : State) (answers : State × Reply → Prop),
     InControl ln s → litres < 65536 →
     (∀ a, answers a ↔
       exec (.startShoreFill ln tag (enc1 t.val ++ enc2 litres)) s = .next (answeredBy ln 0x5C tag a)) →
     (60000 < litres → answers (takeLine ln s, ⟨.badValue, []⟩)) ∧
     (litres ≤ 60000 →
       (s.shore.run ≠ none → answers (takeLine ln s, ⟨.busy, []⟩)) ∧
       (s.shore.run = none →
         (s.tanks[t].state = .unconfigured → answers (takeLine ln s, ⟨.notConfigured, []⟩)) ∧
         (s.tanks[t].state = .unknown ∨ s.tanks[t].state = .isolated ∨
           (s.tanks[t].state ≠ .unconfigured ∧ s.tanks[t].defn.fillStop ≤ s.tanks[t].fillMeasure) →
           answers (takeLine ln s, ⟨.wrongState, []⟩)) ∧
         (s.tanks[t].state = .inService ∨ s.tanks[t].state = .quarantine →
           s.tanks[t].fillMeasure < s.tanks[t].defn.fillStop →
           answers (activateRole .shore ({ takeLine ln s with
             shore := { s.shore with run := some ⟨t, litres⟩, filled := 0 }
             tanks := upd s.tanks t fun k => { k with shoreTarget := true } }), ⟨.ok, []⟩))))) ∧
   (∀ (ln : LinkLine) (tag : Byte) (s : State), InControl ln s →
     (s.transfer.run = none → exec (.stopTransfer ln tag []) s =
       .next (answeredBy ln 0x5B tag (takeLine ln s, ⟨.wrongState, []⟩))) ∧
     (s.transfer.run ≠ none → exec (.stopTransfer ln tag []) s = .next (answeredBy ln 0x5B tag
       (endTransfer .stopped (takeLine ln s), ⟨.ok, encSigned4 s.transfer.moved⟩))) ∧
     (s.shore.run = none → exec (.stopShoreFill ln tag []) s =
       .next (answeredBy ln 0x5D tag (takeLine ln s, ⟨.wrongState, []⟩))) ∧
     (s.shore.run ≠ none → exec (.stopShoreFill ln tag []) s = .next (answeredBy ln 0x5D tag
       (endShore .stopped (takeLine ln s), ⟨.ok, encSigned4 s.shore.filled⟩)))) ∧
   (∀ s : State, .transferStall ∈ s.due → s.transfer.run ≠ none → s.transfer.stall.length ≤ s.transfer.stall.count →
     exec .transferStalled s = .next (finish (endTransfer .stalled (took .transferStall s))))) ∧
  ((∀ (cause : TransferCause) (r : TransferRun) (s : State), s.transfer.run = some r →
     endTransfer cause s = startCheck (post (.transferEnded r.source cause s.transfer.moved)
       { s with
         tanks := upd (upd s.tanks r.source fun k => { k with transferRole := .none }) r.dest fun k =>
           { k with transferRole := .none }
         power := { s.power with holders := s.power.holders.filter (· != .pump) }
         transfer := { s.transfer with run := none, lastEnd := some ⟨cause, r.source, r.dest, s.transfer.moved⟩ } })) ∧
   (∀ (cause : ShoreCause) (r : ShoreRun) (s : State), s.shore.run = some r →
     endShore cause s = post (.shoreEnded r.target cause s.shore.filled)
       { s with
         tanks := upd s.tanks r.target fun k => { k with shoreTarget := false }
         shore := { run := none, filled := s.shore.filled, lastEnd := some ⟨cause, r.target, s.shore.filled⟩ } }))

/-- SET ALLOWANCE (R160), and what a new effective allowance brings: a load above it is shed until it fits, the
transfer first and then the running train latest in the start order, each with its SHED notice before what its end
brings, and the rest is judged again (R161); otherwise a rise is handed to the trains and anything else changes
nothing (R159). The premise is the part of the power law that a lowered allowance leaves (R158). -/
def Obligations.AllowanceIsTakenAndShed : Prop :=
  (∀ (ln : LinkLine) (tag : Byte) (n a : Nat) (s t : State), InControl ln s → n < 65536 → a = min n 1000 →
    t = allowanceChanged .allowance (effectiveAllowance s)
      { takeLine ln s with power := { s.power with allowance := a } } →
    exec (.setAllowance ln tag (enc2 n)) s = .next (answeredBy ln 0x59 tag
      (t, ⟨acceptedAs (n ≤ 1000), enc2 a ++ enc2 (effectiveAllowance t) ++ enc2 (committedLoad t)⟩))) ∧
  (∀ (cause : ShedCause) (old : Nat) (u t : State), u.power.holders.Nodup →
    (∀ n : Fin 3, Holder.train n ∈ u.power.holders ↔ u.trains[n].state.running = true) →
    (Holder.pump ∈ u.power.holders ↔ u.transfer.run.isSome = true) → (∀ n : Fin 3, n ∈ u.startOrder) →
    t = allowanceChanged cause old u →
    committedLoad t ≤ effectiveAllowance t ∧ effectiveAllowance t = effectiveAllowance u ∧
    (committedLoad u ≤ effectiveAllowance u → effectiveAllowance u ≤ old → t = u) ∧
    (committedLoad u ≤ effectiveAllowance u → old < effectiveAllowance u → t = startCheck u) ∧
    (effectiveAllowance u < committedLoad u → t.transfer.run = none ∧
      ∀ r, u.transfer.run = some r → t.transfer.lastEnd = some ⟨.shed, r.source, r.dest, u.transfer.moved⟩) ∧
    (effectiveAllowance u < committedLoad u → ∀ e : Nat, e = effectiveAllowance u →
      (u.transfer.run ≠ none → t = allowanceChanged cause e (endTransfer .shed (post (.shed .pump cause e) u))) ∧
      (u.transfer.run = none → ∀ (n : Fin 3) (before after : List (Fin 3)), u.startOrder = before ++ n :: after →
        u.trains[n].state.running = true → (∀ m ∈ after, u.trains[m].state.running = false) →
        t = allowanceChanged cause e (haltTrain n .shed (post (.shed (.train n) cause e) u)))))
end

