-- ==== Sys2Proof/Laws/State.lean ====
section
/-!
SUPPORT. One lemma for each field of the state under each update of one record, and reading back an updated vector, so that
no proof unfolds a record update.
-/

namespace Sys2Proof.Machine

/-! ### Vectors -/

@[simp] theorem upd_get_same {α : Type} {n : Nat} (v : Vector α n) (i : Fin n) (f : α → α) : (upd v i f)[i] = f v[i] := by
  simp [upd]

theorem upd_get {α : Type} {n : Nat} (v : Vector α n) (i j : Fin n) (f : α → α) :
    (upd v i f)[j] = if j = i then f v[i] else v[j] := by
  by_cases h : j = i
  · subst h; simp [upd]
  · have : i.val ≠ j.val := fun e => h (Fin.ext e.symm)
    simp [upd, h, this]

theorem upd_get_ne {α : Type} {n : Nat} (v : Vector α n) {i j : Fin n} (f : α → α) (h : j ≠ i) : (upd v i f)[j] = v[j] := by
  rw [upd_get, if_neg h]

@[simp] theorem updAll_get {α β : Type} {n : Nat} (v : Vector α n) (i : Fin n) (f : Fin n → α → β) :
    (updAll v f)[i] = f i v[i] := by
  simp [updAll]

theorem vector_ext {α : Type} {n : Nat} {v w : Vector α n} (h : ∀ i : Fin n, v[i] = w[i]) : v = w :=
  Vector.ext fun i hi => h ⟨i, hi⟩

@[simp] theorem upd_id {α : Type} {n : Nat} (v : Vector α n) (i : Fin n) : (upd v i fun x => x) = v := by
  apply vector_ext; intro j; rw [upd_get]; split
  · subst_vars; rfl
  · rfl

@[simp] theorem upd_upd {α : Type} {n : Nat} (v : Vector α n) (i : Fin n) (f g : α → α) :
    upd (upd v i f) i g = upd v i fun x => g (f x) := by
  apply vector_ext; intro j; simp only [upd_get]; split <;> simp

theorem upd_congr {α : Type} {n : Nat} (v : Vector α n) (i : Fin n) {f g : α → α} (h : f v[i] = g v[i]) :
    upd v i f = upd v i g := by
  simp only [upd, h]

/-! ### modTank -/

@[simp] theorem modTank_tanks (s : State) (t : Fin 12) (f : Tank → Tank) : (s.modTank t f).tanks = upd s.tanks t f := rfl
@[simp] theorem modTank_now (s : State) (t : Fin 12) (f : Tank → Tank) : (s.modTank t f).now = s.now := rfl
@[simp] theorem modTank_meters (s : State) (t : Fin 12) (f : Tank → Tank) : (s.modTank t f).meters = s.meters := rfl
@[simp] theorem modTank_strayTotal (s : State) (t : Fin 12) (f : Tank → Tank) : (s.modTank t f).strayTotal = s.strayTotal := rfl
@[simp] theorem modTank_inputs (s : State) (t : Fin 12) (f : Tank → Tank) : (s.modTank t f).inputs = s.inputs := rfl
@[simp] theorem modTank_eval (s : State) (t : Fin 12) (f : Tank → Tank) : (s.modTank t f).eval = s.eval := rfl
@[simp] theorem modTank_lines (s : State) (t : Fin 12) (f : Tank → Tank) : (s.modTank t f).lines = s.lines := rfl
@[simp] theorem modTank_groups (s : State) (t : Fin 12) (f : Tank → Tank) : (s.modTank t f).groups = s.groups := rfl
@[simp] theorem modTank_arb (s : State) (t : Fin 12) (f : Tank → Tank) : (s.modTank t f).arb = s.arb := rfl
@[simp] theorem modTank_sets (s : State) (t : Fin 12) (f : Tank → Tank) : (s.modTank t f).sets = s.sets := rfl
@[simp] theorem modTank_trains (s : State) (t : Fin 12) (f : Tank → Tank) : (s.modTank t f).trains = s.trains := rfl
@[simp] theorem modTank_waters (s : State) (t : Fin 12) (f : Tank → Tank) : (s.modTank t f).waters = s.waters := rfl
@[simp] theorem modTank_startOrder (s : State) (t : Fin 12) (f : Tank → Tank) : (s.modTank t f).startOrder = s.startOrder := rfl
@[simp] theorem modTank_transfer (s : State) (t : Fin 12) (f : Tank → Tank) : (s.modTank t f).transfer = s.transfer := rfl
@[simp] theorem modTank_shore (s : State) (t : Fin 12) (f : Tank → Tank) : (s.modTank t f).shore = s.shore := rfl
@[simp] theorem modTank_power (s : State) (t : Fin 12) (f : Tank → Tank) : (s.modTank t f).power = s.power := rfl
@[simp] theorem modTank_link (s : State) (t : Fin 12) (f : Tank → Tank) : (s.modTank t f).link = s.link := rfl
@[simp] theorem modTank_out (s : State) (t : Fin 12) (f : Tank → Tank) : (s.modTank t f).out = s.out := rfl
@[simp] theorem modTank_due (s : State) (t : Fin 12) (f : Tank → Tank) : (s.modTank t f).due = s.due := rfl
@[simp] theorem modTank_choices (s : State) (t : Fin 12) (f : Tank → Tank) : (s.modTank t f).choices = s.choices := rfl
@[simp] theorem modTank_pending (s : State) (t : Fin 12) (f : Tank → Tank) : (s.modTank t f).pending = s.pending := rfl

/-! ### modMeter -/

@[simp] theorem modMeter_meters (s : State) (m : Fin 24) (f : Meter → Meter) : (s.modMeter m f).meters = upd s.meters m f := rfl
@[simp] theorem modMeter_now (s : State) (m : Fin 24) (f : Meter → Meter) : (s.modMeter m f).now = s.now := rfl
@[simp] theorem modMeter_tanks (s : State) (m : Fin 24) (f : Meter → Meter) : (s.modMeter m f).tanks = s.tanks := rfl
@[simp] theorem modMeter_strayTotal (s : State) (m : Fin 24) (f : Meter → Meter) : (s.modMeter m f).strayTotal = s.strayTotal := rfl
@[simp] theorem modMeter_inputs (s : State) (m : Fin 24) (f : Meter → Meter) : (s.modMeter m f).inputs = s.inputs := rfl
@[simp] theorem modMeter_eval (s : State) (m : Fin 24) (f : Meter → Meter) : (s.modMeter m f).eval = s.eval := rfl
@[simp] theorem modMeter_lines (s : State) (m : Fin 24) (f : Meter → Meter) : (s.modMeter m f).lines = s.lines := rfl
@[simp] theorem modMeter_groups (s : State) (m : Fin 24) (f : Meter → Meter) : (s.modMeter m f).groups = s.groups := rfl
@[simp] theorem modMeter_arb (s : State) (m : Fin 24) (f : Meter → Meter) : (s.modMeter m f).arb = s.arb := rfl
@[simp] theorem modMeter_sets (s : State) (m : Fin 24) (f : Meter → Meter) : (s.modMeter m f).sets = s.sets := rfl
@[simp] theorem modMeter_trains (s : State) (m : Fin 24) (f : Meter → Meter) : (s.modMeter m f).trains = s.trains := rfl
@[simp] theorem modMeter_waters (s : State) (m : Fin 24) (f : Meter → Meter) : (s.modMeter m f).waters = s.waters := rfl
@[simp] theorem modMeter_startOrder (s : State) (m : Fin 24) (f : Meter → Meter) : (s.modMeter m f).startOrder = s.startOrder := rfl
@[simp] theorem modMeter_transfer (s : State) (m : Fin 24) (f : Meter → Meter) : (s.modMeter m f).transfer = s.transfer := rfl
@[simp] theorem modMeter_shore (s : State) (m : Fin 24) (f : Meter → Meter) : (s.modMeter m f).shore = s.shore := rfl
@[simp] theorem modMeter_power (s : State) (m : Fin 24) (f : Meter → Meter) : (s.modMeter m f).power = s.power := rfl
@[simp] theorem modMeter_link (s : State) (m : Fin 24) (f : Meter → Meter) : (s.modMeter m f).link = s.link := rfl
@[simp] theorem modMeter_out (s : State) (m : Fin 24) (f : Meter → Meter) : (s.modMeter m f).out = s.out := rfl
@[simp] theorem modMeter_due (s : State) (m : Fin 24) (f : Meter → Meter) : (s.modMeter m f).due = s.due := rfl
@[simp] theorem modMeter_choices (s : State) (m : Fin 24) (f : Meter → Meter) : (s.modMeter m f).choices = s.choices := rfl
@[simp] theorem modMeter_pending (s : State) (m : Fin 24) (f : Meter → Meter) : (s.modMeter m f).pending = s.pending := rfl

/-! ### modInput -/

@[simp] theorem modInput_inputs (s : State) (i : Fin 16) (f : FrequencyInput → FrequencyInput) : (s.modInput i f).inputs = upd s.inputs i f := rfl
@[simp] theorem modInput_now (s : State) (i : Fin 16) (f : FrequencyInput → FrequencyInput) : (s.modInput i f).now = s.now := rfl
@[simp] theorem modInput_tanks (s : State) (i : Fin 16) (f : FrequencyInput → FrequencyInput) : (s.modInput i f).tanks = s.tanks := rfl
@[simp] theorem modInput_meters (s : State) (i : Fin 16) (f : FrequencyInput → FrequencyInput) : (s.modInput i f).meters = s.meters := rfl
@[simp] theorem modInput_strayTotal (s : State) (i : Fin 16) (f : FrequencyInput → FrequencyInput) : (s.modInput i f).strayTotal = s.strayTotal := rfl
@[simp] theorem modInput_eval (s : State) (i : Fin 16) (f : FrequencyInput → FrequencyInput) : (s.modInput i f).eval = s.eval := rfl
@[simp] theorem modInput_lines (s : State) (i : Fin 16) (f : FrequencyInput → FrequencyInput) : (s.modInput i f).lines = s.lines := rfl
@[simp] theorem modInput_groups (s : State) (i : Fin 16) (f : FrequencyInput → FrequencyInput) : (s.modInput i f).groups = s.groups := rfl
@[simp] theorem modInput_arb (s : State) (i : Fin 16) (f : FrequencyInput → FrequencyInput) : (s.modInput i f).arb = s.arb := rfl
@[simp] theorem modInput_sets (s : State) (i : Fin 16) (f : FrequencyInput → FrequencyInput) : (s.modInput i f).sets = s.sets := rfl
@[simp] theorem modInput_trains (s : State) (i : Fin 16) (f : FrequencyInput → FrequencyInput) : (s.modInput i f).trains = s.trains := rfl
@[simp] theorem modInput_waters (s : State) (i : Fin 16) (f : FrequencyInput → FrequencyInput) : (s.modInput i f).waters = s.waters := rfl
@[simp] theorem modInput_startOrder (s : State) (i : Fin 16) (f : FrequencyInput → FrequencyInput) : (s.modInput i f).startOrder = s.startOrder := rfl
@[simp] theorem modInput_transfer (s : State) (i : Fin 16) (f : FrequencyInput → FrequencyInput) : (s.modInput i f).transfer = s.transfer := rfl
@[simp] theorem modInput_shore (s : State) (i : Fin 16) (f : FrequencyInput → FrequencyInput) : (s.modInput i f).shore = s.shore := rfl
@[simp] theorem modInput_power (s : State) (i : Fin 16) (f : FrequencyInput → FrequencyInput) : (s.modInput i f).power = s.power := rfl
@[simp] theorem modInput_link (s : State) (i : Fin 16) (f : FrequencyInput → FrequencyInput) : (s.modInput i f).link = s.link := rfl
@[simp] theorem modInput_out (s : State) (i : Fin 16) (f : FrequencyInput → FrequencyInput) : (s.modInput i f).out = s.out := rfl
@[simp] theorem modInput_due (s : State) (i : Fin 16) (f : FrequencyInput → FrequencyInput) : (s.modInput i f).due = s.due := rfl
@[simp] theorem modInput_choices (s : State) (i : Fin 16) (f : FrequencyInput → FrequencyInput) : (s.modInput i f).choices = s.choices := rfl
@[simp] theorem modInput_pending (s : State) (i : Fin 16) (f : FrequencyInput → FrequencyInput) : (s.modInput i f).pending = s.pending := rfl

/-! ### modLine -/

@[simp] theorem modLine_lines (s : State) (k : Fin 16) (f : DrawLine → DrawLine) : (s.modLine k f).lines = upd s.lines k f := rfl
@[simp] theorem modLine_now (s : State) (k : Fin 16) (f : DrawLine → DrawLine) : (s.modLine k f).now = s.now := rfl
@[simp] theorem modLine_tanks (s : State) (k : Fin 16) (f : DrawLine → DrawLine) : (s.modLine k f).tanks = s.tanks := rfl
@[simp] theorem modLine_meters (s : State) (k : Fin 16) (f : DrawLine → DrawLine) : (s.modLine k f).meters = s.meters := rfl
@[simp] theorem modLine_strayTotal (s : State) (k : Fin 16) (f : DrawLine → DrawLine) : (s.modLine k f).strayTotal = s.strayTotal := rfl
@[simp] theorem modLine_inputs (s : State) (k : Fin 16) (f : DrawLine → DrawLine) : (s.modLine k f).inputs = s.inputs := rfl
@[simp] theorem modLine_eval (s : State) (k : Fin 16) (f : DrawLine → DrawLine) : (s.modLine k f).eval = s.eval := rfl
@[simp] theorem modLine_groups (s : State) (k : Fin 16) (f : DrawLine → DrawLine) : (s.modLine k f).groups = s.groups := rfl
@[simp] theorem modLine_arb (s : State) (k : Fin 16) (f : DrawLine → DrawLine) : (s.modLine k f).arb = s.arb := rfl
@[simp] theorem modLine_sets (s : State) (k : Fin 16) (f : DrawLine → DrawLine) : (s.modLine k f).sets = s.sets := rfl
@[simp] theorem modLine_trains (s : State) (k : Fin 16) (f : DrawLine → DrawLine) : (s.modLine k f).trains = s.trains := rfl
@[simp] theorem modLine_waters (s : State) (k : Fin 16) (f : DrawLine → DrawLine) : (s.modLine k f).waters = s.waters := rfl
@[simp] theorem modLine_startOrder (s : State) (k : Fin 16) (f : DrawLine → DrawLine) : (s.modLine k f).startOrder = s.startOrder := rfl
@[simp] theorem modLine_transfer (s : State) (k : Fin 16) (f : DrawLine → DrawLine) : (s.modLine k f).transfer = s.transfer := rfl
@[simp] theorem modLine_shore (s : State) (k : Fin 16) (f : DrawLine → DrawLine) : (s.modLine k f).shore = s.shore := rfl
@[simp] theorem modLine_power (s : State) (k : Fin 16) (f : DrawLine → DrawLine) : (s.modLine k f).power = s.power := rfl
@[simp] theorem modLine_link (s : State) (k : Fin 16) (f : DrawLine → DrawLine) : (s.modLine k f).link = s.link := rfl
@[simp] theorem modLine_out (s : State) (k : Fin 16) (f : DrawLine → DrawLine) : (s.modLine k f).out = s.out := rfl
@[simp] theorem modLine_due (s : State) (k : Fin 16) (f : DrawLine → DrawLine) : (s.modLine k f).due = s.due := rfl
@[simp] theorem modLine_choices (s : State) (k : Fin 16) (f : DrawLine → DrawLine) : (s.modLine k f).choices = s.choices := rfl
@[simp] theorem modLine_pending (s : State) (k : Fin 16) (f : DrawLine → DrawLine) : (s.modLine k f).pending = s.pending := rfl

/-! ### modGroup -/

@[simp] theorem modGroup_groups (s : State) (g : Fin 6) (f : Group → Group) : (s.modGroup g f).groups = upd s.groups g f := rfl
@[simp] theorem modGroup_now (s : State) (g : Fin 6) (f : Group → Group) : (s.modGroup g f).now = s.now := rfl
@[simp] theorem modGroup_tanks (s : State) (g : Fin 6) (f : Group → Group) : (s.modGroup g f).tanks = s.tanks := rfl
@[simp] theorem modGroup_meters (s : State) (g : Fin 6) (f : Group → Group) : (s.modGroup g f).meters = s.meters := rfl
@[simp] theorem modGroup_strayTotal (s : State) (g : Fin 6) (f : Group → Group) : (s.modGroup g f).strayTotal = s.strayTotal := rfl
@[simp] theorem modGroup_inputs (s : State) (g : Fin 6) (f : Group → Group) : (s.modGroup g f).inputs = s.inputs := rfl
@[simp] theorem modGroup_eval (s : State) (g : Fin 6) (f : Group → Group) : (s.modGroup g f).eval = s.eval := rfl
@[simp] theorem modGroup_lines (s : State) (g : Fin 6) (f : Group → Group) : (s.modGroup g f).lines = s.lines := rfl
@[simp] theorem modGroup_arb (s : State) (g : Fin 6) (f : Group → Group) : (s.modGroup g f).arb = s.arb := rfl
@[simp] theorem modGroup_sets (s : State) (g : Fin 6) (f : Group → Group) : (s.modGroup g f).sets = s.sets := rfl
@[simp] theorem modGroup_trains (s : State) (g : Fin 6) (f : Group → Group) : (s.modGroup g f).trains = s.trains := rfl
@[simp] theorem modGroup_waters (s : State) (g : Fin 6) (f : Group → Group) : (s.modGroup g f).waters = s.waters := rfl
@[simp] theorem modGroup_startOrder (s : State) (g : Fin 6) (f : Group → Group) : (s.modGroup g f).startOrder = s.startOrder := rfl
@[simp] theorem modGroup_transfer (s : State) (g : Fin 6) (f : Group → Group) : (s.modGroup g f).transfer = s.transfer := rfl
@[simp] theorem modGroup_shore (s : State) (g : Fin 6) (f : Group → Group) : (s.modGroup g f).shore = s.shore := rfl
@[simp] theorem modGroup_power (s : State) (g : Fin 6) (f : Group → Group) : (s.modGroup g f).power = s.power := rfl
@[simp] theorem modGroup_link (s : State) (g : Fin 6) (f : Group → Group) : (s.modGroup g f).link = s.link := rfl
@[simp] theorem modGroup_out (s : State) (g : Fin 6) (f : Group → Group) : (s.modGroup g f).out = s.out := rfl
@[simp] theorem modGroup_due (s : State) (g : Fin 6) (f : Group → Group) : (s.modGroup g f).due = s.due := rfl
@[simp] theorem modGroup_choices (s : State) (g : Fin 6) (f : Group → Group) : (s.modGroup g f).choices = s.choices := rfl
@[simp] theorem modGroup_pending (s : State) (g : Fin 6) (f : Group → Group) : (s.modGroup g f).pending = s.pending := rfl

/-! ### modTrain -/

@[simp] theorem modTrain_trains (s : State) (n : Fin 3) (f : Train → Train) : (s.modTrain n f).trains = upd s.trains n f := rfl
@[simp] theorem modTrain_now (s : State) (n : Fin 3) (f : Train → Train) : (s.modTrain n f).now = s.now := rfl
@[simp] theorem modTrain_tanks (s : State) (n : Fin 3) (f : Train → Train) : (s.modTrain n f).tanks = s.tanks := rfl
@[simp] theorem modTrain_meters (s : State) (n : Fin 3) (f : Train → Train) : (s.modTrain n f).meters = s.meters := rfl
@[simp] theorem modTrain_strayTotal (s : State) (n : Fin 3) (f : Train → Train) : (s.modTrain n f).strayTotal = s.strayTotal := rfl
@[simp] theorem modTrain_inputs (s : State) (n : Fin 3) (f : Train → Train) : (s.modTrain n f).inputs = s.inputs := rfl
@[simp] theorem modTrain_eval (s : State) (n : Fin 3) (f : Train → Train) : (s.modTrain n f).eval = s.eval := rfl
@[simp] theorem modTrain_lines (s : State) (n : Fin 3) (f : Train → Train) : (s.modTrain n f).lines = s.lines := rfl
@[simp] theorem modTrain_groups (s : State) (n : Fin 3) (f : Train → Train) : (s.modTrain n f).groups = s.groups := rfl
@[simp] theorem modTrain_arb (s : State) (n : Fin 3) (f : Train → Train) : (s.modTrain n f).arb = s.arb := rfl
@[simp] theorem modTrain_sets (s : State) (n : Fin 3) (f : Train → Train) : (s.modTrain n f).sets = s.sets := rfl
@[simp] theorem modTrain_waters (s : State) (n : Fin 3) (f : Train → Train) : (s.modTrain n f).waters = s.waters := rfl
@[simp] theorem modTrain_startOrder (s : State) (n : Fin 3) (f : Train → Train) : (s.modTrain n f).startOrder = s.startOrder := rfl
@[simp] theorem modTrain_transfer (s : State) (n : Fin 3) (f : Train → Train) : (s.modTrain n f).transfer = s.transfer := rfl
@[simp] theorem modTrain_shore (s : State) (n : Fin 3) (f : Train → Train) : (s.modTrain n f).shore = s.shore := rfl
@[simp] theorem modTrain_power (s : State) (n : Fin 3) (f : Train → Train) : (s.modTrain n f).power = s.power := rfl
@[simp] theorem modTrain_link (s : State) (n : Fin 3) (f : Train → Train) : (s.modTrain n f).link = s.link := rfl
@[simp] theorem modTrain_out (s : State) (n : Fin 3) (f : Train → Train) : (s.modTrain n f).out = s.out := rfl
@[simp] theorem modTrain_due (s : State) (n : Fin 3) (f : Train → Train) : (s.modTrain n f).due = s.due := rfl
@[simp] theorem modTrain_choices (s : State) (n : Fin 3) (f : Train → Train) : (s.modTrain n f).choices = s.choices := rfl
@[simp] theorem modTrain_pending (s : State) (n : Fin 3) (f : Train → Train) : (s.modTrain n f).pending = s.pending := rfl

/-! ### modSet -/

@[simp] theorem modSet_sets (s : State) (x : Fin 2) (f : PressureSet → PressureSet) :
    (s.modSet x f).sets = { s.sets with sets := upd s.sets.sets x f } := rfl
@[simp] theorem modSet_now (s : State) (x : Fin 2) (f : PressureSet → PressureSet) : (s.modSet x f).now = s.now := rfl
@[simp] theorem modSet_tanks (s : State) (x : Fin 2) (f : PressureSet → PressureSet) : (s.modSet x f).tanks = s.tanks := rfl
@[simp] theorem modSet_meters (s : State) (x : Fin 2) (f : PressureSet → PressureSet) : (s.modSet x f).meters = s.meters := rfl
@[simp] theorem modSet_strayTotal (s : State) (x : Fin 2) (f : PressureSet → PressureSet) : (s.modSet x f).strayTotal = s.strayTotal := rfl
@[simp] theorem modSet_inputs (s : State) (x : Fin 2) (f : PressureSet → PressureSet) : (s.modSet x f).inputs = s.inputs := rfl
@[simp] theorem modSet_eval (s : State) (x : Fin 2) (f : PressureSet → PressureSet) : (s.modSet x f).eval = s.eval := rfl
@[simp] theorem modSet_lines (s : State) (x : Fin 2) (f : PressureSet → PressureSet) : (s.modSet x f).lines = s.lines := rfl
@[simp] theorem modSet_groups (s : State) (x : Fin 2) (f : PressureSet → PressureSet) : (s.modSet x f).groups = s.groups := rfl
@[simp] theorem modSet_arb (s : State) (x : Fin 2) (f : PressureSet → PressureSet) : (s.modSet x f).arb = s.arb := rfl
@[simp] theorem modSet_trains (s : State) (x : Fin 2) (f : PressureSet → PressureSet) : (s.modSet x f).trains = s.trains := rfl
@[simp] theorem modSet_waters (s : State) (x : Fin 2) (f : PressureSet → PressureSet) : (s.modSet x f).waters = s.waters := rfl
@[simp] theorem modSet_startOrder (s : State) (x : Fin 2) (f : PressureSet → PressureSet) : (s.modSet x f).startOrder = s.startOrder := rfl
@[simp] theorem modSet_transfer (s : State) (x : Fin 2) (f : PressureSet → PressureSet) : (s.modSet x f).transfer = s.transfer := rfl
@[simp] theorem modSet_shore (s : State) (x : Fin 2) (f : PressureSet → PressureSet) : (s.modSet x f).shore = s.shore := rfl
@[simp] theorem modSet_power (s : State) (x : Fin 2) (f : PressureSet → PressureSet) : (s.modSet x f).power = s.power := rfl
@[simp] theorem modSet_link (s : State) (x : Fin 2) (f : PressureSet → PressureSet) : (s.modSet x f).link = s.link := rfl
@[simp] theorem modSet_out (s : State) (x : Fin 2) (f : PressureSet → PressureSet) : (s.modSet x f).out = s.out := rfl
@[simp] theorem modSet_due (s : State) (x : Fin 2) (f : PressureSet → PressureSet) : (s.modSet x f).due = s.due := rfl
@[simp] theorem modSet_choices (s : State) (x : Fin 2) (f : PressureSet → PressureSet) : (s.modSet x f).choices = s.choices := rfl
@[simp] theorem modSet_pending (s : State) (x : Fin 2) (f : PressureSet → PressureSet) : (s.modSet x f).pending = s.pending := rfl

/-! ### modArb -/

@[simp] theorem modArb_arb (s : State) (f : Arbiter → Arbiter) : (s.modArb f).arb = f s.arb := rfl
@[simp] theorem modArb_now (s : State) (f : Arbiter → Arbiter) : (s.modArb f).now = s.now := rfl
@[simp] theorem modArb_tanks (s : State) (f : Arbiter → Arbiter) : (s.modArb f).tanks = s.tanks := rfl
@[simp] theorem modArb_meters (s : State) (f : Arbiter → Arbiter) : (s.modArb f).meters = s.meters := rfl
@[simp] theorem modArb_strayTotal (s : State) (f : Arbiter → Arbiter) : (s.modArb f).strayTotal = s.strayTotal := rfl
@[simp] theorem modArb_inputs (s : State) (f : Arbiter → Arbiter) : (s.modArb f).inputs = s.inputs := rfl
@[simp] theorem modArb_eval (s : State) (f : Arbiter → Arbiter) : (s.modArb f).eval = s.eval := rfl
@[simp] theorem modArb_lines (s : State) (f : Arbiter → Arbiter) : (s.modArb f).lines = s.lines := rfl
@[simp] theorem modArb_groups (s : State) (f : Arbiter → Arbiter) : (s.modArb f).groups = s.groups := rfl
@[simp] theorem modArb_sets (s : State) (f : Arbiter → Arbiter) : (s.modArb f).sets = s.sets := rfl
@[simp] theorem modArb_trains (s : State) (f : Arbiter → Arbiter) : (s.modArb f).trains = s.trains := rfl
@[simp] theorem modArb_waters (s : State) (f : Arbiter → Arbiter) : (s.modArb f).waters = s.waters := rfl
@[simp] theorem modArb_startOrder (s : State) (f : Arbiter → Arbiter) : (s.modArb f).startOrder = s.startOrder := rfl
@[simp] theorem modArb_transfer (s : State) (f : Arbiter → Arbiter) : (s.modArb f).transfer = s.transfer := rfl
@[simp] theorem modArb_shore (s : State) (f : Arbiter → Arbiter) : (s.modArb f).shore = s.shore := rfl
@[simp] theorem modArb_power (s : State) (f : Arbiter → Arbiter) : (s.modArb f).power = s.power := rfl
@[simp] theorem modArb_link (s : State) (f : Arbiter → Arbiter) : (s.modArb f).link = s.link := rfl
@[simp] theorem modArb_out (s : State) (f : Arbiter → Arbiter) : (s.modArb f).out = s.out := rfl
@[simp] theorem modArb_due (s : State) (f : Arbiter → Arbiter) : (s.modArb f).due = s.due := rfl
@[simp] theorem modArb_choices (s : State) (f : Arbiter → Arbiter) : (s.modArb f).choices = s.choices := rfl
@[simp] theorem modArb_pending (s : State) (f : Arbiter → Arbiter) : (s.modArb f).pending = s.pending := rfl

/-! ### modEval -/

@[simp] theorem modEval_eval (s : State) (f : Evaluator → Evaluator) : (s.modEval f).eval = f s.eval := rfl
@[simp] theorem modEval_now (s : State) (f : Evaluator → Evaluator) : (s.modEval f).now = s.now := rfl
@[simp] theorem modEval_tanks (s : State) (f : Evaluator → Evaluator) : (s.modEval f).tanks = s.tanks := rfl
@[simp] theorem modEval_meters (s : State) (f : Evaluator → Evaluator) : (s.modEval f).meters = s.meters := rfl
@[simp] theorem modEval_strayTotal (s : State) (f : Evaluator → Evaluator) : (s.modEval f).strayTotal = s.strayTotal := rfl
@[simp] theorem modEval_inputs (s : State) (f : Evaluator → Evaluator) : (s.modEval f).inputs = s.inputs := rfl
@[simp] theorem modEval_lines (s : State) (f : Evaluator → Evaluator) : (s.modEval f).lines = s.lines := rfl
@[simp] theorem modEval_groups (s : State) (f : Evaluator → Evaluator) : (s.modEval f).groups = s.groups := rfl
@[simp] theorem modEval_arb (s : State) (f : Evaluator → Evaluator) : (s.modEval f).arb = s.arb := rfl
@[simp] theorem modEval_sets (s : State) (f : Evaluator → Evaluator) : (s.modEval f).sets = s.sets := rfl
@[simp] theorem modEval_trains (s : State) (f : Evaluator → Evaluator) : (s.modEval f).trains = s.trains := rfl
@[simp] theorem modEval_waters (s : State) (f : Evaluator → Evaluator) : (s.modEval f).waters = s.waters := rfl
@[simp] theorem modEval_startOrder (s : State) (f : Evaluator → Evaluator) : (s.modEval f).startOrder = s.startOrder := rfl
@[simp] theorem modEval_transfer (s : State) (f : Evaluator → Evaluator) : (s.modEval f).transfer = s.transfer := rfl
@[simp] theorem modEval_shore (s : State) (f : Evaluator → Evaluator) : (s.modEval f).shore = s.shore := rfl
@[simp] theorem modEval_power (s : State) (f : Evaluator → Evaluator) : (s.modEval f).power = s.power := rfl
@[simp] theorem modEval_link (s : State) (f : Evaluator → Evaluator) : (s.modEval f).link = s.link := rfl
@[simp] theorem modEval_out (s : State) (f : Evaluator → Evaluator) : (s.modEval f).out = s.out := rfl
@[simp] theorem modEval_due (s : State) (f : Evaluator → Evaluator) : (s.modEval f).due = s.due := rfl
@[simp] theorem modEval_choices (s : State) (f : Evaluator → Evaluator) : (s.modEval f).choices = s.choices := rfl
@[simp] theorem modEval_pending (s : State) (f : Evaluator → Evaluator) : (s.modEval f).pending = s.pending := rfl

/-! ### modLink -/

@[simp] theorem modLink_link (s : State) (f : Link → Link) : (s.modLink f).link = f s.link := rfl
@[simp] theorem modLink_now (s : State) (f : Link → Link) : (s.modLink f).now = s.now := rfl
@[simp] theorem modLink_tanks (s : State) (f : Link → Link) : (s.modLink f).tanks = s.tanks := rfl
@[simp] theorem modLink_meters (s : State) (f : Link → Link) : (s.modLink f).meters = s.meters := rfl
@[simp] theorem modLink_strayTotal (s : State) (f : Link → Link) : (s.modLink f).strayTotal = s.strayTotal := rfl
@[simp] theorem modLink_inputs (s : State) (f : Link → Link) : (s.modLink f).inputs = s.inputs := rfl
@[simp] theorem modLink_eval (s : State) (f : Link → Link) : (s.modLink f).eval = s.eval := rfl
@[simp] theorem modLink_lines (s : State) (f : Link → Link) : (s.modLink f).lines = s.lines := rfl
@[simp] theorem modLink_groups (s : State) (f : Link → Link) : (s.modLink f).groups = s.groups := rfl
@[simp] theorem modLink_arb (s : State) (f : Link → Link) : (s.modLink f).arb = s.arb := rfl
@[simp] theorem modLink_sets (s : State) (f : Link → Link) : (s.modLink f).sets = s.sets := rfl
@[simp] theorem modLink_trains (s : State) (f : Link → Link) : (s.modLink f).trains = s.trains := rfl
@[simp] theorem modLink_waters (s : State) (f : Link → Link) : (s.modLink f).waters = s.waters := rfl
@[simp] theorem modLink_startOrder (s : State) (f : Link → Link) : (s.modLink f).startOrder = s.startOrder := rfl
@[simp] theorem modLink_transfer (s : State) (f : Link → Link) : (s.modLink f).transfer = s.transfer := rfl
@[simp] theorem modLink_shore (s : State) (f : Link → Link) : (s.modLink f).shore = s.shore := rfl
@[simp] theorem modLink_power (s : State) (f : Link → Link) : (s.modLink f).power = s.power := rfl
@[simp] theorem modLink_out (s : State) (f : Link → Link) : (s.modLink f).out = s.out := rfl
@[simp] theorem modLink_due (s : State) (f : Link → Link) : (s.modLink f).due = s.due := rfl
@[simp] theorem modLink_choices (s : State) (f : Link → Link) : (s.modLink f).choices = s.choices := rfl
@[simp] theorem modLink_pending (s : State) (f : Link → Link) : (s.modLink f).pending = s.pending := rfl

/-! ### Two updates of one record -/

@[simp] theorem modTank_modTank (s : State) (t : Fin 12) (f g : Tank → Tank) :
    (s.modTank t f).modTank t g = s.modTank t fun x => g (f x) := by simp [State.modTank]
@[simp] theorem modMeter_modMeter (s : State) (m : Fin 24) (f g : Meter → Meter) :
    (s.modMeter m f).modMeter m g = s.modMeter m fun x => g (f x) := by simp [State.modMeter]
@[simp] theorem modInput_modInput (s : State) (i : Fin 16) (f g : FrequencyInput → FrequencyInput) :
    (s.modInput i f).modInput i g = s.modInput i fun x => g (f x) := by simp [State.modInput]
@[simp] theorem modLine_modLine (s : State) (k : Fin 16) (f g : DrawLine → DrawLine) :
    (s.modLine k f).modLine k g = s.modLine k fun x => g (f x) := by simp [State.modLine]
@[simp] theorem modGroup_modGroup (s : State) (r : Fin 6) (f g : Group → Group) :
    (s.modGroup r f).modGroup r g = s.modGroup r fun x => g (f x) := by simp [State.modGroup]
@[simp] theorem modTrain_modTrain (s : State) (n : Fin 3) (f g : Train → Train) :
    (s.modTrain n f).modTrain n g = s.modTrain n fun x => g (f x) := by simp [State.modTrain]
theorem modTank_congr (s : State) (t : Fin 12) {f g : Tank → Tank} (h : f s.tanks[t] = g s.tanks[t]) :
    s.modTank t f = s.modTank t g := by simp only [State.modTank, upd_congr s.tanks t h]
theorem modMeter_congr (s : State) (m : Fin 24) {f g : Meter → Meter} (h : f s.meters[m] = g s.meters[m]) :
    s.modMeter m f = s.modMeter m g := by simp only [State.modMeter, upd_congr s.meters m h]
theorem modInput_congr (s : State) (i : Fin 16) {f g : FrequencyInput → FrequencyInput} (h : f s.inputs[i] = g s.inputs[i]) :
    s.modInput i f = s.modInput i g := by simp only [State.modInput, upd_congr s.inputs i h]
theorem modLine_congr (s : State) (k : Fin 16) {f g : DrawLine → DrawLine} (h : f s.lines[k] = g s.lines[k]) :
    s.modLine k f = s.modLine k g := by simp only [State.modLine, upd_congr s.lines k h]
theorem modGroup_congr (s : State) (r : Fin 6) {f g : Group → Group} (h : f s.groups[r] = g s.groups[r]) :
    s.modGroup r f = s.modGroup r g := by simp only [State.modGroup, upd_congr s.groups r h]
theorem modTrain_congr (s : State) (n : Fin 3) {f g : Train → Train} (h : f s.trains[n] = g s.trains[n]) :
    s.modTrain n f = s.modTrain n g := by simp only [State.modTrain, upd_congr s.trains n h]

/-! ### modSerial -/

@[simp] theorem modSerial_serial (s : State) (ln : LinkLine) (f : SerialLine → SerialLine) :
    (s.modSerial ln f).link.serial ln = f (s.link.serial ln) := by cases ln <;> rfl
@[simp] theorem modSerial_now (s : State) (ln : LinkLine) (f : SerialLine → SerialLine) :
    (s.modSerial ln f).now = s.now := by cases ln <;> rfl
@[simp] theorem modSerial_tanks (s : State) (ln : LinkLine) (f : SerialLine → SerialLine) :
    (s.modSerial ln f).tanks = s.tanks := by cases ln <;> rfl
@[simp] theorem modSerial_meters (s : State) (ln : LinkLine) (f : SerialLine → SerialLine) :
    (s.modSerial ln f).meters = s.meters := by cases ln <;> rfl
@[simp] theorem modSerial_strayTotal (s : State) (ln : LinkLine) (f : SerialLine → SerialLine) :
    (s.modSerial ln f).strayTotal = s.strayTotal := by cases ln <;> rfl
@[simp] theorem modSerial_inputs (s : State) (ln : LinkLine) (f : SerialLine → SerialLine) :
    (s.modSerial ln f).inputs = s.inputs := by cases ln <;> rfl
@[simp] theorem modSerial_eval (s : State) (ln : LinkLine) (f : SerialLine → SerialLine) :
    (s.modSerial ln f).eval = s.eval := by cases ln <;> rfl
@[simp] theorem modSerial_lines (s : State) (ln : LinkLine) (f : SerialLine → SerialLine) :
    (s.modSerial ln f).lines = s.lines := by cases ln <;> rfl
@[simp] theorem modSerial_groups (s : State) (ln : LinkLine) (f : SerialLine → SerialLine) :
    (s.modSerial ln f).groups = s.groups := by cases ln <;> rfl
@[simp] theorem modSerial_arb (s : State) (ln : LinkLine) (f : SerialLine → SerialLine) :
    (s.modSerial ln f).arb = s.arb := by cases ln <;> rfl
@[simp] theorem modSerial_sets (s : State) (ln : LinkLine) (f : SerialLine → SerialLine) :
    (s.modSerial ln f).sets = s.sets := by cases ln <;> rfl
@[simp] theorem modSerial_trains (s : State) (ln : LinkLine) (f : SerialLine → SerialLine) :
    (s.modSerial ln f).trains = s.trains := by cases ln <;> rfl
@[simp] theorem modSerial_waters (s : State) (ln : LinkLine) (f : SerialLine → SerialLine) :
    (s.modSerial ln f).waters = s.waters := by cases ln <;> rfl
@[simp] theorem modSerial_startOrder (s : State) (ln : LinkLine) (f : SerialLine → SerialLine) :
    (s.modSerial ln f).startOrder = s.startOrder := by cases ln <;> rfl
@[simp] theorem modSerial_transfer (s : State) (ln : LinkLine) (f : SerialLine → SerialLine) :
    (s.modSerial ln f).transfer = s.transfer := by cases ln <;> rfl
@[simp] theorem modSerial_shore (s : State) (ln : LinkLine) (f : SerialLine → SerialLine) :
    (s.modSerial ln f).shore = s.shore := by cases ln <;> rfl
@[simp] theorem modSerial_power (s : State) (ln : LinkLine) (f : SerialLine → SerialLine) :
    (s.modSerial ln f).power = s.power := by cases ln <;> rfl
@[simp] theorem modSerial_out (s : State) (ln : LinkLine) (f : SerialLine → SerialLine) :
    (s.modSerial ln f).out = s.out := by cases ln <;> rfl
@[simp] theorem modSerial_due (s : State) (ln : LinkLine) (f : SerialLine → SerialLine) :
    (s.modSerial ln f).due = s.due := by cases ln <;> rfl
@[simp] theorem modSerial_choices (s : State) (ln : LinkLine) (f : SerialLine → SerialLine) :
    (s.modSerial ln f).choices = s.choices := by cases ln <;> rfl
@[simp] theorem modSerial_pending (s : State) (ln : LinkLine) (f : SerialLine → SerialLine) :
    (s.modSerial ln f).pending = s.pending := by cases ln <;> rfl
@[simp] theorem modSerial_localSample (s : State) (ln : LinkLine) (f : SerialLine → SerialLine) :
    (s.modSerial ln f).link.localSample = s.link.localSample := by cases ln <;> rfl
@[simp] theorem modSerial_localAsserted (s : State) (ln : LinkLine) (f : SerialLine → SerialLine) :
    (s.modSerial ln f).link.localAsserted = s.link.localAsserted := by cases ln <;> rfl
@[simp] theorem modSerial_queue (s : State) (ln : LinkLine) (f : SerialLine → SerialLine) :
    (s.modSerial ln f).link.queue = s.link.queue := by cases ln <;> rfl
@[simp] theorem modSerial_overflow (s : State) (ln : LinkLine) (f : SerialLine → SerialLine) :
    (s.modSerial ln f).link.overflow = s.link.overflow := by cases ln <;> rfl
@[simp] theorem modSerial_trigger (s : State) (ln : LinkLine) (f : SerialLine → SerialLine) :
    (s.modSerial ln f).link.trigger = s.link.trigger := by cases ln <;> rfl
@[simp] theorem modSerial_snapshot (s : State) (ln : LinkLine) (f : SerialLine → SerialLine) :
    (s.modSerial ln f).link.snapshot = s.link.snapshot := by cases ln <;> rfl
@[simp] theorem modSerial_stored (s : State) (ln : LinkLine) (f : SerialLine → SerialLine) :
    (s.modSerial ln f).link.stored = s.link.stored := by cases ln <;> rfl
@[simp] theorem modSerial_writing (s : State) (ln : LinkLine) (f : SerialLine → SerialLine) :
    (s.modSerial ln f).link.writing = s.link.writing := by cases ln <;> rfl
@[simp] theorem modSerial_lastWrite (s : State) (ln : LinkLine) (f : SerialLine → SerialLine) :
    (s.modSerial ln f).link.lastWrite = s.link.lastWrite := by cases ln <;> rfl

/-! ### The line that took a request -/

@[simp] theorem takeLine_now (ln : LinkLine) (s : State) : (takeLine ln s).now = s.now := by cases ln <;> rfl
@[simp] theorem takeLine_tanks (ln : LinkLine) (s : State) : (takeLine ln s).tanks = s.tanks := by cases ln <;> rfl
@[simp] theorem takeLine_meters (ln : LinkLine) (s : State) : (takeLine ln s).meters = s.meters := by cases ln <;> rfl
@[simp] theorem takeLine_strayTotal (ln : LinkLine) (s : State) : (takeLine ln s).strayTotal = s.strayTotal := by cases ln <;> rfl
@[simp] theorem takeLine_inputs (ln : LinkLine) (s : State) : (takeLine ln s).inputs = s.inputs := by cases ln <;> rfl
@[simp] theorem takeLine_eval (ln : LinkLine) (s : State) : (takeLine ln s).eval = s.eval := by cases ln <;> rfl
@[simp] theorem takeLine_lines (ln : LinkLine) (s : State) : (takeLine ln s).lines = s.lines := by cases ln <;> rfl
@[simp] theorem takeLine_groups (ln : LinkLine) (s : State) : (takeLine ln s).groups = s.groups := by cases ln <;> rfl
@[simp] theorem takeLine_arb (ln : LinkLine) (s : State) : (takeLine ln s).arb = s.arb := by cases ln <;> rfl
@[simp] theorem takeLine_sets (ln : LinkLine) (s : State) : (takeLine ln s).sets = s.sets := by cases ln <;> rfl
@[simp] theorem takeLine_trains (ln : LinkLine) (s : State) : (takeLine ln s).trains = s.trains := by cases ln <;> rfl
@[simp] theorem takeLine_waters (ln : LinkLine) (s : State) : (takeLine ln s).waters = s.waters := by cases ln <;> rfl
@[simp] theorem takeLine_startOrder (ln : LinkLine) (s : State) : (takeLine ln s).startOrder = s.startOrder := by cases ln <;> rfl
@[simp] theorem takeLine_transfer (ln : LinkLine) (s : State) : (takeLine ln s).transfer = s.transfer := by cases ln <;> rfl
@[simp] theorem takeLine_shore (ln : LinkLine) (s : State) : (takeLine ln s).shore = s.shore := by cases ln <;> rfl
@[simp] theorem takeLine_power (ln : LinkLine) (s : State) : (takeLine ln s).power = s.power := by cases ln <;> rfl
@[simp] theorem takeLine_out (ln : LinkLine) (s : State) : (takeLine ln s).out = s.out := by cases ln <;> rfl
@[simp] theorem takeLine_due (ln : LinkLine) (s : State) : (takeLine ln s).due = s.due := by cases ln <;> rfl
@[simp] theorem takeLine_choices (ln : LinkLine) (s : State) : (takeLine ln s).choices = s.choices := by cases ln <;> rfl
@[simp] theorem takeLine_pending (ln : LinkLine) (s : State) : (takeLine ln s).pending = s.pending := by cases ln <;> rfl
@[simp] theorem takeLine_localSample (ln : LinkLine) (s : State) : (takeLine ln s).link.localSample = s.link.localSample := by
  cases ln <;> rfl
@[simp] theorem takeLine_localAsserted (ln : LinkLine) (s : State) : (takeLine ln s).link.localAsserted = s.link.localAsserted := by
  cases ln <;> rfl
@[simp] theorem takeLine_queue (ln : LinkLine) (s : State) : (takeLine ln s).link.queue = s.link.queue := by
  cases ln <;> rfl
@[simp] theorem takeLine_overflow (ln : LinkLine) (s : State) : (takeLine ln s).link.overflow = s.link.overflow := by
  cases ln <;> rfl
@[simp] theorem takeLine_trigger (ln : LinkLine) (s : State) : (takeLine ln s).link.trigger = s.link.trigger := by
  cases ln <;> rfl
@[simp] theorem takeLine_snapshot (ln : LinkLine) (s : State) : (takeLine ln s).link.snapshot = s.link.snapshot := by
  cases ln <;> rfl
@[simp] theorem takeLine_stored (ln : LinkLine) (s : State) : (takeLine ln s).link.stored = s.link.stored := by
  cases ln <;> rfl
@[simp] theorem takeLine_writing (ln : LinkLine) (s : State) : (takeLine ln s).link.writing = s.link.writing := by
  cases ln <;> rfl
@[simp] theorem takeLine_lastWrite (ln : LinkLine) (s : State) : (takeLine ln s).link.lastWrite = s.link.lastWrite := by
  cases ln <;> rfl
@[simp] theorem takeLine_authority (ln : LinkLine) (s : State) : authority (takeLine ln s) = authority s := by
  cases ln <;> rfl

/-! ### Notices, choices, events and the end of a step -/

@[simp] theorem post_now (n : NoticeBody) (s : State) : (post n s).now = s.now := by unfold post; split <;> rfl
@[simp] theorem post_tanks (n : NoticeBody) (s : State) : (post n s).tanks = s.tanks := by unfold post; split <;> rfl
@[simp] theorem post_meters (n : NoticeBody) (s : State) : (post n s).meters = s.meters := by unfold post; split <;> rfl
@[simp] theorem post_strayTotal (n : NoticeBody) (s : State) : (post n s).strayTotal = s.strayTotal := by unfold post; split <;> rfl
@[simp] theorem post_inputs (n : NoticeBody) (s : State) : (post n s).inputs = s.inputs := by unfold post; split <;> rfl
@[simp] theorem post_eval (n : NoticeBody) (s : State) : (post n s).eval = s.eval := by unfold post; split <;> rfl
@[simp] theorem post_lines (n : NoticeBody) (s : State) : (post n s).lines = s.lines := by unfold post; split <;> rfl
@[simp] theorem post_groups (n : NoticeBody) (s : State) : (post n s).groups = s.groups := by unfold post; split <;> rfl
@[simp] theorem post_arb (n : NoticeBody) (s : State) : (post n s).arb = s.arb := by unfold post; split <;> rfl
@[simp] theorem post_sets (n : NoticeBody) (s : State) : (post n s).sets = s.sets := by unfold post; split <;> rfl
@[simp] theorem post_trains (n : NoticeBody) (s : State) : (post n s).trains = s.trains := by unfold post; split <;> rfl
@[simp] theorem post_waters (n : NoticeBody) (s : State) : (post n s).waters = s.waters := by unfold post; split <;> rfl
@[simp] theorem post_startOrder (n : NoticeBody) (s : State) : (post n s).startOrder = s.startOrder := by unfold post; split <;> rfl
@[simp] theorem post_transfer (n : NoticeBody) (s : State) : (post n s).transfer = s.transfer := by unfold post; split <;> rfl
@[simp] theorem post_shore (n : NoticeBody) (s : State) : (post n s).shore = s.shore := by unfold post; split <;> rfl
@[simp] theorem post_power (n : NoticeBody) (s : State) : (post n s).power = s.power := by unfold post; split <;> rfl
@[simp] theorem post_out (n : NoticeBody) (s : State) : (post n s).out = s.out := by unfold post; split <;> rfl
@[simp] theorem post_due (n : NoticeBody) (s : State) : (post n s).due = s.due := by unfold post; split <;> rfl
@[simp] theorem post_choices (n : NoticeBody) (s : State) : (post n s).choices = s.choices := by unfold post; split <;> rfl
@[simp] theorem post_pending (n : NoticeBody) (s : State) : (post n s).pending = s.pending := by unfold post; split <;> rfl
@[simp] theorem takeChoice_now (n : Nat) (s : State) : (takeChoice n s).2.now = s.now := rfl
@[simp] theorem takeChoice_tanks (n : Nat) (s : State) : (takeChoice n s).2.tanks = s.tanks := rfl
@[simp] theorem takeChoice_meters (n : Nat) (s : State) : (takeChoice n s).2.meters = s.meters := rfl
@[simp] theorem takeChoice_strayTotal (n : Nat) (s : State) : (takeChoice n s).2.strayTotal = s.strayTotal := rfl
@[simp] theorem takeChoice_inputs (n : Nat) (s : State) : (takeChoice n s).2.inputs = s.inputs := rfl
@[simp] theorem takeChoice_eval (n : Nat) (s : State) : (takeChoice n s).2.eval = s.eval := rfl
@[simp] theorem takeChoice_lines (n : Nat) (s : State) : (takeChoice n s).2.lines = s.lines := rfl
@[simp] theorem takeChoice_groups (n : Nat) (s : State) : (takeChoice n s).2.groups = s.groups := rfl
@[simp] theorem takeChoice_arb (n : Nat) (s : State) : (takeChoice n s).2.arb = s.arb := rfl
@[simp] theorem takeChoice_sets (n : Nat) (s : State) : (takeChoice n s).2.sets = s.sets := rfl
@[simp] theorem takeChoice_trains (n : Nat) (s : State) : (takeChoice n s).2.trains = s.trains := rfl
@[simp] theorem takeChoice_waters (n : Nat) (s : State) : (takeChoice n s).2.waters = s.waters := rfl
@[simp] theorem takeChoice_startOrder (n : Nat) (s : State) : (takeChoice n s).2.startOrder = s.startOrder := rfl
@[simp] theorem takeChoice_transfer (n : Nat) (s : State) : (takeChoice n s).2.transfer = s.transfer := rfl
@[simp] theorem takeChoice_shore (n : Nat) (s : State) : (takeChoice n s).2.shore = s.shore := rfl
@[simp] theorem takeChoice_power (n : Nat) (s : State) : (takeChoice n s).2.power = s.power := rfl
@[simp] theorem takeChoice_link (n : Nat) (s : State) : (takeChoice n s).2.link = s.link := rfl
@[simp] theorem takeChoice_out (n : Nat) (s : State) : (takeChoice n s).2.out = s.out := rfl
@[simp] theorem takeChoice_due (n : Nat) (s : State) : (takeChoice n s).2.due = s.due := rfl
@[simp] theorem takeChoice_pending (n : Nat) (s : State) : (takeChoice n s).2.pending = s.pending := rfl
@[simp] theorem took_now (d : Due) (s : State) : (took d s).now = s.now := rfl
@[simp] theorem took_tanks (d : Due) (s : State) : (took d s).tanks = s.tanks := rfl
@[simp] theorem took_meters (d : Due) (s : State) : (took d s).meters = s.meters := rfl
@[simp] theorem took_strayTotal (d : Due) (s : State) : (took d s).strayTotal = s.strayTotal := rfl
@[simp] theorem took_inputs (d : Due) (s : State) : (took d s).inputs = s.inputs := rfl
@[simp] theorem took_eval (d : Due) (s : State) : (took d s).eval = s.eval := rfl
@[simp] theorem took_lines (d : Due) (s : State) : (took d s).lines = s.lines := rfl
@[simp] theorem took_groups (d : Due) (s : State) : (took d s).groups = s.groups := rfl
@[simp] theorem took_arb (d : Due) (s : State) : (took d s).arb = s.arb := rfl
@[simp] theorem took_sets (d : Due) (s : State) : (took d s).sets = s.sets := rfl
@[simp] theorem took_trains (d : Due) (s : State) : (took d s).trains = s.trains := rfl
@[simp] theorem took_waters (d : Due) (s : State) : (took d s).waters = s.waters := rfl
@[simp] theorem took_startOrder (d : Due) (s : State) : (took d s).startOrder = s.startOrder := rfl
@[simp] theorem took_transfer (d : Due) (s : State) : (took d s).transfer = s.transfer := rfl
@[simp] theorem took_shore (d : Due) (s : State) : (took d s).shore = s.shore := rfl
@[simp] theorem took_power (d : Due) (s : State) : (took d s).power = s.power := rfl
@[simp] theorem took_link (d : Due) (s : State) : (took d s).link = s.link := rfl
@[simp] theorem took_out (d : Due) (s : State) : (took d s).out = s.out := rfl
@[simp] theorem took_choices (d : Due) (s : State) : (took d s).choices = s.choices := rfl
@[simp] theorem took_pending (d : Due) (s : State) : (took d s).pending = s.pending := rfl
@[simp] theorem finish_now (s : State) : (finish s).now = s.now := rfl
@[simp] theorem finish_tanks (s : State) : (finish s).tanks = s.tanks := rfl
@[simp] theorem finish_meters (s : State) : (finish s).meters = s.meters := rfl
@[simp] theorem finish_strayTotal (s : State) : (finish s).strayTotal = s.strayTotal := rfl
@[simp] theorem finish_inputs (s : State) : (finish s).inputs = s.inputs := rfl
@[simp] theorem finish_eval (s : State) : (finish s).eval = s.eval := rfl
@[simp] theorem finish_lines (s : State) : (finish s).lines = s.lines := rfl
@[simp] theorem finish_groups (s : State) : (finish s).groups = s.groups := rfl
@[simp] theorem finish_sets (s : State) : (finish s).sets = s.sets := rfl
@[simp] theorem finish_trains (s : State) : (finish s).trains = s.trains := rfl
@[simp] theorem finish_waters (s : State) : (finish s).waters = s.waters := rfl
@[simp] theorem finish_startOrder (s : State) : (finish s).startOrder = s.startOrder := rfl
@[simp] theorem finish_transfer (s : State) : (finish s).transfer = s.transfer := rfl
@[simp] theorem finish_shore (s : State) : (finish s).shore = s.shore := rfl
@[simp] theorem finish_power (s : State) : (finish s).power = s.power := rfl
@[simp] theorem finish_link (s : State) : (finish s).link = s.link := rfl
@[simp] theorem finish_due (s : State) : (finish s).due = s.due := rfl
@[simp] theorem finish_choices (s : State) : (finish s).choices = s.choices := rfl
@[simp] theorem finish_pending (s : State) : (finish s).pending = s.pending := rfl
@[simp] theorem finish_arb (s : State) : (finish s).arb = { s.arb with preemptedNow := [] } := rfl
@[simp] theorem finish_out (s : State) : (finish s).out = outputsOf s := rfl

end Sys2Proof.Machine
end

