-- ==== Sys2Proof/Laws/Link.lean ====
section
/-!
SUPPORT. What the Message Link does with a request, once for every kind: the Link's checks (R174), the answer of a free line, and the
answer of a query, a configuration and an operation that pass them. What posting a notice and taking an event of a tick can do.
-/

namespace Sys2Proof.Machine

/-! ### Requests -/

theorem takeFrame_free (kind tag : Byte) (ln : LinkLine) (handle : State → State × Reply) (s : State) (h : LineFree ln s) :
    takeFrame kind tag ln handle s = sendReply ln kind tag (handle (takeLine ln s)) := by
  have : (s.link.serial ln).busy = false := h
  simp [takeFrame, this]

theorem takeFrame_busy (kind tag : Byte) (ln : LinkLine) (handle : State → State × Reply) (s : State)
    (h : (s.link.serial ln).busy = true) : takeFrame kind tag ln handle s = discardFrame ln s := by
  simp [takeFrame, h]

/-- A request the Link refuses changes nothing but its line (R174, R175). -/
theorem handleRequest_refused (own : Owner) (ln : LinkLine) (body : List Byte) (s : State) (st : Status)
    (h : linkRefusal own ln body s = some st) : handleRequest own ln body s = refuse st s := by
  simp [handleRequest, h]

theorem handleRequest_taken (own : Owner) (ln : LinkLine) (body : List Byte) (s : State)
    (h : linkRefusal own ln body s = none) : handleRequest own ln body s = own.run body s := by
  simp [handleRequest, h]

/-- A query on a free line is answered by its owner. -/
theorem query_answered (own : Owner) (ln : LinkLine) (tag : Byte) (body : List Byte) (s : State) (h : LineFree ln s)
    (hc : own.class_ = .query) (hl : own.lengthOk body = true) :
    done (takeRequest own ln tag body s) = .next (answeredBy ln own.kind tag (own.run body (takeLine ln s))) := by
  rw [takeRequest, takeFrame_free _ _ _ _ _ h, handleRequest_taken _ _ _ _ (by simp [linkRefusal, hc, hl])]; rfl

/-- An operation on the free line that holds authority is answered by its owner. -/
theorem operation_answered (own : Owner) (ln : LinkLine) (tag : Byte) (body : List Byte) (s : State) (h : InControl ln s)
    (hc : own.class_ = .operation) (hl : own.lengthOk body = true) :
    done (takeRequest own ln tag body s) = .next (answeredBy ln own.kind tag (own.run body (takeLine ln s))) := by
  rw [takeRequest, takeFrame_free _ _ _ _ _ h.1,
    handleRequest_taken _ _ _ _ (by simp [linkRefusal, hc, hl, ← h.2])]; rfl

/-- A configuration request with authority and no store write in flight is answered by its owner. -/
theorem configuration_answered (own : Owner) (ln : LinkLine) (tag : Byte) (body : List Byte) (s : State)
    (h : MayDefine ln s) (hc : own.class_ = .configuration) (hl : own.lengthOk body = true) :
    done (takeRequest own ln tag body s) = .next (answeredBy ln own.kind tag (own.run body (takeLine ln s))) := by
  rw [takeRequest, takeFrame_free _ _ _ _ _ h.1.1,
    handleRequest_taken _ _ _ _ (by simp [linkRefusal, hc, hl, ← h.1.2, h.2])]; rfl

/-! ### Notices -/

/-- Posting does one of two things: the notice joins the queue, or the queue is full and the overflow flag is set (R176). -/
theorem post_cases (n : NoticeBody) (s : State) :
    (s.link.queue.length < 32 ∧ post n s = s.modLink fun l => { l with queue := l.queue ++ [⟨s.now, n⟩] }) ∨
      (32 ≤ s.link.queue.length ∧ post n s = s.modLink fun l => { l with overflow := true }) := by
  by_cases h : s.link.queue.length < 32
  · exact .inl ⟨h, by simp [post, Config.queueCapacity, h, State.modLink]⟩
  · exact .inr ⟨by omega, by simp [post, Config.queueCapacity, h, State.modLink]⟩

/-- Of the link, posting changes the queue and the overflow flag only. -/
theorem post_link (n : NoticeBody) (s : State) :
    (post n s).link = { s.link with queue := (post n s).link.queue, overflow := (post n s).link.overflow } := by
  obtain ⟨_, h⟩ | ⟨_, h⟩ := post_cases n s <;> rw [h] <;> rfl

/-! ### Events of a tick -/

/-- An event that is due and still true of the state is taken off the list and has its effect. -/
theorem takeDue_taken {d : Due} {still : State → Bool} (effect : State → State) {s : State} (hd : d ∈ s.due)
    (hs : still s = true) : takeDue d still effect s = effect (took d s) := by
  simp [takeDue, hd, hs, took]

/-- An event that is not due, or no longer true, changes nothing (log 6). -/
theorem takeDue_void {d : Due} {still : State → Bool} (effect : State → State) {s : State}
    (h : d ∉ s.due ∨ still s = false) : takeDue d still effect s = s := by
  obtain h | h := h <;> simp [takeDue, h]

end Sys2Proof.Machine
end

