-- ==== Sys2Proof/Laws/Bodies.lean ====
section
/-!
SUPPORT. Reading back what a body's builders write (R183, R184): numbers of one, two and four bytes, indices and codes. A body is
read from its left end: each lemma drops the part in front of the place read.
-/

namespace Sys2Proof.Machine

@[simp] theorem enc1_length (n : Nat) : (enc1 n).length = 1 := rfl
@[simp] theorem enc2_length (n : Nat) : (enc2 n).length = 2 := rfl
@[simp] theorem enc4_length (n : Nat) : (enc4 n).length = 4 := rfl
@[simp] theorem encFlag_length (b : Bool) : (encFlag b).length = 1 := rfl

@[simp] theorem u8At_enc1_zero (n : Nat) (rest : List Byte) : u8At (enc1 n ++ rest) 0 = n % 256 := by simp [u8At, enc1]
@[simp] theorem u8At_enc1_last (n : Nat) : u8At (enc1 n) 0 = n % 256 := by simp [u8At, enc1]
@[simp] theorem u8At_enc1_succ (n i : Nat) (rest : List Byte) : u8At (enc1 n ++ rest) (i + 1) = u8At rest i := by
  simp [u8At, enc1]
@[simp] theorem u8At_enc2_succ (n i : Nat) (rest : List Byte) : u8At (enc2 n ++ rest) (i + 2) = u8At rest i := by
  simp [u8At, enc2]
@[simp] theorem u16At_enc1_succ (n i : Nat) (rest : List Byte) : u16At (enc1 n ++ rest) (i + 1) = u16At rest i := by
  simp [u16At]
@[simp] theorem u16At_enc2_zero (n : Nat) (rest : List Byte) : u16At (enc2 n ++ rest) 0 = n % 65536 := by
  simp [u16At, u8At, enc2]; omega
@[simp] theorem u16At_enc2_last (n : Nat) : u16At (enc2 n) 0 = n % 65536 := by simp [u16At, u8At, enc2]; omega
@[simp] theorem u16At_enc2_succ (n i : Nat) (rest : List Byte) : u16At (enc2 n ++ rest) (i + 2) = u16At rest i := by
  simp only [u16At, show i + 2 + 1 = (i + 1) + 2 by omega, u8At_enc2_succ]
@[simp] theorem u32At_enc1_succ (n i : Nat) (rest : List Byte) : u32At (enc1 n ++ rest) (i + 1) = u32At rest i := by
  simp only [u32At, show i + 1 + 2 = (i + 2) + 1 by omega, u16At_enc1_succ]
@[simp] theorem u32At_enc4_last (n : Nat) : u32At (enc4 n) 0 = n % 4294967296 := by
  simp [u32At, u16At, u8At, enc4, enc2]; omega
@[simp] theorem u8At_encFlag_last (b : Bool) : u8At (encFlag b) 0 = if b then 1 else 0 := by cases b <;> rfl

/-- An index written as a byte is read back. -/
@[simp] theorem indexOf_val {n : Nat} (i : Fin n) : indexOf n i.val = some i := by simp [indexOf]

theorem indexOf_none {n x : Nat} (h : n ≤ x) : indexOf n x = none := by simp [indexOf]; omega

@[simp] theorem tank_byte (t : Fin 12) : t.val % 256 = t.val := Nat.mod_eq_of_lt (by omega)
@[simp] theorem meter_byte (m : Fin 24) : m.val % 256 = m.val := Nat.mod_eq_of_lt (by omega)
@[simp] theorem line_byte (k : Fin 16) : k.val % 256 = k.val := Nat.mod_eq_of_lt (by omega)
@[simp] theorem group_byte (g : Fin 6) : g.val % 256 = g.val := Nat.mod_eq_of_lt (by omega)
@[simp] theorem train_byte (n : Fin 3) : n.val % 256 = n.val := Nat.mod_eq_of_lt (by omega)
@[simp] theorem set_byte (x : Fin 2) : x.val % 256 = x.val := Nat.mod_eq_of_lt (by omega)

@[simp] theorem serviceStateOf_code (w : ServiceState) : serviceStateOf (w.toTankState.code % 256) = some w := by
  cases w <;> rfl
@[simp] theorem sideOf_code (d : Side) : sideOf (d.code % 256) = some d := by cases d <;> rfl
@[simp] theorem meterModeOf_code (m : MeterMode) : meterModeOf (m.code % 256) = some m := by cases m <;> rfl
@[simp] theorem arbiterModeOf_code (m : ArbiterMode) : arbiterModeOf (m.code % 256) = some m := by cases m <;> rfl
@[simp] theorem trainModeOf_code (m : TrainMode) : trainModeOf (m.code % 256) = some m := by cases m <;> rfl
@[simp] theorem watersOf_code (w : Waters) : watersOf (w.code % 256) = some w := by cases w <;> rfl
@[simp] theorem settingOf_flag (b : Bool) : settingOf (if b then 1 else 0) = some b := by cases b <;> rfl

end Sys2Proof.Machine
end

