-- ==== Sys2Proof/Laws/Keeps.lean ====
section
/-!
SUPPORT. The inductions and the case splits of the shared operations, each made once: what one round of a walk can do, and that a
property every round keeps is kept by the whole operation.
-/

namespace Sys2Proof.Machine

/-! ### The grant pass (R98, R115) -/

theorem preemptUntil_keeps {P : State → Prop} (hp : ∀ k s, P s → P (preempt k s)) (enough : State → Bool) :
    ∀ (ks : List (Fin 16)) (s : State), P s → P (preemptUntil enough ks s)
  | [], s, h => by simpa [preemptUntil] using h
  | k :: ks, s, h => by
    simp only [preemptUntil]; split
    · exact h
    · exact preemptUntil_keeps hp enough ks _ (hp k s h)

theorem makeRoom_keeps {P : State → Prop} (hp : ∀ k s, P s → P (preempt k s)) (k : Fin 16) (s : State) (h : P s) :
    P (makeRoom k s) := preemptUntil_keeps hp _ _ _ h

theorem passWalk_keeps {P : State → Prop} (hg : ∀ k s, P s → P (grant k s)) (hp : ∀ k s, P s → P (preempt k s))
    (he : ∀ k s, P s → P (passEnds k s)) :
    ∀ (fuel : Nat) (visited : List (Fin 16)) (s : State), P s → P (passWalk fuel visited s)
  | 0, _, s, h => he none s h
  | fuel + 1, visited, s, h => by
    simp only [passWalk]; split
    · exact he none s h
    · split
      · exact passWalk_keeps hg hp he fuel _ s h
      · split
        · exact passWalk_keeps hg hp he fuel _ _ (hg _ s h)
        · split
          · exact he _ s h
          · split
            · exact passWalk_keeps hg hp he fuel _ _ (hg _ _ (makeRoom_keeps hp _ s h))
            · exact he _ s h

/-- What a grant, a preemption and the end of a pass keep, a grant pass keeps. -/
theorem grantPass_keeps {P : State → Prop} (hg : ∀ k s, P s → P (grant k s)) (hp : ∀ k s, P s → P (preempt k s))
    (he : ∀ k s, P s → P (passEnds k s)) (s : State) (h : P s) : P (grantPass s) := passWalk_keeps hg hp he _ _ s h

/-- What a grant pass and a new draw keep, a registration keeps (R82, R97). -/
theorem register_keeps {P : State → Prop} (hpass : ∀ s, P s → P (grantPass s)) (hr : ∀ s, P s → P (refreshPending s))
    (k : Fin 16) (q : Option Nat) (o : Source)
    (hl : ∀ s, P s → P (s.modLine k fun l => { l with state := .pending, draw := some (.registered q o) })) (s : State)
    (h : P s) : P (register k q o s) := hpass _ (hr _ (hl _ h))

/-- A supply hand-over is one of four operations (R117, R119, R120). -/
theorem takeSupply_cases (supply : SupplyState) (capacity : Nat) (s : State) :
    (s.arb.supplyHeld = .up ∧ supply = .down ∧ takeSupply supply capacity s = supplyLost s) ∨
      (s.arb.supplyHeld = .down ∧ supply = .up ∧ takeSupply supply capacity s = supplyRestored capacity s) ∨
      (s.arb.supplyHeld = .up ∧ supply = .up ∧ s.arb.capacityHeld ≠ capacity ∧
        takeSupply supply capacity s = capacityChanged capacity s) ∨
      takeSupply supply capacity s = s := by
  cases hs : s.arb.supplyHeld <;> cases supply <;> simp only [takeSupply, hs]
  all_goals first | (split <;> simp_all) | simp

/-- A supply level handed over starts a pass or changes nothing (R63, R97). -/
theorem takeLevel_cases (level : Nat) (s : State) :
    (s.arb.levelHeld ≠ level ∧ takeLevel level s = grantPass (s.modArb fun a => { a with levelHeld := level })) ∨
      (s.arb.levelHeld = level ∧ takeLevel level s = s) := by
  unfold takeLevel; split <;> simp_all

/-! ### The trains (R90, R144, R147 to R149) -/

/-- A flush request is placed on an IDLE flush line, or changes nothing (R90, R144). -/
theorem askFlush_cases (n : Fin 3) (s : State) :
    (s.trains[n].state = .flushWait ∧ s.trains[n].flushPlaced = false ∧ flushLineValid s n = true ∧
      s.lines[s.trains[n].defn.flushLine].state = .idle ∧
      askFlush n s = register s.trains[n].defn.flushLine
        (some (min s.trains[n].flushRemaining s.lines[s.trains[n].defn.flushLine].defn.maxBatch)) (.flush n)
        (s.modTrain n fun w => { w with flushPlaced := true })) ∨ askFlush n s = s := by
  unfold askFlush; dsimp only; split
  · rename_i h
    simp only [Bool.and_eq_true, beq_iff_eq, Bool.not_eq_true'] at h
    exact .inl ⟨h.1.1.1, h.1.1.2, h.1.2, h.2, rfl⟩
  · exact .inr rfl

/-- The automatic start check starts one train that may start, or changes nothing (R148). -/
theorem startCheck_cases (s : State) :
    (∃ n, startable s n = true ∧ someTrainStarting s = false ∧ autoRunning s < s.eval.callCount ∧ s.waters = .opened ∧
      s.eval.fillCandidates ≠ [] ∧ headroomGranted s s.trains[n].defn.ratedPower = true ∧
      startCheck s = beginTrain n s) ∨ startCheck s = s := by
  unfold startCheck; split
  · rename_i h
    simp only [Bool.and_eq_true, decide_eq_true_eq, Bool.not_eq_true'] at h
    split
    · exact .inr rfl
    · rename_i n hn
      split
      · rename_i hw
        simp only [Bool.and_eq_true, beq_iff_eq, Bool.not_eq_true', List.isEmpty_eq_false_iff] at hw
        exact .inl ⟨n, List.find?_some hn, h.2, h.1, hw.1.1, hw.1.2, hw.2, rfl⟩
      · exact .inr rfl
  · exact .inr rfl

theorem stopRounds_keeps {P : State → Prop} (hh : ∀ n s, P s → P (haltTrain n .callDropped s)) :
    ∀ (fuel : Nat) (s : State), P s → P (stopRounds fuel s)
  | 0, s, h => by simpa [stopRounds] using h
  | fuel + 1, s, h => by
    simp only [stopRounds]; split
    · split
      · exact h
      · exact stopRounds_keeps hh fuel _ (hh _ s h)
    · exact h

/-- What a stop with cause CALL_DROPPED keeps, the automatic stop check keeps (R149). -/
theorem stopCheck_keeps {P : State → Prop} (hh : ∀ n s, P s → P (haltTrain n .callDropped s)) (s : State) (h : P s) :
    P (stopCheck s) := stopRounds_keeps hh 3 s h

theorem foldl_keeps {α β : Type} {P : β → Prop} {f : β → α → β} (hf : ∀ s a, P s → P (f s a)) :
    ∀ (l : List α) (s : β), P s → P (l.foldl f s)
  | [], _, h => h
  | a :: l, s, h => foldl_keeps hf l _ (hf s a h)

theorem takeChoice_keeps {P : State → Prop} (hc : ∀ s : State, P s → P { s with choices := s.choices + 1 }) (n : Nat)
    (s : State) (h : P s) : P (takeChoice n s).2 := hc s h

/-- What one new target and a free choice keep, the retargeting of every train keeps (R142, R72). -/
theorem retargetAll_keeps {P : State → Prop} (hr : ∀ s n, P s → P (retarget s n))
    (hc : ∀ s : State, P s → P { s with choices := s.choices + 1 }) (s : State) (h : P s) : P (retargetAll s) := by
  unfold retargetAll; dsimp only; split
  · exact foldl_keeps hr _ _ h
  · exact foldl_keeps hr _ _ (takeChoice_keeps hc _ _ h)

/-- What the checks and the retargeting keep, the Trains' part of a tank change keeps (R65, R72, R148). -/
theorem trainsTake_keeps {P : State → Prop} (hstart : ∀ s, P s → P (startCheck s)) (hstop : ∀ s, P s → P (stopCheck s))
    (hr : ∀ s, P s → P (retargetAll s)) (oldCall : Nat) (oldCandidates : List (Fin 12)) (s : State) (h : P s) :
    P (trainsTake oldCall oldCandidates s) := by
  have h1 : P (if s.eval.callCount = oldCall then s else stopCheck (startCheck s)) := by
    split
    · exact h
    · exact hstop _ (hstart _ h)
  unfold trainsTake; dsimp only; split
  · exact hstart _ (hr _ h1)
  · exact hr _ h1

/-! ### The Evaluator and a tank change (R13, R61, R68) -/

/-- A duty check keeps the duty tank or applies one selection with one of the three causes (R68). -/
theorem checkDuty_cases (s : State) :
    (∃ cause, cause ≠ .review ∧ checkDuty s = applyDuty cause (selectDuty s) s) ∨ checkDuty s = s := by
  unfold checkDuty; split
  · split
    · exact .inr rfl
    · refine .inl ⟨_, ?_, rfl⟩; split <;> simp
  · split
    · exact .inr rfl
    · exact .inl ⟨.appeared, by simp, rfl⟩

/-- A new effective level is posted and handed over, or nothing changes (R63). -/
theorem workOutLevel_cases (cause : LevelCause) (s : State) :
    (max s.eval.computed s.eval.floor = s.eval.level ∧ workOutLevel cause s = s) ∨
      (max s.eval.computed s.eval.floor ≠ s.eval.level ∧ workOutLevel cause s =
        takeLevel (max s.eval.computed s.eval.floor) (post (.supplyLevel cause (max s.eval.computed s.eval.floor))
          (s.modEval fun e => { e with level := max s.eval.computed s.eval.floor }))) := by
  unfold workOutLevel; dsimp only; split <;> simp_all

/-- What the Evaluator's figures, a new level and a duty selection keep, the Evaluator's part of a tank change keeps. -/
theorem evaluate_keeps {P : State → Prop} (hm : ∀ (f : Evaluator → Evaluator) s, P s → P (s.modEval f))
    (hl : ∀ s, P s → P (workOutLevel .reserve s))
    (hd : ∀ cause s, cause ≠ .review → P s → P (applyDuty cause (selectDuty s) s)) (s : State) (h : P s) :
    P (evaluate s) := by
  have h1 : P (workOutCandidates (workOutImbalance (workOutCall (workOutComputed .reserve (workOutRatio s))))) :=
    hm _ _ (hm _ _ (hm _ _ (hl _ (hm _ _ (by unfold workOutRatio; exact hm _ _ h)))))
  unfold evaluate
  obtain ⟨c, hc, e⟩ | e := checkDuty_cases (workOutCandidates (workOutImbalance (workOutCall (workOutComputed .reserve
    (workOutRatio s)))))
  · rw [e]; exact hd c _ hc h1
  · rw [e]; exact h1

/-- What the ends of the two operations and a free choice keep, the Transfer and Shore Unit's part keeps (R165, R169). -/
theorem transferShoreTake_keeps {P : State → Prop} (ht : ∀ cause s, P s → P (endTransfer cause s))
    (hs : ∀ cause s, P s → P (endShore cause s)) (hc : ∀ s : State, P s → P { s with choices := s.choices + 1 })
    (s : State) (h : P s) : P (transferShoreTake s) := by
  have ht' : ∀ s, P s → P (settleTransfer s) := fun s h => by
    unfold settleTransfer; split
    · exact ht _ s h
    · exact h
  have hs' : ∀ s, P s → P (settleShore s) := fun s h => by
    unfold settleShore; split
    · exact hs _ s h
    · exact h
  unfold transferShoreTake; dsimp only; split
  · split
    · exact hs' _ (ht' _ (takeChoice_keeps hc _ _ h))
    · exact ht' _ (hs' _ (takeChoice_keeps hc _ _ h))
  · exact hs' _ (ht' _ h)

/-- A tank change is its three parts, each whole before the next (R13, R14). -/
theorem tankChange_keeps {P : State → Prop} (he : ∀ s, P s → P (evaluate s))
    (ht : ∀ c cands s, P s → P (trainsTake c cands s)) (hu : ∀ s, P s → P (transferShoreTake s)) (s : State) (h : P s) :
    P (tankChange s) := hu _ (ht _ _ _ (he s h))

/-! ### Shedding (R161) -/

theorem shedRounds_keeps {P : State → Prop} (hpost : ∀ n s, P s → P (post n s)) (ht : ∀ s, P s → P (endTransfer .shed s))
    (hh : ∀ n s, P s → P (haltTrain n .shed s)) (cause : ShedCause) :
    ∀ (fuel : Nat) (s : State), P s → P (shedRounds cause fuel s)
  | 0, s, h => by simpa [shedRounds] using h
  | fuel + 1, s, h => by
    simp only [shedRounds]; split
    · exact h
    · split
      · exact shedRounds_keeps hpost ht hh cause fuel _ (ht _ (hpost _ s h))
      · split
        · exact h
        · exact shedRounds_keeps hpost ht hh cause fuel _ (hh _ _ (hpost _ s h))

/-- What shedding and a start check keep, a new effective allowance keeps (R159 to R161). -/
theorem allowanceChanged_keeps {P : State → Prop} (hpost : ∀ n s, P s → P (post n s))
    (ht : ∀ s, P s → P (endTransfer .shed s)) (hh : ∀ n s, P s → P (haltTrain n .shed s))
    (hstart : ∀ s, P s → P (startCheck s)) (cause : ShedCause) (old : Nat) (s : State) (h : P s) :
    P (allowanceChanged cause old s) := by
  unfold allowanceChanged; split
  · exact shedRounds_keeps hpost ht hh cause 4 s h
  · split
    · exact hstart s h
    · exact h

/-! ### The ends of draws (R106, R113, R118) -/

/-- What closing a line, its notices, a hand-over to a train, a free choice and a pass keep, the end of a draw keeps. -/
theorem endDraw_keeps {P : State → Prop} (hclose : ∀ k cause s, P s → P (closeLine k cause s))
    (hpost : ∀ n s, P s → P (post n s)) (hf : ∀ cause delivered n s, P s → P (flushEnded cause delivered n s))
    (hc : ∀ s : State, P s → P { s with choices := s.choices + 1 }) (hpass : ∀ s, P s → P (grantPass s)) (k : Fin 16)
    (cause : EndCause) (s : State) (h : P s) : P (endDraw k cause s) := by
  have hn : ∀ d s, P s → P (endNotices k cause d s) := fun d s h => by
    have h1 : P (if endPosts cause d.origin then post (.drawEnded k cause d.delivered) s else s) := by
      split
      · exact hpost _ s h
      · exact h
    unfold endNotices; dsimp only; split
    · exact hpost _ _ h1
    · exact hpost _ _ h1
    · exact h1
  unfold endDraw; split
  · exact h
  · rename_i d hd
    have h1 := hn d _ (hclose k cause s h)
    dsimp only; split
    · split
      · exact hpass _ (hf _ _ _ _ (takeChoice_keeps hc _ _ h1))
      · exact hf _ _ _ _ (hpass _ (takeChoice_keeps hc _ _ h1))
    · exact hpass _ h1

/-- What the end of a draw keeps, the end of every suspended draw keeps (R118). -/
theorem endSuspended_keeps {P : State → Prop} (he : ∀ k s, P s → P (endDraw k .supplyLost s)) (s : State) (h : P s) :
    P (endSuspended s) := foldl_keeps (fun s k h => he k s h) _ _ h

/-! ### The pressure sets (R124 to R126) -/

/-- What a supply hand-over, the designation and the start of the duty set keep, settling the sets keeps. -/
theorem settleSets_keeps {P : State → Prop} (hw : ∀ s, P s → P (workOutSupply s))
    (hd : ∀ cause s, P s → P (designate cause s)) (hs : ∀ s, P s → P (startDuty s)) (cause : ChangeoverCause) (s : State)
    (h : P s) : P (settleSets cause s) := hw _ (hs _ (hd _ _ (hw _ h)))

/-- A designation moves the duty to the other set, with its notice, or changes nothing (R124). -/
theorem designate_cases (cause : ChangeoverCause) (s : State) :
    (s.sets.sets[s.sets.duty].usable = false ∧ s.sets.sets[otherSet s.sets.duty].usable = true ∧
      designate cause s = post (.setChangeover (otherSet s.sets.duty) cause s.sets.duty)
        { s with sets := { s.sets with duty := otherSet s.sets.duty } }) ∨ designate cause s = s := by
  unfold designate; dsimp only; split
  · rename_i h
    simp only [Bool.and_eq_true, Bool.not_eq_true'] at h
    exact .inl ⟨h.1, h.2, rfl⟩
  · exact .inr rfl

/-- The duty set starts, or nothing changes (R125). -/
theorem startDuty_cases (s : State) :
    (s.eval.dutyTank.isSome = true ∧ (dutySet s).state = .idle ∧ (dutySet s).usable = true ∧
      startDuty s = startSet s.sets.duty s) ∨ startDuty s = s := by
  unfold startDuty; split
  · rename_i h
    simp only [Bool.and_eq_true, beq_iff_eq] at h
    exact .inl ⟨h.1.1, h.1.2, h.2, rfl⟩
  · exact .inr rfl

end Sys2Proof.Machine
end

