-- ==== Sys2Proof/Tests/Slice0.lean ====
section
/-!
SUPPORT. Tests. First the smoke test of WellFormed and one small plant: the worked case of the manual (spec/01 section
1.9 and its continuations in the later chapters). Then tests of one step each, whose expected values are those the
manual's worked cases and tables state. Last one witness for each obligation with hypotheses: a state and operands that
meet the hypotheses of every clause, at boundary values where a clause has a range. Hypotheses that only name a state or
a condition by an equation or an equivalence are met by that naming and are left out.
-/

namespace Sys2Proof.Tests

open Sys2Proof Sys2Proof.Machine

/-! ## WellFormed -/

/-- A body of 199 bytes fits no frame (spec/11, section 11.1), and 198 bytes fit. -/
theorem smoke_body_too_long : (Instr.readStatus .a 0 (List.replicate 199 0)).wf = false ∧
    (Instr.readStatus .a 0 (List.replicate 198 0)).wf = true := by
  unfold Instr.wf bodyFits; simp only [List.length_replicate]; decide

/-- A gate count above 65,535 is refused in all four gate-end rows (R42). -/
theorem smoke_gate_count : (Instr.frequencyGateEnd 0 65536).wf = false ∧ (Instr.inputFaultEntry 0 65536).wf = false ∧
    (Instr.inputFaultCleared 0 65536).wf = false ∧ (Instr.qualificationHoldComplete 0 65536).wf = false ∧
    (Instr.frequencyGateEnd 0 65535).wf = true := by decide

/-- An UNKNOWN_KIND_REQUEST does not carry a request kind (R174). -/
theorem smoke_known_kind : (Instr.unknownKindRequest .a 0x42 0 []).wf = false ∧
    (Instr.unknownKindRequest .a 0x43 0 []).wf = true := by decide

/-! ## The plant of the worked case -/

/-- A tank of the worked case: IN_SERVICE, seeded at its present volume, tolerance 150, quiet time 60. -/
def wTank (side : Side) (capacity stop volume : Nat) : Tank :=
  { Tank.fresh { TankDef.default with side := side, capacity := capacity, lowMark := 800, fillStop := stop, tolerance := 150 }
      [] .inService with
    seeded := true, seedVolume := volume, seedOrigin := some .seed, volume := volume }

/-- The strapping table of T2 (spec/03, section 3.9). -/
def wTable : List StrapPoint := [⟨0, 0⟩, ⟨400, 900⟩, ⟨1200, 4300⟩, ⟨2000, 8100⟩, ⟨2600, 12000⟩]

/-- A meter channel with a role and a K-factor of 40. -/
def wMeter (mode : MeterMode) (role : MeterRole) : Meter := .fresh (some ⟨mode, 40, role⟩) false false

/-- A line of the worked case, defined and metered. -/
def wLine (g : Fin 6) (flow : Nat) (src : Source) (batch : Nat) : DrawLine :=
  .fresh (some { group := g, flow := flow, defaultBatch := batch, maxBatch := 2000, maxDuration := 600, stallTime := 30,
                 source := src }) true

/-- A draw in service. -/
def wDraw (requested : Option Nat) (delivered : Nat) (origin : Source) (seq : Word32) : Draw :=
  { Draw.registered requested origin with delivered := delivered, grantSequence := some seq }

/-- A line with a draw in a state. -/
def lineWith (l : DrawLine) (st : LineState) (d : Draw) : DrawLine := { l with state := st, draw := some d }

/-- The plant of the worked case at second 4,210, as spec/05 section 5.11 finds it: T1 is duty, W0 is PRODUCING into T2,
L3 and L9 flow, set A is duty and RUNNING. -/
def plant : State :=
  { State.reset with
    now := 4210
    tanks := #v[wTank .port 9000 8600 5400, { wTank .stbd 9000 8600 6100 with duty := true, quietTimer := 212 },
      { wTank .port 12000 11600 3900 with strapping := wTable, fillTrains := [0], quietTimer := 75 },
      wTank .stbd 12000 11600 4400, wTank .centre 4000 3600 2100, .unconfigured, .unconfigured, .unconfigured,
      .unconfigured, .unconfigured, .unconfigured, .unconfigured]
    meters := #v[{ wMeter .quad4 .supply with residue := 37, netTotal := 18204 }, wMeter .single (.line 0),
      wMeter .single (.line 3), wMeter .single (.line 5), wMeter .single (.line 9), wMeter .single (.line 11),
      wMeter .single (.line 14), wMeter .quad1 (.product 0), wMeter .single (.product 1), wMeter .single .transfer,
      wMeter .single .shore, .fresh none false false, .fresh none false false, .fresh none false false,
      .fresh none false false, .fresh none false false, .fresh none false false, .fresh none false false,
      .fresh none false false, .fresh none false false, .fresh none false false, .fresh none false false,
      .fresh none false false, .fresh none false false]
    inputs := #v[.fresh none, .fresh none,
      { FrequencyInput.fresh (some (.level 2)) with window := [1128, 1131, 1130, 1129, 1132, 1130, 1131] },
      .fresh (some (.salinity 0)), .fresh (some (.salinity 1)), .fresh (some .none), .fresh none, .fresh none, .fresh none,
      .fresh none, .fresh none, .fresh none, .fresh none, .fresh none, .fresh none, .fresh none]
    eval := { Evaluator.fresh { EvaluatorSettings.default with balanceLimit := 1000 } with
      reserve := 21900, capacity := 46000, ratio := some 476, computed := 1, level := 1, callCount := 2,
      imbalance := -1200, dutyTank := some 1, dutyCandidates := [0, 1, 2, 3, 4], fillCandidates := [0, 1, 2, 3, 4] }
    lines := #v[wLine 1 30 .contact 50, .fresh none false, .fresh none false,
      lineWith (wLine 2 40 .contact 40) .flowing (wDraw (some 40) 12 .contact 1), .fresh none false,
      wLine 3 30 .contact 60, .fresh none false, .fresh none false, .fresh none false,
      lineWith (wLine 4 80 .message 1000) .flowing (wDraw (some 1200) 310 .message 2), .fresh none false,
      wLine 5 15 .contact 100, .fresh none false, .fresh none false, wLine 0 60 (.flush 0) 150, .fresh none false]
    groups := #v[⟨⟨7, 60⟩, [14]⟩, ⟨⟨7, 300⟩, [0]⟩, ⟨⟨5, 300⟩, [3]⟩, ⟨⟨4, 300⟩, [5]⟩, ⟨⟨2, 300⟩, [9]⟩, ⟨⟨1, 300⟩, [11]⟩]
    arb := { Arbiter.fresh 30 with
      inService := [3, 9], grantCounter := 2, levelHeld := 1, supplyHeld := .up, capacityHeld := 150 }
    sets := { PressureSets.fresh ⟨240, 18⟩ ⟨200, 15⟩ ⟨90, 15, 8, 24⟩ with
      sets := #v[⟨⟨240, 18⟩, .running, true, .idle, 0⟩, ⟨⟨200, 15⟩, .idle, false, .idle, 0⟩]
      supply := .up, grantCapacity := 150 }
    trains := #v[{ Train.fresh { TrainDef.default with ratedPower := 22, flushLine := 14 } with
        state := .producing, target := some 2, producingSince := some 3000, reading := .ppm 300, stall := ⟨0, 60⟩,
        runTimer := 1500 },
      .fresh { TrainDef.default with ratedPower := 22 }, .fresh { TrainDef.default with ratedPower := 30 }]
    waters := .opened
    startOrder := [1, 2, 0]
    transfer := ⟨⟨11, 60⟩, none, 0, .idle, none⟩
    power := ⟨90, [.train 0]⟩
    link := { State.reset.link with queue := [] } }

/-- The next state of a command, or the state before it if there is none. -/
def after (c : Instr) (s : State) : State :=
  match exec c s with
  | .next t => t
  | .fault _ => s
  | .refused _ => s

/-- The plant with one line changed. -/
def withLine (k : Fin 16) (f : DrawLine → DrawLine) : State := plant.modLine k f

/-- The notices of a state, without their times. -/
def notices (s : State) : List NoticeBody := s.link.queue.map Notice.body

/-- The status and the fields of the reply on Line A. -/
def replyA (s : State) : List Byte := (s.link.lineA.reply.drop 4).dropLast

/-! ## Tests of one step -/

/-- R181: power-on with no stored image gives the state after reset, with CONFIG_DEFAULTED posted. -/
theorem test_power_on_is_reset : after (.powerOn true 0 0 false) State.reset = State.reset ∧
    notices State.reset = [.configDefaulted] := by decide

/-- R181: a power-on with a stored image posts nothing and starts the clock again. -/
theorem test_power_on_from_store : (after (.powerOn true 0 0 false) { plant with
      link := { plant.link with stored := some { Image.defaults with trigger := 4 } } }).link.trigger = 4 ∧
    (after (.powerOn true 0 0 false) { plant with
      link := { plant.link with stored := some { Image.defaults with trigger := 4 } } }).link.queue = [] := by decide

/-- R32, R138: a tick counts the second and the run timer. -/
theorem test_second_tick : (after (.secondTick 0 1 false) plant).now = 4211 ∧
    (after (.secondTick 0 1 false) plant).trains[(0 : Fin 3)].runTimer = 1501 := by decide

/-- R87: a contact closed at two ticks in a row is asserted at the second. -/
theorem test_contact_is_debounced : Due.contactAssertion 0 ∈
      (after (.secondTick 1 1 false) (withLine 0 fun l => { l with contactClosed := true })).due ∧
    Due.contactAssertion 0 ∉ (after (.secondTick 1 1 false) plant).due := by decide

/-- R182: READ STATUS reports part code 740 and revision 1. -/
theorem test_read_status : (replyA (after (.readStatus .a 7 []) plant)).take 5 = [0x00, 0xE4, 0x02, 0x01, 0x72] := by decide

/-- R24: a tank index above 11 is refused BAD_INDEX. -/
theorem test_read_tank_bad_index : replyA (after (.readTank .a 7 [12]) plant) = [0x12] := by decide

/-- Spec/11 section 11.6: the reply frame of one fetch, byte by byte up to its last notice, and an empty queue after it. -/
theorem test_fetch_notices : (after (.fetchNotices .a 0x31 [2]) { plant with link := { plant.link with
      queue := [⟨4210, .drawEnded 11 .stalled 63⟩, ⟨4210, .lineFault 11 .stalled 63⟩] } }).link.lineA.reply.take 30 =
    [0xE7, 28, 0x8C, 0x31, 0x00, 0, 2, 0, 0x72, 0x10, 0, 0, 0x07, 11, 4, 63, 0, 0, 0, 0x72, 0x10, 0, 0, 0x09, 11, 1, 63, 0,
      0, 0] := by decide

/-- Spec/10 section 10.4, the notice queue example: with 32 queued, a fetch of 8 leaves 24 and clears the overflow flag. -/
theorem test_fetch_from_full_queue : (after (.fetchNotices .a 1 [8]) { plant with link := { plant.link with
      queue := List.replicate 32 ⟨1, .saveDone⟩, overflow := true } }).link.queue.length = 24 ∧
    (after (.fetchNotices .a 1 [8]) { plant with link := { plant.link with
      queue := List.replicate 32 ⟨1, .saveDone⟩, overflow := true } }).link.overflow = false := by decide

/-- R179: the snapshot latches V, and a page 1 read releases it. -/
theorem test_take_snapshot : ((after (.takeSnapshot .b 1 []) plant).link.snapshot.map fun i => i.tanks[(1 : Fin 12)].volume) =
    some 6100 := by decide
theorem test_read_snapshot_releases :
    (after (.readSnapshot .a 1 [1]) (after (.takeSnapshot .b 1 []) plant)).link.snapshot = none := by decide

/-- R23 and spec/03 R52: a reseed takes the level volume. -/
theorem test_reseed : (after (.reseedTank .a 1 [2])
      (plant.modTank 2 fun k => { k with levelHead := some 1130, levelVolume := some 4002 })).tanks[(2 : Fin 12)].volume = 4002 := by
  decide

/-- R22: a seed above the capacity is clamped and answered OK_ADJUSTED with the volume taken (4,000 = 0x0FA0). -/
theorem test_seed_is_clamped : replyA (after (.seedTank .a 1 ([4] ++ enc4 5000)) plant) = [0x01, 0xA0, 0x0F] ∧
    (after (.seedTank .a 1 ([4] ++ enc4 5000)) plant).tanks[(4 : Fin 12)].volume = 4000 := by decide

/-- Spec/01 section 1.9, taking the duty tank out of service: T0 takes duty, the reserve is 15,800 and the ratio 427. -/
theorem test_duty_tank_leaves_service :
    (after (.tankService .a 1 [1, 3]) plant).eval.dutyTank = some 0 ∧
    (after (.tankService .a 1 [1, 3]) plant).eval.reserve = 15800 ∧
    (after (.tankService .a 1 [1, 3]) plant).eval.ratio = some 427 ∧
    (after (.tankService .a 1 [1, 3]) plant).eval.imbalance = 4900 ∧
    (after (.tankService .a 1 [1, 3]) plant).out.outlet[(0 : Fin 12)] = true := by decide

/-- R5: DEFINE TANK of the duty tank is refused BUSY. -/
theorem test_define_tank_busy : replyA (after (.defineTank .a 1 (tankBody 1 plant.tanks[(1 : Fin 12)].defn)) plant) = [0x21] := by
  decide

/-- R51: a table that is loaded takes the level volume away (T3 has no role). -/
theorem test_load_strapping : (after (.loadStrapping .a 1 (strappingBody 3 wTable))
      (plant.modTank 3 fun k => { k with levelVolume := some 10 })).tanks[(3 : Fin 12)].levelVolume = none := by decide

/-- R40: a new definition clears the running fields and keeps the phase reference. -/
theorem test_define_meter : (after (.defineMeter .a 1 (meterBody 0 ⟨.quad4, 41, .supply⟩))
      (plant.modMeter 0 fun m => { m with phaseA := true })).meters[(0 : Fin 24)] =
    .fresh (some ⟨.quad4, 41, .supply⟩) true false := by decide

/-- R47: giving the LEVEL role again empties the window. -/
theorem test_define_frequency_input :
    (after (.defineFrequencyInput .a 1 [2, 2, 2]) plant).inputs[(2 : Fin 16)].window = [] := by decide

/-- R86: a line defined anew joins the bottom of its group's order; without a meter it stays UNCONFIGURED. -/
theorem test_define_lines : (after (.defineLines .a 1 (linesBody [1] ⟨1, 20, 10, 20, 60, 30, .message⟩)) plant).groups[(1 : Fin 6)].rotation
      = [0, 1] ∧
    (after (.defineLines .a 1 (linesBody [1] ⟨1, 20, 10, 20, 60, 30, .message⟩)) plant).lines[(1 : Fin 16)].state = .unconfigured := by
  decide

/-- R84: a patience below 10 is taken as 10. -/
theorem test_define_group : (after (.defineGroup .a 1 ([5, 1] ++ enc2 3)) plant).groups[(5 : Fin 6)].defn = ⟨1, 10⟩ ∧
    replyA (after (.defineGroup .a 1 ([5, 1] ++ enc2 3)) plant) = [0x01] := by decide

/-- R74: bands of 600 and above put a ratio of 476 at level 1 or above (here below all seven bands of 600). -/
theorem test_set_supply_bands :
    (after (.setSupplyBands .a 1 ((List.replicate 7 600).flatMap enc2 ++ [20])) plant).eval.level = 7 := by decide

/-- R75: with production bands of 900 the call of a ratio of 476 is 3. -/
theorem test_set_production_bands :
    (after (.setProductionBands .a 1 ((List.replicate 3 900).flatMap enc2 ++ [50])) plant).eval.callCount = 3 := by decide

/-- R76: a balance limit of 500 is below 501. -/
theorem test_set_balance_limit : replyA (after (.setBalance .a 1 (enc2 100 ++ enc2 500 ++ enc2 900)) plant) = [0x13] := by decide

/-- R155: DEFINE TRAIN of a PRODUCING train is refused BUSY. -/
theorem test_define_train_busy : replyA (after (.defineTrain .a 1 (trainBody 0 plant.trains[(0 : Fin 3)].defn)) plant) = [0x21] := by
  decide

/-- R5, R8: a removal of T3's definition replies OK and makes the tank UNCONFIGURED. -/
theorem test_remove_tank : replyA (after (.defineTank .a 1 (tankBody 3 { TankDef.default with capacity := 0 })) plant) =
      [0x00] ∧
    (after (.defineTank .a 1 (tankBody 3 { TankDef.default with capacity := 0 })) plant).tanks[(3 : Fin 12)].state =
      .unconfigured := by decide

/-- R133: set A is RUNNING and may not lose its capacity. -/
theorem test_define_sets_busy : replyA (after (.defineSets .a 1 (setsBody ⟨0, 0⟩ ⟨200, 15⟩ ⟨90, 15, 8, 24⟩ 30)) plant) = [0x21] := by
  decide

/-- R163: a stall time above 300 is taken as 300. -/
theorem test_define_transfer_pump : (after (.defineTransferPump .a 1 ([11] ++ enc2 999)) plant).transfer.pump = ⟨11, 300⟩ := by decide

/-- R177: a trigger of 33 is refused. -/
theorem test_set_notice_trigger : replyA (after (.setNoticeTrigger .a 1 [33]) plant) = [0x13] ∧
    (after (.setNoticeTrigger .a 1 [32]) plant).link.trigger = 32 := by decide

/-- R180: a save starts a write, and its end with a good check stores the image. -/
theorem test_save_configuration : (after (.saveConfiguration .a 1 []) plant).link.writing.isSome = true ∧
    notices (after (.storeWriteComplete true) (after (.saveConfiguration .a 1 []) plant)) = [.saveDone] := by decide

/-- R89: a DRAW above the max batch is clamped (2,000 = 0x07D0); the draw does not fit beside L3 and L9. -/
theorem test_draw_is_clamped : replyA (after (.draw .a 1 ([9] ++ enc2 3000))
      (withLine 9 fun l => { l with state := .idle, draw := none })) = [0x01, 9, 0xD0, 0x07] := by decide

/-- R111: CANCEL DRAW of the flowing L9 replies its 310 litres (0x0136) and leaves the line IDLE. -/
theorem test_cancel_draw : replyA (after (.cancelDraw .a 1 [9]) plant) = [0x00, 0x36, 0x01] ∧
    (after (.cancelDraw .a 1 [9]) plant).lines[(9 : Fin 16)].state = .idle := by decide

/-- R109, R107: END DRAW of L9 posts DRAW_ENDED, ENDED, 310. -/
theorem test_end_draw : notices (after (.endDraw .a 1 [9]) plant) = [.drawEnded 9 .ended 310] := by decide

/-- R110: no draw of the plant is without a requested amount, so a non-specific END DRAW replies NONE. -/
theorem test_end_draw_non_specific : replyA (after (.endDrawNonSpecific .a 1) plant) = [0x02] := by decide

/-- R95: MASK LINES sets the mask of the lines named, here L0 and L9. -/
theorem test_mask_lines : (after (.maskLines .a 1 [0x01, 0x02, 1]) plant).lines[(9 : Fin 16)].masked = true ∧
    (after (.maskLines .a 1 [0x01, 0x02, 1]) plant).lines[(3 : Fin 16)].masked = false := by decide

/-- Spec/05, rotation example: SET ROTATION L1 turns L1, L2, L0 into L2, L0, L1. -/
theorem test_set_rotation : (after (.setRotation .a 1 [1]) ((withLine 1 fun _ => wLine 1 5 .message 10).modGroup 1 fun g =>
      { g with rotation := [1, 2, 0] })).groups[(1 : Fin 6)].rotation = [2, 0, 1] := by decide

/-- R100: ARBITER MODE takes the mode. -/
theorem test_arbiter_mode : (after (.arbiterMode .a 1 [1]) plant).arb.mode = .manual := by decide

/-- R101: DISPATCH in AUTO is refused WRONG_STATE; in MANUAL it grants the first line that may go, here L5 (30 l/min of the
30 free). -/
theorem test_dispatch_auto : replyA (after (.dispatch .a 1 []) plant) = [0x22] := by decide
theorem test_dispatch : replyA (after (.dispatch .a 1 []) ((withLine 5 fun l =>
    { l with state := .pending, draw := some (Draw.registered (some 60) .contact) }).modArb fun a =>
      { a with mode := .manual, pendingList := [5] })) = [0x00, 5] := by decide

/-- Spec/06 section 6.9: RESET LINE of L11 with its contact held gives RELEASE_WAIT (code 5). -/
theorem test_reset_line : replyA (after (.resetLine .a 1 [11]) (withLine 11 fun l => { l with state := .fault, asserted := true })) =
    [0x00, 5] := by decide

/-- R151: DISABLED stops a running train with cause MODE_DISABLED. -/
theorem test_train_mode : (after (.trainMode .a 1 [0, 2]) plant).trains[(0 : Fin 3)].stopCause = some .modeDisabled := by decide

/-- R152: W1 starts; while it is PRIMING, W2 may not (WRONG_STATE). -/
theorem test_start_train : (after (.startTrain .a 1 [1]) plant).trains[(1 : Fin 3)].state = .priming := by decide
theorem test_start_train_wrong_state : replyA (after (.startTrain .a 1 [2])
    (plant.modTrain 1 fun w => { w with state := .priming, stage := some ⟨0, 60⟩ })) = [0x22] := by decide

/-- Spec/08 section 8.11, spec/05 section 5.11: STOP TRAIN W0 places its flush on L14, whose grant preempts L9. -/
theorem test_stop_train : (after (.stopTrain .a 1 [0]) plant).trains[(0 : Fin 3)].state = .flushing ∧
    (after (.stopTrain .a 1 [0]) plant).arb.inService = [3, 14] ∧
    (after (.stopTrain .a 1 [0]) plant).arb.pendingList = [9] ∧
    (after (.stopTrain .a 1 [0]) plant).arb.stoppedAt = some 9 := by decide

/-- R153: FLUSH TRAIN of a train in OFF asks for its flush volume. -/
theorem test_flush_train : (after (.flushTrain .a 1 [1]) plant).trains[(1 : Fin 3)].flushRemaining = 150 := by decide

/-- R154: RESET TRAIN from FAULT rests the train toward its min rest. -/
theorem test_reset_train : (after (.resetTrain .a 1 [2]) (plant.modTrain 2 fun w =>
      { w with state := .fault, faultCause := some .quality, mode := .manual })).trains[(2 : Fin 3)].rest = some ⟨0, 300⟩ := by
  decide

/-- R150: RESTRICTED stops the running W0. -/
theorem test_set_waters : (after (.setWaters .a 1 [0]) plant).trains[(0 : Fin 3)].stopCause = some .restricted := by decide

/-- Spec/04 section 4.11: SET SUPPLY FLOOR 9 replies OK_ADJUSTED with floor 7, and SL becomes 7. -/
theorem test_set_supply_floor : replyA (after (.setSupplyFloor .a 1 [9]) plant) = [0x01, 7, 7] ∧
    notices (after (.setSupplyFloor .a 1 [9]) plant) = [.supplyLevel .floor 7] := by decide

/-- Spec/09 section 9.7: with W0, W1 and the pump holding 55 kW, SET ALLOWANCE 60 sheds the pump and W1 and replies
allowance 60, effective 42, committed 22. -/
def cutPlant : State :=
  { plant.modTrain 1 fun w => { w with state := .producing, target := some 2, producingSince := some 3500, stall := ⟨0, 60⟩ } with
    startOrder := [2, 0, 1]
    power := ⟨90, [.train 0, .train 1, .pump]⟩
    transfer := ⟨⟨11, 60⟩, some ⟨.balance, 1, 2, 600⟩, 240, ⟨0, 60⟩, none⟩
    tanks := #v[wTank .port 9000 8600 5400, { wTank .stbd 9000 8600 5860 with duty := true, transferRole := .source },
      { wTank .port 12000 11600 4140 with fillTrains := [0, 1], transferRole := .dest }, wTank .stbd 12000 11600 4400,
      wTank .centre 4000 3600 2100, .unconfigured, .unconfigured, .unconfigured, .unconfigured, .unconfigured,
      .unconfigured, .unconfigured] }
theorem test_set_allowance : replyA (after (.setAllowance .a 1 [60, 0]) cutPlant) = [0x00, 60, 0, 42, 0, 22, 0] := by decide
theorem test_set_allowance_notices : notices (after (.setAllowance .a 1 [60, 0]) cutPlant) =
    [.shed .pump .allowance 42, .transferEnded 1 .shed 240, .shed (.train 1) .allowance 42] := by decide

/-- R164: a transfer from T1 to T3 adds the pump to the holders and opens the suction and inlet valves. -/
theorem test_start_transfer : (after (.startTransfer .a 1 ([1, 3] ++ enc2 100)) plant).power.holders = [.train 0, .pump] ∧
    (after (.startTransfer .a 1 ([1, 3] ++ enc2 100)) plant).out.suction[(1 : Fin 12)] = true ∧
    (after (.startTransfer .a 1 ([1, 3] ++ enc2 100)) plant).out.inlet[(3 : Fin 12)] = true := by decide

/-- R166: STOP TRANSFER replies the litres moved. -/
theorem test_stop_transfer : replyA (after (.stopTransfer .a 1 []) cutPlant) = [0x00, 240, 0, 0, 0] := by decide

/-- R168, R169: a shore fill of T4 opens the shore valve; with none active STOP SHORE FILL is refused. -/
theorem test_start_shore_fill : (after (.startShoreFill .a 1 [4, 0, 0]) plant).out.shoreValve = true := by decide
theorem test_stop_shore_fill : replyA (after (.stopShoreFill .a 1 []) plant) = [0x22] := by decide

/-- Spec/07 R131: set A taken OFF_LINE gives duty to B, which starts, and supply goes DOWN. -/
theorem test_pressure_set_service : (after (.pressureSetService .a 1 [0, 0]) plant).sets.duty = 1 ∧
    (after (.pressureSetService .a 1 [0, 0]) plant).sets.supply = .down ∧
    notices (after (.pressureSetService .a 1 [0, 0]) plant) = [.setChangeover 1 .service 0] := by decide

/-- R132: RESET PRESSURE SET of a set that is not FAILED is refused. -/
theorem test_reset_pressure_set : replyA (after (.resetPressureSet .a 1 [1]) plant) = [0x22] := by decide

/-- R174: an unknown kind is answered UNKNOWN_KIND (0x10), with the kind's reply bit set. -/
theorem test_unknown_kind : (after (.unknownKindRequest .b 0x43 9 [1, 2]) plant).link.lineB.reply =
    [0xE7, 3, 0xC3, 9, 0x10, 0x21] := by decide

/-- R172: a discard is counted and the receiver hunts; a gap in HUNT is nothing. -/
theorem test_frame_discard : (after (.frameDiscard .a) plant).link.lineA.discards = 1 := by decide
theorem test_gap_in_hunt : (after (.receiverGapTimeout .a) plant).link.lineA.discards = 0 := by decide

/-- R173: a frame on a busy line is discarded; the end of the reply frees the line. -/
theorem test_frame_while_busy :
    (after (.frameWhileBusy .a) (after (.readStatus .a 1 []) plant)).link.lineA.discards = 1 := by decide
theorem test_reply_sent : (after (.replySent .a) (after (.readStatus .a 1 []) plant)).link.lineA.busy = false := by decide

/-- R174: the debounced LOCAL moves authority to Line B. -/
theorem test_authority_change : authority (after .authorityChange { plant with
    due := [.authorityChange], link := { plant.link with localSample := true } }) = .b := by decide

/-- Spec/02 section 2.7: from residue 37 the rise of A gives 38; from 39 the fall of A with B high completes a litre, which
debits T1 to 6,099 and takes the net total to 18,205. -/
theorem test_supply_edge : (after (.meterEdge 0 true false) plant).meters[(0 : Fin 24)].residue = 38 := by decide
theorem test_supply_litre : (after (.meterEdge 0 false true) (plant.modMeter 0 fun m =>
      { m with residue := 39, phaseA := true, phaseB := true })).tanks[(1 : Fin 12)].volume = 6099 ∧
    (after (.meterEdge 0 false true) (plant.modMeter 0 fun m =>
      { m with residue := 39, phaseA := true, phaseB := true })).meters[(0 : Fin 24)].netTotal = 18205 := by decide

/-- Spec/01 section 1.9, saturation: a credit at the capacity of 4,000 goes to U, and a debit then takes V down. -/
theorem test_saturated_credit : (Tank.credit (wTank .centre 4000 3600 4000)).unbooked = 1 ∧
    (Tank.credit (wTank .centre 4000 3600 4000)).volume = 4000 ∧
    (Tank.debit (Tank.credit (wTank .centre 4000 3600 4000))).volume = 3999 := by decide

/-- Spec/03 section 3.9: the eighth raw value, 1,129, gives a head of 1,130 and a level volume of 4,002, which AGREEs. -/
theorem test_full_window : (after (.frequencyGateEnd 2 2129) plant).tanks[(2 : Fin 12)].levelVolume = some 4002 ∧
    (after (.frequencyGateEnd 2 2129) plant).tanks[(2 : Fin 12)].agreement = .agree := by decide

/-- Spec/03 section 3.9: a sum of 8,322 gives a head of 1,040 and 3,620 litres, 280 below V, so DISAGREE is posted and the
ratio falls to 470. -/
theorem test_disagreement : notices (after (.frequencyGateEnd 2 2040) (plant.modInput 2 fun x =>
      { x with window := [1040, 1040, 1040, 1040, 1040, 1040, 1042] })) = [.disagree 2 true 280] ∧
    (after (.frequencyGateEnd 2 2040) (plant.modInput 2 fun x =>
      { x with window := [1040, 1040, 1040, 1040, 1040, 1040, 1042] })).eval.ratio = some 470 := by decide

/-- Spec/03 section 3.9, loss of the transmitter: the third gate of 0 Hz faults F2 and takes T2's level away. -/
theorem test_input_fault_entry : notices (after (.inputFaultEntry 2 0) (plant.modInput 2 fun x => { x with outRun := 2 })) =
      [.levelFault 2 true 0] ∧
    (after (.inputFaultEntry 2 0) (plant.modInput 2 fun x => { x with outRun := 2 })).tanks[(2 : Fin 12)].levelVolume = none := by
  decide

/-- Spec/03 section 3.9: the third in-band gate, 2,040 Hz, clears the fault and its value opens the window. -/
theorem test_input_fault_cleared : (after (.inputFaultCleared 2 2040) (plant.modInput 2 fun x =>
      { x with fault := .fault, inRun := 2, window := [] })).inputs[(2 : Fin 16)].window = [1040] := by decide

/-- Spec/05 section 5.11, blocking at the head: the press of L5 makes a draw of its default batch of 60 litres, which fits
the 30 l/min left. -/
theorem test_contact_assertion : ((after (.contactAssertion 5) { withLine 5 fun l => { l with contactClosed := true } with
      due := [.contactAssertion 5] }).lines[(5 : Fin 16)].draw.map Draw.requested) = some (some 60) ∧
    (after (.contactAssertion 5) { withLine 5 fun l => { l with contactClosed := true } with
      due := [.contactAssertion 5] }).arb.inService = [3, 9, 5] := by decide

/-- Spec/06 section 6.9: the release of L11 in RELEASE_WAIT makes it IDLE. -/
theorem test_contact_release : (after (.contactRelease 11) { withLine 11 fun l =>
      { l with state := .releaseWait, asserted := true } with due := [.contactRelease 11] }).lines[(11 : Fin 16)].state = .idle := by
  decide

/-- R108: a draw that reaches its max duration ends TIMED_OUT and faults its line. -/
theorem test_draw_timed_out : notices (after (.drawTimedOut 9) { withLine 9 fun l =>
      { l with draw := l.draw.map fun d => { d with duration := 600 } } with due := [.drawTimedOut 9] }) =
    [.drawEnded 9 .timedOut 310, .lineFault 9 .timedOut 310] := by decide

/-- Spec/06 section 6.9, a stall (there of L11, here of L9 with 310 litres). -/
theorem test_draw_stalled : notices (after (.drawStalled 9) { withLine 9 fun l =>
      { l with draw := l.draw.map fun d => { d with stall := 30 } } with due := [.drawStalled 9] }) =
    [.drawEnded 9 .stalled 310, .lineFault 9 .stalled 310] := by decide

/-- R114: a draw that has waited its group's patience is aged, with AGED posted. -/
theorem test_draw_ages : notices (after (.drawAges 9) { withLine 9 fun l =>
      { l with state := .pending, draw := l.draw.map fun d => { d with wait := 300 } } with due := [.drawAges 9] }) =
    [.aged 9 4 300] := by decide

/-- The plant of spec/06 section 6.9 with supply DOWN: L14, L5, L11 and L0 SUSPENDED, L9 PENDING, the mode MANUAL. -/
def lossPlant : State :=
  { plant with
    lines := #v[lineWith (wLine 1 30 .contact 50) .suspended (wDraw (some 50) 10 .contact 6), .fresh none false,
      .fresh none false, wLine 2 40 .contact 40, .fresh none false,
      { lineWith (wLine 3 30 .contact 60) .suspended (wDraw (some 60) 22 .contact 4) with asserted := true },
      .fresh none false, .fresh none false, .fresh none false,
      lineWith (wLine 4 80 .message 1000) .pending { Draw.registered (some 1200) .message with delivered := 310 },
      .fresh none false,
      { lineWith (wLine 5 15 .contact 100) .suspended (wDraw (some 100) 40 .contact 5) with asserted := true },
      .fresh none false, .fresh none false,
      lineWith (wLine 0 60 (.flush 0) 150) .suspended (wDraw (some 150) 90 (.flush 0) 3), .fresh none false]
    arb := { Arbiter.fresh 30 with
      mode := .manual, pendingList := [9], inService := [14, 5, 11, 0], grantCounter := 6, levelHeld := 2, hold := some ⟨12, 30⟩ }
    eval := { plant.eval with level := 2, computed := 2, callCount := 0 }
    sets := { PressureSets.fresh ⟨240, 18⟩ ⟨200, 15⟩ ⟨90, 15, 8, 24⟩ with
      sets := #v[⟨⟨240, 18⟩, .failed, false, .idle, 8⟩, ⟨⟨200, 15⟩, .starting, true, ⟨11, 15⟩, 0⟩], duty := 1 }
    trains := upd plant.trains 0 fun w =>
      { w with state := .flushing, stopCause := some .hostStop, target := none, producingSince := none, stall := .idle,
               flushRemaining := 150, flushPlaced := true }
    tanks := upd plant.tanks 2 fun k => { k with fillTrains := [] }
    power := ⟨90, []⟩ }

/-- Spec/06 section 6.9, restore on the standby set: with 110 l/min L14, L0 and L11 resume and L5 is preempted. -/
theorem test_set_proved : (after (.setProved 1) { lossPlant with due := [.setProved 1] }).arb.inService = [14, 11, 0] ∧
    (after (.setProved 1) { lossPlant with due := [.setProved 1] }).arb.pendingList = [5, 9] ∧
    (after (.setProved 1) { lossPlant with due := [.setProved 1] }).arb.capacityHeld = 110 := by decide

/-- Spec/06 section 6.9, the other order at the restore: the hold expires, and the draws end SUPPLY_LOST in rank order
(without the flush draw L14, whose end takes a free choice, log 10). -/
theorem test_hold_timer_expiry : notices (after .holdTimerExpiry
      { (lossPlant.modLine 14 fun l => { l with state := .idle, draw := none }).modArb fun a =>
        { a with hold := some ⟨30, 30⟩, inService := [5, 11, 0] } with due := [.holdExpiry] }) =
    [.drawEnded 0 .supplyLost 10, .drawEnded 5 .supplyLost 22, .drawEnded 11 .supplyLost 40] := by decide

/-- R125: the start of B not proved within its time ends FAILED with START_PROOF. -/
theorem test_set_start_proof_failed : notices (after (.setStartProofFailed 1)
      { lossPlant.modSet 1 fun p => { p with proofClosed := false, startTimer := ⟨15, 15⟩ } with due := [.setStartProofFailed 1] }) =
    [.setFailed 1 .startProof 15] := by decide

/-- Spec/07 section 7.9, changeover at the eighth tick. -/
theorem test_set_proof_lost : notices (after (.setProofLost 0)
      { plant.modSet 0 fun p => { p with proofClosed := false, lossTimer := 8 } with due := [.setProofLost 0] }) =
    [.setFailed 0 .proofLost 8, .setChangeover 1 .proofLost 0] := by decide

/-- R127: with a changeover time lowered to 3 the loss timer at 5 still counts its seconds, and at 6 the loss is due. -/
theorem test_loss_timer_past_the_changeover_time : (fun s : State =>
      s.sets.sets[(0 : Fin 2)].lossTimer = 6 ∧ Due.setProofLost 0 ∈ s.due)
    (after (.secondTick 0 0 false) { plant with
      sets := { plant.sets with
        sets := upd plant.sets.sets 0 fun p => { p with proofClosed := false, lossTimer := 5 }
        settings := { plant.sets.settings with changeover := 3 } } }) := by decide

/-- R129: the old duty set is stopped with its proof-loss timer at 0 and its start timer as it stood. -/
theorem test_alternation_keeps_the_start_timer : (after (.setProved 1) { plant with
      sets := { plant.sets with sets := #v[⟨⟨240, 18⟩, .running, true, ⟨7, 15⟩, 2⟩, ⟨⟨200, 15⟩, .starting, true, ⟨3, 15⟩, 0⟩] },
      due := [.setProved 1] }).sets.sets[(0 : Fin 2)] = ⟨⟨240, 18⟩, .idle, true, ⟨7, 15⟩, 0⟩ := by decide

/-- Spec/07 section 7.9, alternation: at the expiry B starts while A holds the ring, and the timer starts again. -/
theorem test_alternation_expiry : (after .alternationExpiry { plant with
      sets := { plant.sets with alternationTimer := some ⟨86400, 24⟩ }, due := [.alternation] }).sets.alternationTimer =
      some ⟨0, 24⟩ ∧
    (after .alternationExpiry { plant with
      sets := { plant.sets with alternationTimer := some ⟨86400, 24⟩ }, due := [.alternation] }).sets.sets[(1 : Fin 2)].state =
      .starting := by decide

/-- Spec/08 section 8.11: the prime timer at 60 takes W1 to RAMPING, the ramp timer at 30 to DIVERTING. -/
theorem test_prime_timer_expiry : (after (.primeTimerExpiry 1) { plant.modTrain 1 fun w =>
      { w with state := .priming, stage := some ⟨60, 60⟩ } with due := [.prime 1] }).trains[(1 : Fin 3)].state = .ramping := by decide
theorem test_ramp_timer_expiry : (after (.rampTimerExpiry 1) { plant.modTrain 1 fun w =>
      { w with state := .ramping, stage := some ⟨30, 30⟩ } with due := [.ramp 1] }).trains[(1 : Fin 3)].stage = some ⟨0, 900⟩ := by
  decide

/-- Spec/08 section 8.11: the 120th reading within the limit makes W1 PRODUCING into T2, beside W0. -/
theorem test_qualification_hold : (after (.qualificationHoldComplete 4 1400) (plant.modTrain 1 fun w =>
      { w with state := .diverting, stage := some ⟨230, 900⟩, qualification := ⟨119, 120⟩ })).tanks[(2 : Fin 12)].fillTrains =
    [0, 1] := by decide

/-- R140: the divert max timer stops the train with QUALITY. -/
theorem test_divert_max_expiry : (after (.divertMaxExpiry 1) { plant.modTrain 1 fun w =>
      { w with state := .diverting, stage := some ⟨900, 900⟩ } with due := [.divertMax 1] }).trains[(1 : Fin 3)].stopCause =
    some .quality := by decide

/-- R141: the product stall timer stops the train with NO_PRODUCT. -/
theorem test_product_stall_expiry : (after (.productStallExpiry 0) { plant.modTrain 0 fun w =>
      { w with stall := ⟨60, 60⟩ } with due := [.productStall 0] }).trains[(0 : Fin 3)].stopCause = some .noProduct := by decide

/-- R149: with the call at 0, the min run of W0 brings its stop. -/
theorem test_min_run_expiry : (after (.minRunExpiry 0) { plant.modEval fun e => { e with callCount := 0 } with
      due := [.minRun 0] }).trains[(0 : Fin 3)].stopCause = some .callDropped := by decide

/-- R144, R90: a flush request finds L14 IDLE and is placed with the remaining litres. -/
theorem test_flush_request : ((after (.flushRequest 0) { plant.modTrain 0 fun w =>
      { w with state := .flushWait, flushRemaining := 60 } with due := [.flushRequest 0] }).lines[(14 : Fin 16)].draw.map
        Draw.requested) = some (some 60) := by decide

/-- Spec/08 section 8.11: at the flush wait max the train faults UNFLUSHED with its 60 litres remaining. -/
theorem test_flush_wait_expiry : notices (after (.flushWaitExpiry 1) { plant.modTrain 1 fun w =>
      { w with state := .flushWait, flushRemaining := 60, flushWait := ⟨300, 300⟩ } with due := [.flushWait 1] }) =
    [.trainFault 1 .unflushed 60] := by decide

/-- R146, R148: the rest of W1 ends, and with the call at 2 it starts. -/
theorem test_rest_timer_expiry : (after (.restTimerExpiry 1) { plant.modTrain 1 fun w =>
      { w with rest := some ⟨300, 300⟩ } with due := [.rest 1] }).startOrder = [2, 0, 1] := by decide

/-- Spec/09 section 9.7: the review starts a balancing transfer of 600 litres from T1 to T2. -/
theorem test_review_timer_expiry : (after .reviewTimerExpiry { plant.modTank 2 fun k =>
      { k with levelVolume := some 4002 } with due := [.review] }).transfer.run = some ⟨.balance, 1, 2, 600⟩ := by decide

/-- R165: a stalled transfer ends STALLED. -/
theorem test_transfer_stalled : notices (after .transferStalled { cutPlant with
      transfer := { cutPlant.transfer with stall := ⟨60, 60⟩ }, due := [.transferStall] }) = [.transferEnded 1 .stalled 240] := by
  decide

/-- R172: the start byte takes the receiver to LENGTH; a length byte of 1 discards. -/
theorem test_byte_received : (after (.byteReceived .a 0xE7 true) plant).link.lineA.receiver = .length ∧
    (after (.byteReceived .a 1 true) (after (.byteReceived .a 0xE7 true) plant)).link.lineA.discards = 1 := by decide

/-- Spec/04 section 4.11, the hysteresis at work: the levels at 399, 415, 421, 500 and 520 in turn, and the call of 476. -/
theorem test_graded_level :
    (([399, 415, 421, 500, 520] : List Nat).foldl (fun (p : List Nat × Nat) r =>
      let l := gradedLevel EvaluatorSettings.default.supplyBands 20 p.2 r
      (p.1 ++ [l], l)) ([], 1)).1 = [2, 2, 1, 1, 0] ∧
    gradedLevel [850, 600, 350] 50 0 476 = 2 := by decide

/-- Spec/03 section 3.9: the table of T2 at 1,130 and at 1,040. -/
theorem test_strapping : strapVolume 12000 wTable 1130 = some 4002 ∧ strapVolume 12000 wTable 1040 = some 3620 := by decide

/-- Spec/04 section 4.11, loss of the duty tank: a SUPPLY litre takes T3 to 800, and with T1 at 780 no duty tank is left. -/
theorem test_loss_of_duty_tank :
    notices (tankChange { plant with
      tanks := #v[.unconfigured, wTank .stbd 9000 8600 780, .unconfigured, { wTank .stbd 12000 11600 800 with duty := true },
        .unconfigured, .unconfigured, .unconfigured, .unconfigured, .unconfigured, .unconfigured, .unconfigured,
        .unconfigured]
      trains := Vector.replicate 3 (.fresh .default), power := ⟨90, []⟩
      eval := { plant.eval with dutyTank := some 3, computed := 6, level := 6 } }) = [.noSupply 3 .low 1580] := by decide

/-! ## Witnesses -/

/-- The plant with one command waiting. -/
def waiting (c : Instr) : State := { plant with pending := [c] }

/-- The plant with one tank, train, set, input or channel changed; `due` is the list of events of the last tick. -/
def onTank (t : Fin 12) (f : Tank → Tank) : State := plant.modTank t f
def onTrain (n : Fin 3) (f : Train → Train) (due : List Due := []) : State := { plant.modTrain n f with due := due }
def onSet (x : Fin 2) (f : PressureSet → PressureSet) (due : List Due := []) : State := { plant.modSet x f with due := due }
def onInput (i : Fin 16) (f : FrequencyInput → FrequencyInput) : State := plant.modInput i f
def onMeter (m : Fin 24) (f : Meter → Meter) : State := plant.modMeter m f
def onLine (k : Fin 16) (f : DrawLine → DrawLine) (due : List Due := []) : State := { plant.modLine k f with due := due }
def onLink (f : Link → Link) : State := plant.modLink f

/-- A channel, an input and a train of the plant. -/
def meterOf (m : Fin 24) : Meter := plant.meters[m]
def inputOf (i : Fin 16) : FrequencyInput := plant.inputs[i]
def trainOf (n : Fin 3) : Train := plant.trains[n]

/-- A draw in service on a line, as the only one of the plant changed. -/
def flowingWith (f : Draw → Draw) (due : List Due := []) : State := onLine 9 (fun l => { l with draw := l.draw.map f }) due

theorem plant_free : LineFree .a plant := rfl
theorem plant_inControl : InControl .a plant := ⟨rfl, rfl⟩
theorem plant_mayDefine : MayDefine .a plant := ⟨⟨rfl, rfl⟩, rfl⟩

/-- Nothing is some of an absent value. -/
theorem of_none {α : Type} {o : Option α} {p : α → Prop} (h : o = none) : ∀ x, o = some x → p x := by
  intro x hx; rw [h] at hx; cases hx

theorem plant_tankLaws : TankLaws plant := by unfold TankLaws; decide
theorem plant_residueLaw : ResidueLaw plant :=
  ⟨by decide, of_none rfl, of_none rfl⟩
theorem plant_queueLaw : QueueLaw plant := by unfold QueueLaw; decide
theorem plant_setsLaw : SetsLaw plant := by unfold SetsLaw; decide
theorem plant_startLaw : StartLaw plant := by unfold StartLaw Starting; decide
theorem plant_powerLaw : PowerLaw plant := by unfold PowerLaw; decide
theorem plant_fillLaw : FillLaw plant := by unfold FillLaw FillLists; decide
theorem plant_listsLaw : ListsLaw plant := by unfold ListsLaw; decide
theorem plant_arbiterLaw : ArbiterLaw plant :=
  ⟨plant_listsLaw, by decide, by decide, by decide, of_none rfl, of_none rfl⟩

/-! ### The machine and the link -/

theorem witness_StepTakesFrontCommand :
    (waiting .authorityChange).pending = .authorityChange :: [] ∧ plant.pending = [] := by decide

/-- An image with a tank, a meter and a line, and the plant with that image stored. -/
def wImage : Image :=
  { Image.defaults with
    tanks := upd Image.defaults.tanks 0 fun _ => some ⟨.default, []⟩
    meters := upd Image.defaults.meters 0 fun _ => some ⟨.single, 1, .line 0⟩
    lines := upd Image.defaults.lines 0 fun _ => some .default }
def wStored : State := onLink fun l => { l with stored := some wImage }

theorem witness_PowerOnTakesTheImage :
    (true = true ∧ wStored.link.stored = some wImage ∧ ([] : List Notice) = []) ∧
    ((false = false ∨ wStored.link.stored = none) ∧ Image.defaults = .defaults) ∧ plant.link.stored = none ∧
    wImage.tanks[(1 : Fin 12)] = none ∧ wImage.tanks[(0 : Fin 12)] = some ⟨.default, []⟩ ∧
    wImage.lines[(0 : Fin 16)] = some .default := by
  refine ⟨⟨rfl, rfl, rfl⟩, ⟨.inl rfl, rfl⟩, rfl, ?_, ?_, ?_⟩ <;> decide

/-- A tank whose record is full: three fill trains and twelve table points. -/
def wFullTank : Tank :=
  { wTank .port 12000 11600 3900 with
    fillTrains := [0, 1, 2], strapping := List.replicate 12 ⟨4000, 12000⟩, levelVolume := some 4002, agreement := .disagree }

theorem witness_ReadsReport : LineFree .a plant ∧ ((∀ x ∈ [12, 255], 12 ≤ x ∧ x < 256) ∧
      (∀ x ∈ [24, 255], 24 ≤ x ∧ x < 256) ∧ (∀ x ∈ [16, 255], 16 ≤ x ∧ x < 256) ∧ (∀ x ∈ [6, 255], 6 ≤ x ∧ x < 256) ∧
      (∀ x ∈ [3, 255], 3 ≤ x ∧ x < 256)) ∧
    (wFullTank.defn.tag.length = 8 ∧ wFullTank.fillTrains.length ≤ 3 ∧ wFullTank.strapping.length ≤ 12 ∧
      wFullTank.fillTrains[2]? = some 2 ∧ wFullTank.strapping[11]? = some ⟨4000, 12000⟩ ∧
      wFullTank.levelVolume = some 4002 ∧ (wTank .port 9000 8600 10).levelVolume = none) ∧
    ((∀ r ∈ [(-5461 : Int), 5461], -32768 ≤ r * 6 ∧ r * 6 ≤ 32767) ∧ -32768 ≤ (meterOf 0).completed.sum * 6 ∧
      (meterOf 0).completed.sum * 6 ≤ 32767) ∧
    ((inputOf 2).window.length ≤ 8 ∧ (inputOf 2).window[6]? = some 1131 ∧ (inputOf 2).lastFrequency = none ∧
      (inputOf 2).head = none ∧ ({ inputOf 2 with lastFrequency := some 65535, head := some 4000 }).head = some 4000) ∧
    (plant.lines[(0 : Fin 16)].draw = none ∧ plant.lines[(9 : Fin 16)].draw = some (wDraw (some 1200) 310 .message 2) ∧
      (wDraw (some 1200) 310 .message 2).requested = some 1200 ∧ (wDraw none 310 .message 2).requested = none ∧
      (wDraw (some 1200) 310 .message 2).grantSequence = some 2 ∧
      ({ wDraw none 0 .contact 1 with suspendedSince := some 9 }).suspendedSince = some 9) ∧
    (plant.groups[(1 : Fin 6)].rotation.length < 256 ∧ plant.groups[(1 : Fin 6)].rotation[0]? = some 0) ∧
    ((trainOf 0).target = some 2 ∧ (trainOf 1).target = none ∧ (trainOf 0).reading = .ppm 300 ∧
      (onTrain 0 fun w => { w with reading := .fault }).trains[(0 : Fin 3)].reading = .fault) ∧
    (plant.power.holders.length ≤ 4 ∧ cutPlant.transfer.run = some ⟨.balance, 1, 2, 600⟩) ∧
    (lossPlant.arb.pendingList.length < 256 ∧ lossPlant.arb.inService.length < 256 ∧ lossPlant.arb.pendingList[0]? = some 9) ∧
    (plant.eval.settings.supplyBands.length = 7 ∧ plant.eval.settings.productionBands.length = 3 ∧
      plant.eval.settings.supplyBands[6]? = some 50 ∧ State.reset.eval.ratio = none ∧ State.reset.eval.dutyTank = none ∧
      plant.eval.dutyTank = some 1) := ⟨plant_free, by decide⟩

theorem witness_FetchNoticesRemovesTheOldest : LineFree .a plant ∧
    (∀ n ∈ [0, 9, 255], n < 256 ∧ (n = 0 ∨ 8 < n)) ∧ (∀ n ∈ [1, 8], n < 256 ∧ 1 ≤ n ∧ n ≤ 8) := ⟨plant_free, by decide⟩

/-- The plant with a latched snapshot. -/
def wLatched : State := (after (.takeSnapshot .b 1 []) plant)

theorem witness_SnapshotIsLatchedReadAndReleased : LineFree .a plant ∧ plant.link.snapshot = none ∧
    (∀ p ∈ [0, 1], p ≤ 1) ∧ LineFree .a wLatched ∧ (∃ i, wLatched.link.snapshot = some i) ∧
    (∀ p ∈ [2, 255], 2 ≤ p ∧ p < 256) :=
  ⟨rfl, rfl, by decide, by unfold LineFree; decide, ⟨_, rfl⟩, by decide⟩

/-- The plant with a store write in flight. -/
def wWriting : State := onLink fun l => { l with writing := some Image.defaults }

theorem witness_LinkChecksComeFirst :
    (requestOf (.unknownKindRequest .a 0x43 9 []) = some ⟨.a, 0x43, 9, []⟩ ∧ LineFree .a plant ∧
      (0x43 : Byte).toNat ∉ requestKinds) ∧
    (requestOf (.readTank .a 9 []) = some ⟨.a, 0x02, 9, []⟩ ∧ (0x02 : Byte).toNat ∈ requestKinds ∧
      ¬ lengthRequired (0x02 : Byte).toNat []) ∧
    (requestOf (.setWaters .b 9 [0]) = some ⟨.b, 0x55, 9, [0]⟩ ∧ LineFree .b plant ∧ (0x55 : Byte).toNat ∈ requestKinds ∧
      lengthRequired (0x55 : Byte).toNat [0] ∧ 0x20 ≤ (0x55 : Byte).toNat ∧ .b ≠ authority plant) ∧
    (requestOf (.defineTank .b 9 (List.replicate 21 0)) = some ⟨.b, 0x20, 9, List.replicate 21 0⟩ ∧
      (0x20 : Byte).toNat ∈ requestKinds ∧ lengthRequired (0x20 : Byte).toNat (List.replicate 21 0)) ∧
    (requestOf (.saveConfiguration .a 9 []) = some ⟨.a, 0x2F, 9, []⟩ ∧ LineFree .a wWriting ∧
      (0x2F : Byte).toNat ∈ requestKinds ∧ lengthRequired (0x2F : Byte).toNat [] ∧ .a = authority wWriting ∧
      wWriting.link.writing.isSome = true) := by
  refine ⟨⟨rfl, rfl, by decide⟩, ⟨rfl, by decide, ?_⟩, ⟨rfl, rfl, by decide, rfl, by decide⟩, ⟨rfl, by decide, rfl⟩,
    ⟨rfl, rfl, by decide, rfl, by decide⟩⟩
  exact (by decide : ¬ ([] : List Byte).length = 1)

theorem witness_RefusedRequestChangesNothing :
    (∃ own ∈ requestOwners, (handleRequest own .a [2] plant).2.status = .badValue) ∧ InControl .a plant ∧
    (∀ x ∈ [12, 16, 3, 2, 254, 255], x < 256) ∧ (∀ x ∈ [0, 1, 5, 255], x < 2 ∨ 4 < x) ∧ MayDefine .a plant ∧
    (∃ d : TankDef, d.tag.length = 8 ∧ 0 < d.capacity ∧ d.capacity < 65536 ∧ d.capacity < 500) ∧
    (plant.tanks[(1 : Fin 12)].defn.tag.length = 8 ∧ plant.tanks[(1 : Fin 12)].duty = true ∧
      plant.tanks[(2 : Fin 12)].fillTrains ≠ []) ∧
    (plant.tanks[(5 : Fin 12)].state = .unconfigured ∧ plant.tanks[(2 : Fin 12)].state ≠ .unconfigured ∧
      plant.tanks[(2 : Fin 12)].defn.capacity < 12001) ∧
    ((meterOf 1).defn.role = .line 0 ∧ (meterOf 1).defined = true ∧ roleBusy (meterOf 2).defn.role plant = true ∧
      roleBusy (.line 9) plant = true) ∧
    ((inputOf 2).defined = true ∧ (inputOf 2).role = .level 2 ∧ (2 : Fin 16) ≠ 3) ∧
    (plant.lines[(3 : Fin 16)].state.holdsDraw = true ∧ plant.lines[(0 : Fin 16)].state.holdsDraw = false) ∧
    ((∃ b ∈ [(15 : Byte), 16], 16 ≤ b.toNat) ∧ (∀ b ∈ [(0 : Byte), 15], b.toNat < 16) ∧ (∀ f ∈ [1, 200], 1 ≤ f ∧ f ≤ 200) ∧
      (List.replicate 12 (0 : Byte)).length = 12 ∧ (List.replicate 8 (0 : Byte)).length = 8 ∧
      (∀ g ∈ [6, 255], 6 ≤ g ∧ g < 256) ∧ (∀ g ∈ [0, 5], g < 6) ∧ (∀ k ∈ [3, 255], 3 ≤ k ∧ k < 256)) ∧
    ((∀ c ∈ [1, 65535], 0 < c ∧ c < 65536) ∧ (∀ x ∈ [0, 1, 5, 255], x < 2 ∨ 4 < x) ∧
      plant.tanks[(1 : Fin 12)].state ≠ .unconfigured ∧
      ∀ ps ∈ [[], ([⟨0, 0⟩, ⟨4000, 9000⟩] : List StrapPoint)], ps.length ≠ 1 ∧ ps.length ≤ 12 ∧
        (∀ p ∈ ps, p.head ≤ 4000 ∧ p.volume ≤ plant.tanks[(1 : Fin 12)].defn.capacity ∧ p.volume < 65536) ∧
        ps.Pairwise fun p q => p.head < q.head ∧ p.volume ≤ q.volume) ∧
    ((∀ k ∈ [1, 1000], 1 ≤ k ∧ k ≤ 1000) ∧ (∀ p ∈ [(3, 0), (255, 0), (2, 6), (0, 255)], 3 ≤ p.1 ∨ 6 ≤ p.2) ∧
      (∀ p ∈ [(2, 3), (2, 255), (5, 16), (5, 255)], p.1 = 2 ∧ 3 ≤ p.2 ∨ p.1 = 5 ∧ 16 ≤ p.2)) ∧
    ((∀ k ∈ [4, 255], 4 ≤ k ∧ k < 256) ∧ (∀ p ∈ [(2, 12), (2, 255), (3, 3), (3, 255)], p.1 = 2 ∧ 12 ≤ p.2 ∨ p.1 = 3 ∧ 3 ≤ p.2)) ∧
    (∀ d ∈ [{ TrainDef.default with ratedPower := 80, salinityLimit := 2000, flushVolume := 1000 },
        { TrainDef.default with salinityLimit := 50, flushVolume := 20 }], d.ratedPower ≤ 80 ∧ 50 ≤ d.salinityLimit ∧
      d.salinityLimit ≤ 2000 ∧ 20 ≤ d.flushVolume ∧ d.flushVolume ≤ 1000) := by
  refine ⟨by decide, plant_inControl, by decide, by decide, plant_mayDefine,
    ⟨{ TankDef.default with capacity := 499 }, by decide⟩, by decide, by decide, by decide, by decide, by decide,
    by decide, by decide, by decide, by decide, by decide⟩

/-- The plant with Line A's receiver in a state. -/
def receiving (r : Receiver) : State := plant.modSerial .a fun l => { l with receiver := r }

theorem witness_ReceiverFollowsItsTable :
    (plant.link.serial .a).receiver = .hunt ∧ ((receiving .length).link.serial .a).receiver = .length ∧
    ((receiving .length).link.serial .a).receiver ≠ .hunt ∧
    (∀ b ∈ [(2 : Byte), 200], 2 ≤ b.toNat ∧ b.toNat ≤ 200) ∧
    (∀ b ∈ [(0 : Byte), 1, 201, 255], b.toNat < 2 ∨ 200 < b.toNat) ∧
    (((receiving (.body 2 [])).link.serial .a).receiver = .body 2 [] ∧ ([] : List Byte).length + 1 < 2) ∧
    (((receiving (.body 2 [1])).link.serial .a).receiver = .body 2 [1] ∧ [(1 : Byte)].length + 1 = 2) ∧
    (((receiving (.check 2 [1, 9])).link.serial .a).receiver = .check 2 [1, 9] ∧
      (2 + ([(1 : Byte), 9].map BitVec.toNat).sum + (0xF3 : Byte).toNat) % 256 ≠ 0) ∧
    ((after (.readStatus .a 1 []) plant).link.serial .a).busy = true ∧
    requestOf (.readStatus .a 1 []) = some ⟨.a, 1, 1, []⟩ := by decide

theorem witness_BytesMakeTheRequest : requestOf (.setWaters .a 9 [0]) = some ⟨.a, 0x55, 9, [0]⟩ ∧
    requestOf (.readStatus .a 9 (List.replicate 198 0)) = some ⟨.a, 0x01, 9, List.replicate 198 0⟩ ∧
    (List.replicate 198 (0 : Byte)).length ≤ 198 ∧ finish (finish plant) = finish plant ∧
    ((finish plant).link.serial .a).receiver = .hunt := by
  refine ⟨rfl, rfl, ?_, rfl, rfl⟩; rw [List.length_replicate]

theorem witness_StoreTriggerAndLineEvents : wWriting.link.writing = some Image.defaults ∧
    (Due.authorityChange ∈ ({ onLink fun l => { l with localSample := true } with due := [.authorityChange] } : State).due ∧
      (onLink fun l => { l with localSample := true }).link.localSample ≠
        (onLink fun l => { l with localSample := true }).link.localAsserted) ∧ MayDefine .a plant ∧
    (∀ n ∈ [1, 32], n < 256 ∧ 1 ≤ n ∧ n ≤ 32) ∧ (∀ n ∈ [0, 33, 255], n < 256 ∧ (n = 0 ∨ 32 < n)) :=
  ⟨rfl, by decide, plant_mayDefine, by decide⟩

theorem witness_QueueLawIsKept : (QueueLaw (waiting .authorityChange) ∧ ∃ t, step (waiting .authorityChange) = .next t) ∧
    (List.replicate 31 (⟨0, .saveDone⟩ : Notice)).length < 32 ∧ 32 ≤ (List.replicate 32 (⟨0, .saveDone⟩ : Notice)).length :=
  ⟨⟨plant_queueLaw, _, rfl⟩, by decide⟩

/-! ### Tanks -/

theorem witness_BookingsOfOneLitre :
    (wTank .centre 4000 3600 3999).volume < (wTank .centre 4000 3600 3999).defn.capacity ∧
    (wTank .centre 4000 3600 4000).volume = (wTank .centre 4000 3600 4000).defn.capacity ∧
    0 < (wTank .centre 4000 3600 1).volume ∧ (wTank .centre 4000 3600 0).volume = 0 := by decide

/-- T6 UNKNOWN, T7 ISOLATED and unseeded, T8 ISOLATED and seeded, beside the tanks of the plant. -/
def tankPlant : State :=
  { plant with tanks := upd (upd (upd plant.tanks 6 fun _ => .fresh .default [] .unknown) 7 fun _ =>
      .fresh .default [] .isolated) 8 fun _ => { wTank .port 9000 8600 10 with state := .isolated } }

theorem witness_SeedRequestsSeedTheTank : InControl .a tankPlant ∧
    tankPlant.tanks[(5 : Fin 12)].state = .unconfigured ∧
    (tankPlant.tanks[(0 : Fin 12)].state ≠ .unconfigured ∧ tankPlant.tanks[(0 : Fin 12)].levelVolume = none) ∧
    (tankPlant.tanks[(6 : Fin 12)].state = .unknown ∧ (4294967295 : Nat) < 4294967296) ∧
    (onTank 2 fun k => { k with levelVolume := some 4002 }).tanks[(2 : Fin 12)].levelVolume = some 4002 :=
  ⟨⟨rfl, rfl⟩, by decide⟩

theorem witness_TankRequestsAct : InControl .a tankPlant ∧ MayDefine .a plant ∧
    (tankPlant.tanks[(5 : Fin 12)].state = .unconfigured ∧
      (tankPlant.tanks[(6 : Fin 12)].state = .unknown ∧ ServiceState.quarantine ≠ .isolated) ∧
      (tankPlant.tanks[(7 : Fin 12)].state = .isolated ∧ tankPlant.tanks[(7 : Fin 12)].seeded = false) ∧
      (tankPlant.tanks[(8 : Fin 12)].state = ServiceState.isolated.toTankState ∧
        tankPlant.tanks[(0 : Fin 12)].state = ServiceState.inService.toTankState) ∧
      (tankPlant.tanks[(8 : Fin 12)].state ≠ ServiceState.inService.toTankState ∧
        tankPlant.tanks[(8 : Fin 12)].seeded = true)) ∧
    (∀ t ∈ [(0 : Fin 12), 3, 5], plant.tanks[t].duty = false ∧ plant.tanks[t].fillTrains = [] ∧
      plant.tanks[t].transferRole = .none ∧ plant.tanks[t].shoreTarget = false ∧ plant.tanks[t].strapping.getLast? = none) ∧
    (∀ d ∈ [TankDef.default, { TankDef.default with capacity := 60000, fillStop := 1, tolerance := 5000, quietTime := 65535 }],
      d.tag.length = 8 ∧ (∀ b ∈ d.tag, 0x20 ≤ b.toNat ∧ b.toNat ≤ 0x7E) ∧ 500 ≤ d.capacity ∧ d.capacity ≤ 60000 ∧
      d.lowMark < d.fillStop ∧ d.fillStop ≤ d.capacity ∧ 20 ≤ d.tolerance ∧ d.tolerance ≤ 5000 ∧ d.quietTime < 65536) ∧
    (plant.tanks[(5 : Fin 12)].state = .unconfigured ∧ plant.tanks[(0 : Fin 12)].state ≠ .unconfigured ∧
      plant.tanks[(0 : Fin 12)].defn.capacity ≠ 500 ∧ plant.tanks[(0 : Fin 12)].defn.capacity = 9000) ∧
    ({ TankDef.default with capacity := 0 } : TankDef).tag.length = 8 ∧ plant.tanks[(3 : Fin 12)].state ≠ .unconfigured ∧
    (∀ ps ∈ [[], wTable, [⟨0, 12000⟩, ⟨4000, 12000⟩]], ps.length ≠ 1 ∧ ps.length ≤ 12 ∧ (∀ p ∈ ps, p.head ≤ 4000) ∧
      ps.Pairwise (fun p q => p.head < q.head ∧ p.volume ≤ q.volume) ∧
      ∀ p ∈ ps, p.volume ≤ plant.tanks[(3 : Fin 12)].defn.capacity ∧ p.volume < 65536) :=
  ⟨⟨rfl, rfl⟩, plant_mayDefine, by decide, by decide, by decide, by decide, rfl, by decide, by decide⟩

theorem witness_StrappingAndTrustedVolume :
    wTable.Pairwise (fun p q => p.head < q.head) ∧
    (([⟨10, 5⟩, ⟨20, 9⟩] : List StrapPoint).head? = some ⟨10, 5⟩ ∧ 9 < 10) ∧
    (wTable.getLast? = some ⟨2600, 12000⟩ ∧ 2600 ≤ 2600) ∧
    (wTable[1]? = some ⟨400, 900⟩ ∧ wTable[1 + 1]? = some ⟨1200, 4300⟩ ∧ 400 ≤ 400 ∧ 1199 < 1200) ∧
    (({ wTank .port 9000 8600 10 with levelVolume := some 8, agreement := .disagree } : Tank).levelVolume = some 8 ∧
      ({ wTank .port 9000 8600 10 with levelVolume := some 8, agreement := .disagree } : Tank).agreement = .disagree) ∧
    ((wTank .port 9000 8600 10).agreement ≠ .disagree ∧ (wTank .port 9000 8600 10).levelVolume = none) := by decide

theorem witness_NewHeadReconcilesOrSeeds :
    (plant.tanks[(5 : Fin 12)].state = .unconfigured ∧ plant.tanks[(0 : Fin 12)].state ≠ .unconfigured ∧
      plant.tanks[(0 : Fin 12)].strapping = [] ∧ plant.tanks[(2 : Fin 12)].strapping ≠ []) ∧
    plant.tanks[(2 : Fin 12)].state ≠ .unconfigured ∧
    strapVolume plant.tanks[(2 : Fin 12)].defn.capacity plant.tanks[(2 : Fin 12)].strapping 1130 = some 4002 ∧
    (onTank 2 fun k => { k with seeded := false }).tanks[(2 : Fin 12)].seeded = false ∧
    plant.tanks[(2 : Fin 12)].seeded = true ∧
    (onTank 2 fun k => { k with quietTimer := 59 }).tanks[(2 : Fin 12)].quietTimer < 60 ∧
    plant.tanks[(2 : Fin 12)].defn.quietTime ≤ plant.tanks[(2 : Fin 12)].quietTimer ∧
    ((3852 : Int) - (4002 : Nat)).natAbs ≤ plant.tanks[(2 : Fin 12)].defn.tolerance ∧
    plant.tanks[(2 : Fin 12)].defn.tolerance < ((3851 : Int) - (4002 : Nat)).natAbs ∧
    plant.tanks[(2 : Fin 12)].agreement ≠ .disagree ∧
    (onTank 2 fun k => { k with agreement := .disagree }).tanks[(2 : Fin 12)].agreement = .disagree := by decide

theorem witness_TankLawsAreKept : TankLaws (waiting (.meterEdge 0 true false)) ∧
    ∃ t, step (waiting (.meterEdge 0 true false)) = .next t := ⟨plant_tankLaws, _, rfl⟩

/-! ### Meters and inputs -/

theorem witness_MeterEdgeCounts :
    (wMeter .single .shore).defn.mode = .single ∧ (meterOf 7).defn.mode = .quad1 ∧ (meterOf 1).defn.mode ≠ .quad4 ∧
    ((meterOf 0).defined = true ∧ (meterOf 0).defn.mode = .quad4) ∧
    ((meterOf 11).defined = false ∧ (false = (meterOf 11).phaseA ∨ true = (meterOf 11).phaseB)) ∧
    (countOf (meterOf 0) true false false = some true ∧ (meterOf 0).residue + 1 ≠ (meterOf 0).defn.kFactor) ∧
    (onMeter 0 fun m => { m with residue := 39 }).meters[(0 : Fin 24)].residue + 1 = (meterOf 0).defn.kFactor ∧
    (countOf (meterOf 0) false true false = some false ∧ (meterOf 0).residue ≠ 0) ∧
    (onMeter 0 fun m => { m with residue := 0 }).meters[(0 : Fin 24)].residue = 0 ∧
    ((meterOf 1).defined = true ∧ (meterOf 1).defn.mode = .single ∧ (meterOf 1).phaseA = false ∧ (meterOf 7).defined = true ∧
      (meterOf 7).defn.mode ≠ .quad4 ∧ (meterOf 7).phaseA = false ∧
      (onMeter 1 fun m => { m with phaseA := true }).meters[(1 : Fin 24)].phaseA = true) := by decide

theorem witness_ResidueIsDivisionRoundingDown : (meterOf 0).residue < (meterOf 0).defn.kFactor ∧
    (wMeter .quad4 .supply).residue = 0 ∧ (wMeter .quad4 .supply).residue < (wMeter .quad4 .supply).defn.kFactor := by decide

theorem witness_LitreGoesToItsRole :
    ((inputOf 5).role = .none ∧ (onMeter 11 fun _ => wMeter .single .none).meters[(11 : Fin 24)].defn.role = .none) ∧
    ((meterOf 0).defn.role = .supply ∧ plant.eval.dutyTank = some 1 ∧ State.reset.eval.dutyTank = none) ∧
    ((meterOf 7).defn.role = .product 0 ∧ (trainOf 0).state = .producing ∧ (trainOf 0).target = some 2 ∧
      (trainOf 1).state ≠ .producing) ∧
    ((meterOf 9).defn.role = .transfer ∧ cutPlant.transfer.run = some ⟨.balance, 1, 2, 600⟩ ∧ plant.transfer.run = none) ∧
    ((meterOf 10).defn.role = .shore ∧ ({ plant with shore := ⟨some ⟨4, 0⟩, 0, none⟩ } : State).shore.run = some ⟨4, 0⟩ ∧
      plant.shore.run = none) ∧
    ((meterOf 1).defn.role = .line 0 ∧ plant.lines[(0 : Fin 16)].state ≠ .flowing) ∧
    ((meterOf 4).defn.role = .line 9 ∧ plant.lines[(9 : Fin 16)].state = .flowing ∧
      plant.lines[(9 : Fin 16)].draw = some (wDraw (some 1200) 310 .message 2) ∧ (311 : Nat) < 1200) ∧
    (wDraw (some 1200) 1199 .message 2).requested = some 1200 ∧ 1200 ≤ min 20000 (1199 + 1) ∧
    (meterOf 0).strayNoticed = false ∧
    (onMeter 0 fun m => { m with strayNoticed := true }).meters[(0 : Fin 24)].strayNoticed = true := by decide

theorem witness_TransferLitreMovesOneLitre : cutPlant.transfer.run = some ⟨.balance, 1, 2, 600⟩ ∧ (1 : Fin 12) ≠ 2 ∧
    (∀ net ∈ [(-60000 : Int), 241, 60000], -60000 ≤ net ∧ net ≤ 60000) ∧ ¬ (60001 : Int) ≤ 60000 ∧ (599 : Int) + 1 = (600 : Nat) ∧
    (241 : Int) ≠ (600 : Nat) ∧
    (cutPlant.tanks[(1 : Fin 12)].state = .inService ∧ cutPlant.tanks[(2 : Fin 12)].state = .inService) ∧
    ((wTank .stbd 9000 8600 801).debit.trusted ≤ 800 ∧ ¬ (wTank .stbd 9000 8600 802).debit.trusted ≤ 800) ∧
    (11600 ≤ (wTank .port 12000 11600 11599).credit.fillMeasure ∧ ¬ 11600 ≤ (wTank .port 12000 11600 11598).credit.fillMeasure) := by
  decide

theorem witness_DefineMeterGivesTheRole : MayDefine .a plant ∧ roleBusy (meterOf 1).defn.role plant = false ∧
    (∀ d ∈ [MeterDef.mk .single 1 (.line 1), .mk .quad4 1000 (.product 2)], 1 ≤ d.kFactor ∧ d.kFactor ≤ 1000 ∧
      roleBusy d.role plant = false ∧
      (d.role ≠ .none → ∀ j : Fin 24, j ≠ 1 → plant.meters[j].defined = true → plant.meters[j].defn.role ≠ d.role)) ∧
    (meterOf 1).defined = true ∧ ((meterOf 11).defined = false ∧ roleBusy (meterOf 11).defn.role plant = false) :=
  ⟨plant_mayDefine, by decide⟩

theorem witness_ResidueLawIsKept : ResidueLaw (waiting (.meterEdge 0 true false)) ∧
    ∃ t, step (waiting (.meterEdge 0 true false)) = .next t := ⟨plant_residueLaw, _, rfl⟩

theorem witness_GateEndReadsTheInput :
    (inputOf 0).defined = false ∧
    ((inputOf 2).defined = true ∧ (inputOf 2).fault = .good ∧ 900 ≤ 900 ∧ 5100 ≤ 5100) ∧
    ((899 : Nat) < 900 ∨ 5100 < 899) ∧ (((5101 : Nat) < 900 ∨ 5100 < 5101) ∧ (inputOf 2).outRun < 2) ∧
    ((onInput 2 fun x => { x with fault := .fault, inRun := 1 }).inputs[(2 : Fin 16)].fault = .fault ∧
      (onInput 2 fun x => { x with fault := .fault, inRun := 1 }).inputs[(2 : Fin 16)].inRun < 2) ∧
    2 ≤ (onInput 2 fun x => { x with outRun := 2 }).inputs[(2 : Fin 16)].outRun ∧
    2 ≤ (onInput 2 fun x => { x with fault := .fault, inRun := 2 }).inputs[(2 : Fin 16)].inRun := by decide

theorem witness_ReadingsReachTheirOwners :
    ((inputOf 5).role = .none ∧ (inputOf 3).role = .salinity 0 ∧ (inputOf 2).role = .level 2) ∧
    ((onInput 2 fun x => { x with window := List.replicate 6 0 }).inputs[(2 : Fin 16)].window.length < 7 ∧
      (inputOf 2).window.length = 7 ∧
      (onInput 2 fun x => { x with window := List.replicate 8 0 }).inputs[(2 : Fin 16)].window.length = 8) ∧
    ((trainOf 1).state ≠ .diverting ∧ (trainOf 1).state ≠ .producing) ∧
    ((500 : Nat) ≤ (trainOf 0).defn.salinityLimit ∧ ¬ (501 : Nat) ≤ (trainOf 0).defn.salinityLimit) ∧
    ((onTrain 1 fun w => { w with state := .diverting, qualification := ⟨118, 120⟩ }).trains[(1 : Fin 3)].state = .diverting ∧
      (118 : Nat) + 1 < 120) ∧
    ((trainOf 0).state = .producing ∧ (trainOf 0).target = some 2) ∧
    ((inputOf 4).defined = true ∧ (inputOf 4).role = .salinity 1 ∧ (inputOf 4).fault = .good ∧
      min 4000 (1500 - 1000) ≤ (trainOf 1).defn.salinityLimit ∧ 120 ≤ 119 + 1 ∧ selectFill plant = some 2 ∧
      (trainOf 1).mode = .auto) ∧ selectFill State.reset = none := by decide

theorem witness_DefineFrequencyInputSetsTheRole : MayDefine .a plant ∧
    (∀ r ∈ [InputRole.level 0, .salinity 2], r ≠ .none ∧
      ∀ j : Fin 16, j ≠ 2 → plant.inputs[j].defined = true → plant.inputs[j].role ≠ r) ∧
    (inputOf 0).defined = false ∧ (inputOf 2).defined = true ∧ (inputOf 2).role = .level 2 ∧
    (inputOf 3).role = .salinity 0 ∧ (inputOf 5).role = .none := ⟨plant_mayDefine, by decide⟩

/-! ### The evaluator -/

theorem witness_TankChangeWorksOutTheFigures : (tankChange State.reset).eval.capacity = 0 ∧
    0 < (tankChange plant).eval.capacity ∧ plant.eval.level = (tankChange plant).eval.level ∧
    ({ plant with eval := { plant.eval with level := 3, computed := 3 } } : State).eval.level ≠
      (tankChange { plant with eval := { plant.eval with level := 3, computed := 3 } }).eval.level := by decide

theorem witness_TankChangeSettlesTheRoles :
    (tankChange plant).eval.dutyTank = some 1 ∧ plant.eval.dutyTank = some 1 ∧
    (1 : Fin 12) ∈ (tankChange plant).eval.dutyCandidates ∧
    (∀ i : Fin 12, plant.tanks[i].duty = true ↔ plant.eval.dutyTank = some i) ∧
    ((tankChange { plant with tanks := Vector.replicate 12 .unconfigured }).eval.dutyTank = none) ∧
    (tankChange cutPlant).transfer.run = some ⟨.balance, 1, 2, 600⟩ ∧
    (tankChange { plant with shore := ⟨some ⟨4, 1⟩, 0, none⟩ }).shore.run = some ⟨4, 1⟩ := by decide

/-- The plant with T2, the target of W0, in QUARANTINE, and with every tank in QUARANTINE. -/
def lostTarget : State := onTank 2 fun k => { k with state := .quarantine }
def noTargets : State := { plant with
  tanks := allTanks.foldl (fun v i => upd v i fun k => { k with state := .quarantine }) plant.tanks }

theorem witness_TankChangeFindsFillTargets : FillLists plant ∧
    (plant.trains[(0 : Fin 3)].target = some 2 ∧ (tankChange plant).trains[(0 : Fin 3)].state = .producing ∧
      2 ∈ (tankChange plant).eval.fillCandidates) ∧
    (FillLists lostTarget ∧ (tankChange lostTarget).trains[(0 : Fin 3)].state = .producing ∧
      2 ∉ (tankChange lostTarget).eval.fillCandidates) ∧
    (FillLists noTargets ∧ (tankChange noTargets).trains[(0 : Fin 3)].state ≠ .producing) ∧
    plant.trains[(1 : Fin 3)].state ≠ .producing ∧ selectFill plant = some 2 ∧ selectFill State.reset = none := by
  refine ⟨plant_fillLaw.1, by decide, ⟨?_, by decide, by decide⟩, ⟨?_, by decide⟩, by decide, by decide, by decide⟩ <;>
    (unfold FillLists; decide)

theorem witness_GradesAndChoicesFollowTheRules :
    (EvaluatorSettings.default.supplyBands.Pairwise (fun x y => y ≤ x) ∧
      EvaluatorSettings.default.supplyBands[6]? = some 50) ∧
    (plant.eval.dutyCandidates.Pairwise (· < ·) ∧ plant.eval.fillCandidates.Pairwise (· < ·) ∧
      ∀ t ∈ plant.eval.fillCandidates, 0 < plant.tanks[t].defn.capacity) ∧
    ((plant.eval.settings.balanceBand : Int) < 501 ∧ plant.eval.imbalance < -(plant.eval.settings.balanceBand : Int)) ∧
    (-(500 : Int) ≤ -500 ∧ (500 : Int) ≤ plant.eval.settings.balanceBand) ∧
    selectDuty plant = some 1 ∧ selectFill plant = some 2 ∧ plant.eval.imbalance ≠ 0 ∧
    balanceSource plant = some 1 ∧ balanceDest plant = some 2 := by decide

theorem witness_SettingsAreWritten : MayDefine .a plant ∧ InControl .a plant ∧
    (∀ b ∈ [List.replicate 7 1000, EvaluatorSettings.default.supplyBands],
      (∀ x ∈ b, x ≤ 1000) ∧ b.Pairwise (fun a b => b ≤ a) ∧ b.length = 7) ∧
    ([850, 600, 350].length = 3 ∧ [850, 600, 350].Pairwise (fun a b : Nat => b ≤ a)) ∧
    (∀ l ∈ [0, 501, 30000], l = 0 ∨ (501 ≤ l ∧ l ≤ 30000 ∧ 500 < l)) ∧ (60 : Nat) < 65536 ∧
    (max plant.eval.computed 1 = plant.eval.level ∧ max plant.eval.computed 7 ≠ plant.eval.level ∧ min 255 7 = 7) ∧
    ((0 : Fin 6) = 0 ∧ (5 : Fin 6) ≠ 0 ∧ (∀ x ∈ [0, 8, 255], x = 0 ∨ 7 < x) ∧ (∀ x ∈ [1, 7], 1 ≤ x ∧ x ≤ 7)) ∧
    ((101 : Nat) < 256 ∧ cutPlant.transfer.run ≠ none ∧ plant.transfer.run = none) :=
  ⟨plant_mayDefine, plant_inControl, by decide⟩

/-- The plant at a review. -/
def reviewPlant : State := { plant with due := [.review] }

theorem witness_ReviewSelectsAndBalances : Due.review ∈ reviewPlant.due ∧ reviewPlant.eval.dutyTank = some 1 ∧
    selectDuty reviewPlant = some 1 ∧
    (0 < reviewPlant.eval.settings.balanceLimit ∧
      reviewPlant.eval.settings.balanceLimit < reviewPlant.eval.imbalance.natAbs ∧ reviewPlant.transfer.run = none ∧
      0 < reviewPlant.transfer.pump.ratedPower) ∧
    balanceSource reviewPlant = some 1 ∧ balanceDest reviewPlant = some 2 ∧
    committedLoad reviewPlant + reviewPlant.transfer.pump.ratedPower ≤ effectiveAllowance reviewPlant ∧
    (effectiveAllowance { reviewPlant with power := ⟨30, [.train 0]⟩ } <
      committedLoad { reviewPlant with power := ⟨30, [.train 0]⟩ } + 11) ∧
    ({ State.reset with due := [.review] } : State).eval.dutyTank = none ∧
    selectDuty { reviewPlant with eval := { reviewPlant.eval with dutyTank := some 0 } } = some 1 ∧
    ¬ 0 < State.reset.eval.settings.balanceLimit := by decide

/-! ### Lines and the Arbiter -/

theorem witness_DefineLinesWritesTheSet : MayDefine .a plant ∧
    ((∃ k ∈ [(0 : Fin 16), 3], plant.lines[k].state.holdsDraw = true) ∧ [(0 : Fin 16), 3] ≠ [] ∧ [(0 : Fin 16), 3].length < 256) ∧
    (∀ k ∈ [(0 : Fin 16), 1], plant.lines[k].state.holdsDraw = false) ∧
    (∀ d ∈ [LineDef.default, { LineDef.default with flow := 200, defaultBatch := 20000, maxBatch := 20000, maxDuration := 65535 }],
      1 ≤ d.flow ∧ d.flow ≤ 200 ∧ 1 ≤ d.defaultBatch ∧ d.defaultBatch ≤ d.maxBatch ∧ d.maxBatch ≤ 20000 ∧
      d.maxDuration < 65536 ∧ d.stallTime < 65536 ∧ d.source = .message) ∧
    ((∀ j ∈ [(14 : Fin 16)], j = 14) ∧
      ∀ j : Fin 16, j ∉ [(14 : Fin 16)] → plant.lines[j].defined = true → plant.lines[j].defn.source ≠ .flush 0) :=
  ⟨plant_mayDefine, by decide⟩

/-- A contact line in a state, with its sample and debounced contact. -/
def contactAt (st : LineState) (closed asserted : Bool) (d : Option Draw) (due : List Due) : State :=
  onLine 0 (fun l => { l with state := st, contactClosed := closed, asserted := asserted, draw := d }) due

theorem witness_DrawsAreRegisteredAndWithdrawn : InControl .a plant ∧
    ((∀ n, ¬(plant.lines[(0 : Fin 16)].defined = true ∧ plant.lines[(0 : Fin 16)].defn.source = .flush n)) ∧
      plant.lines[(0 : Fin 16)].state = .idle ∧ plant.lines[(3 : Fin 16)].state ≠ .idle ∧ (65535 : Nat) < 65536) ∧
    (plant.lines[(14 : Fin 16)].defined = true ∧ plant.lines[(14 : Fin 16)].defn.source = .flush 0) ∧
    (lossPlant.lines[(9 : Fin 16)].state = .pending ∧
      (onLine 14 fun l => { l with state := .pending, draw := some (.registered (some 9) (.flush 0)) }).lines[(14 : Fin 16)].state =
        .pending) ∧
    (Due.contactAssertion 0 ∈ (contactAt .idle true false none [.contactAssertion 0]).due ∧
      (contactAt .idle true false none [.contactAssertion 0]).lines[(0 : Fin 16)].contactClosed = true ∧
      (contactAt .idle true false none [.contactAssertion 0]).lines[(0 : Fin 16)].asserted = false) ∧
    (Due.contactRelease 0 ∈ (contactAt .releaseWait false true none [.contactRelease 0]).due ∧
      (contactAt .releaseWait false true none [.contactRelease 0]).lines[(0 : Fin 16)].asserted = true ∧
      (contactAt .pending false true (some (.registered none .contact)) []).lines[(0 : Fin 16)].draw =
        some (.registered none .contact)) := ⟨plant_inControl, by decide⟩

theorem witness_DrawsEndByTheirCauses : InControl .a plant ∧ InControl .a lossPlant ∧
    (plant.lines[(9 : Fin 16)].state = .flowing ∧ lossPlant.lines[(0 : Fin 16)].state = .suspended ∧
      plant.lines[(0 : Fin 16)].state ≠ .flowing ∧ plant.lines[(0 : Fin 16)].state ≠ .suspended ∧
      plant.lines[(0 : Fin 16)].state ≠ .pending) ∧
    ((9 : Fin 16) ∈ (flowingWith fun d => { d with requested := none }).arb.inService ∧
      (flowingWith fun d => { d with requested := none }).lines[(9 : Fin 16)].draw =
        some { wDraw none 310 .message 2 with requested := none }) ∧
    (Due.drawTimedOut 9 ∈ (flowingWith (fun d => { d with duration := 600 }) [.drawTimedOut 9, .drawStalled 9]).due ∧
      plant.lines[(9 : Fin 16)].defn.maxDuration ≤ 600 ∧ plant.lines[(9 : Fin 16)].defn.stallTime ≤ 30) ∧
    (Due.holdExpiry ∈ ({ lossPlant with due := [.holdExpiry] } : State).due ∧ lossPlant.arb.hold = some ⟨12, 30⟩ ∧
      (⟨30, 30⟩ : Timer).length ≤ (⟨30, 30⟩ : Timer).count ∧ lossPlant.arb.supplyHeld = .down ∧ plant.arb.supplyHeld = .up) := by
  exact ⟨plant_inControl, ⟨rfl, rfl⟩, by decide⟩

theorem witness_EndOfADraw : plant.lines[(9 : Fin 16)].draw = some (wDraw (some 1200) 310 .message 2) ∧
    (∀ n, (wDraw (some 1200) 310 .message 2).origin ≠ .flush n) ∧
    lossPlant.lines[(14 : Fin 16)].draw = some (wDraw (some 150) 90 (.flush 0) 3) ∧
    (wDraw (some 150) 90 (.flush 0) 3).origin = .flush 0 := by decide

/-- The plant in MANUAL mode with L5 PENDING. -/
def manualPlant : State :=
  (onLine 5 (fun l => { l with state := .pending, draw := some (.registered (some 60) .contact) }) []).modArb fun a =>
    { a with mode := .manual, pendingList := [5] }

theorem witness_ArbiterRequestsAct : InControl .a plant ∧ InControl .a manualPlant ∧
    ((0x0201 : Nat) < 65536 ∧ (0x0201 : Nat) ≠ 0 ∧ (∀ k : Fin 16, (0x0201 : Nat).testBit k.val = true → plant.lines[k].masked = false)) ∧
    (plant.lines[(1 : Fin 16)].defined = false ∧ plant.lines[(0 : Fin 16)].defined = true ∧
      plant.groups[(1 : Fin 6)].rotation = [] ++ 0 :: []) ∧
    ((onLine 11 fun l => { l with state := .fault }).lines[(11 : Fin 16)].state = .fault ∧ plant.lines[(0 : Fin 16)].state ≠ .fault) ∧
    (plant.arb.mode = .auto ∧ plant.arb.mode ≠ .manual ∧ manualPlant.arb.mode = .manual) ∧
    (manualPlant.arb.pendingList = [] ++ 5 :: [] ∧ manualPlant.lines[(5 : Fin 16)].defn.group ≠ 0 ∧
      manualPlant.lines[(5 : Fin 16)].masked = false ∧
      manualPlant.arb.levelHeld ≤ manualPlant.groups[manualPlant.lines[(5 : Fin 16)].defn.group].defn.admitLevel ∧
      manualPlant.arb.inService.length < 8 ∧
      manualPlant.lines[(5 : Fin 16)].defn.flow ≤ manualPlant.arb.capacityHeld - flowingFlow manualPlant) ∧
    (Due.drawAges 5 ∈ ({ manualPlant with due := [.drawAges 5] } : State).due ∧
      manualPlant.lines[(5 : Fin 16)].draw = some (.registered (some 60) .contact) ∧
      (Draw.registered (some 60) .contact).aged = false) := ⟨plant_inControl, ⟨rfl, rfl⟩, by decide⟩

/-- The plant with L5 and L11 PENDING and 120 l/min flowing: the pass grants L5 and stops at L11. -/
def pendingPlant : State :=
  { plant with
    lines := upd (upd plant.lines 5 fun l => { l with state := .pending, draw := some (.registered (some 60) .contact) }) 11
      fun l => { l with state := .pending, draw := some (.registered (some 100) .contact) }
    arb := { plant.arb with pendingList := [5, 11] } }

theorem witness_PassStopsOnlyAtALineThatMayNotGo : ListsLaw plant ∧ plant.arb.pendingList = priorityOrder plant ∧
    ListsLaw pendingPlant ∧ pendingPlant.arb.pendingList = priorityOrder pendingPlant ∧
    (grantPass plant).arb.stoppedAt = none ∧ (grantPass pendingPlant).arb.stoppedAt = some 11 :=
  ⟨plant_listsLaw, by decide, by unfold ListsLaw; decide, by decide, by decide, by decide⟩

theorem witness_PassChangesOnlyDraws : plant.lines[(0 : Fin 16)].state ≠ .pending ∧
    plant.lines[(0 : Fin 16)].state ≠ .flowing ∧ (0 : Fin 16) ∉ plant.arb.pendingList ∧
    (trainOf 0).state ≠ .flushWait ∧ (trainOf 0).state ≠ .flushing ∧ (trainOf 0).state ≠ .fault := by decide

theorem witness_GrantAndPreemptionOfOneDraw : pendingPlant.lines[(5 : Fin 16)].draw = some (.registered (some 60) .contact) ∧
    plant.lines[(9 : Fin 16)].draw = some (wDraw (some 1200) 310 .message 2) ∧ plant.arb.preemptedNow = [] ∧
    (preempt 9 plant).lines[(3 : Fin 16)].draw = some (wDraw (some 40) 12 .contact 1) ∧
    (preempt 9 plant).arb.preemptedNow = [(9, 2)] ∧ (preempt 3 (preempt 9 plant)).arb.preemptedNow = [(3, 1), (9, 2)] := by decide

theorem loss_arbiterLaw : ArbiterLaw lossPlant :=
  ⟨by unfold ListsLaw; decide, by decide, by decide, by decide, of_none rfl, of_none rfl⟩

/-- The plant with the flush draw of L14 PENDING: L9 gives it room, and L3 stays. -/
def roomPlant : State :=
  { plant with
    lines := upd plant.lines 14 fun l => { l with state := .pending, draw := some (.registered (some 150) (.flush 0)) }
    arb := { plant.arb with pendingList := [14] } }

theorem room_arbiterLaw : ArbiterLaw roomPlant :=
  ⟨by unfold ListsLaw; decide, by decide, by decide, by decide, of_none rfl, of_none rfl⟩

theorem witness_SupplyHandOverSuspendsAndRestores : ArbiterLaw plant ∧ ArbiterLaw lossPlant ∧ ArbiterLaw roomPlant ∧
    (plant.arb.supplyHeld = .up ∧ plant.arb.capacityHeld = 150 ∧ lossPlant.arb.supplyHeld = .down ∧
      (SupplyState.down = .down → (0 : Nat) = 0) ∧ (SupplyState.up = .down → (110 : Nat) = 0)) ∧
    ((∃ k : Fin 16, plant.lines[k].state = .flowing) ∧ ∀ k : Fin 16, lossPlant.lines[k].state ≠ .flowing) ∧
    (lossPlant.lines[(5 : Fin 16)].state = .suspended ∧ lossPlant.lines[(9 : Fin 16)].state ≠ .suspended ∧
      plant.arb.capacityHeld ≠ 110 ∧ plant.lines[(3 : Fin 16)].state = .flowing ∧ plant.lines[(0 : Fin 16)].state ≠ .flowing) ∧
    (roomPlant.lines[(14 : Fin 16)].state = .pending ∧ roomPlant.lines[(14 : Fin 16)].defn.group = 0 ∧
      roomCanBeMade roomPlant 14 = true ∧ 60 + 120 > roomPlant.arb.capacityHeld ∧ 60 + 40 ≤ roomPlant.arb.capacityHeld) :=
  ⟨plant_arbiterLaw, loss_arbiterLaw, room_arbiterLaw, by decide, by decide, by decide, by decide⟩

theorem witness_ArbiterLawIsKept : ArbiterLaw (waiting (.cancelDraw .a 1 [9])) ∧
    ∃ t, step (waiting (.cancelDraw .a 1 [9])) = .next t := ⟨plant_arbiterLaw, _, rfl⟩

/-! ### Sets -/

theorem witness_SettledSetsAgree : (plant.arb.supplyHeld = .down → plant.arb.capacityHeld = 0) ∧
    (lossPlant.arb.supplyHeld = .down ∧ lossPlant.arb.capacityHeld = 0) ∧
    (settleSets .proofLost plant).sets.supply = .up ∧ (settleSets .proofLost State.reset).sets.supply = .down ∧
    plant.eval.dutyTank ≠ none ∧
    (settleSets .proofLost plant).sets.sets[(settleSets .proofLost plant).sets.duty].usable = true := by decide

theorem witness_SetEventsAct :
    (Due.setProved 1 ∈ ({ lossPlant with due := [.setProved 1] } : State).due ∧
      lossPlant.sets.sets[(1 : Fin 2)].state = .starting ∧ lossPlant.sets.sets[(1 : Fin 2)].proofClosed = true ∧
      1 = lossPlant.sets.duty) ∧
    ((onSet 1 (fun p => { p with state := .starting, proofClosed := true }) [.setProved 1]).sets.sets[(1 : Fin 2)].state = .starting ∧
      (1 : Fin 2) ≠ plant.sets.duty) ∧
    ((onSet 1 (fun p => { p with state := .starting, startTimer := ⟨15, 15⟩ }) [.setStartProofFailed 1]).due = [.setStartProofFailed 1] ∧
      (⟨15, 15⟩ : Timer).length ≤ (⟨15, 15⟩ : Timer).count) ∧
    ((onSet 0 (fun p => { p with proofClosed := false }) [.setProofLost 0]).sets.sets[(0 : Fin 2)].state = .running ∧
      (onSet 0 (fun p => { p with proofClosed := false }) [.setProofLost 0]).sets.sets[(0 : Fin 2)].proofClosed = false) ∧
    ((⟨86400, 24⟩ : Timer).length * 3600 ≤ (⟨86400, 24⟩ : Timer).count ∧ plant.sets.supply = .up ∧
      plant.sets.sets[otherSet plant.sets.duty].state = .idle ∧ 0 < plant.sets.sets[otherSet plant.sets.duty].defn.capacity ∧
      lossPlant.sets.supply = .down) := by decide

theorem witness_SetRequestsAct : InControl .a plant ∧ MayDefine .a plant ∧
    ((onSet 1 fun p => { p with state := .offLine }).sets.sets[(1 : Fin 2)].state = .offLine ∧
      plant.sets.sets[(1 : Fin 2)].state ≠ .offLine ∧ plant.sets.sets[(1 : Fin 2)].state ≠ .failed ∧
      lossPlant.sets.sets[(0 : Fin 2)].state = .failed) ∧
    (∀ d ∈ [SetDef.mk 0 0, .mk 600 250], d.capacity ≤ 600 ∧ d.ratedPower ≤ 250) ∧
    (∀ r ∈ [SetSettings.mk 0 0 0 0, .mk 600 255 255 65535], r.reserve ≤ 600 ∧ r.startProof < 256 ∧ r.changeover < 256 ∧
      r.alternation < 65536) ∧ plant.sets.sets[(0 : Fin 2)].state = .running := ⟨plant_inControl, plant_mayDefine, by decide⟩

theorem witness_SetsStartAndPowerLawsAreKept : SetsLaw (waiting (.setAllowance .a 1 [30, 0])) ∧
    StartLaw (waiting (.setAllowance .a 1 [30, 0])) ∧ PowerLaw (waiting (.setAllowance .a 1 [30, 0])) ∧
    ∃ t, step (waiting (.setAllowance .a 1 [30, 0])) = .next t := ⟨plant_setsLaw, plant_startLaw, plant_powerLaw, _, rfl⟩

/-! ### Trains -/

/-- W1 with a record, and the event due. -/
def trainAt (d : Due) (f : Train → Train) : State := onTrain 1 f [d]

theorem witness_TrainTimersAct :
    (trainAt (.prime 1) fun w => { w with state := .priming, stage := some ⟨60, 60⟩ }).trains[(1 : Fin 3)].stage = some ⟨60, 60⟩ ∧
    (trainAt (.ramp 1) fun w => { w with state := .ramping, stage := some ⟨30, 30⟩ }).due = [.ramp 1] ∧
    (trainAt (.divertMax 1) fun w => { w with state := .diverting, stage := some ⟨900, 900⟩ }).trains[(1 : Fin 3)].state = .diverting ∧
    ((onTrain 0 (fun w => { w with stall := ⟨60, 60⟩ }) [.productStall 0]).trains[(0 : Fin 3)].state = .producing ∧
      (onTrain 0 (fun w => { w with runTimer := 900 }) [.minRun 0]).trains[(0 : Fin 3)].defn.minRun ≤ 900 ∧
      (trainOf 0).mode = .auto) ∧
    ((trainAt (.flushRequest 1) fun w => { w with state := .flushWait }).trains[(1 : Fin 3)].flushPlaced = false ∧
      (trainAt (.flushWait 1) fun w => { w with state := .flushWait, flushWait := ⟨300, 300⟩ }).trains[(1 : Fin 3)].flushWait.length ≤
        300) ∧
    (trainAt (.rest 1) fun w => { w with rest := some ⟨300, 300⟩ }).trains[(1 : Fin 3)].rest = some ⟨300, 300⟩ := by decide

theorem witness_TrainRequestsAct : InControl .a plant ∧
    ((trainOf 0).mode = .auto ∧ (trainOf 0).state.running = true ∧ (trainOf 1).state.running = false ∧
      (trainOf 1).mode ≠ .disabled) ∧
    (0 < (trainOf 1).defn.ratedPower ∧ State.reset.trains[(1 : Fin 3)].defn.ratedPower = 0) ∧
    ((trainOf 1).state = .off ∧ (trainOf 1).rest = none ∧ ∀ m : Fin 3, ¬ Starting plant m) ∧
    (committedLoad plant + (trainOf 1).defn.ratedPower ≤ effectiveAllowance plant ∧ plant.waters = .opened ∧
      State.reset.waters = .restricted ∧ plant.eval.fillCandidates ≠ [] ∧ State.reset.eval.fillCandidates = []) ∧
    ((onTrain 1 fun w => { w with state := .fault, faultCause := some .unflushed }).trains[(1 : Fin 3)].faultCause =
        some .unflushed ∧
      (onTrain 1 fun w => { w with state := .fault, flushPlaced := true }).trains[(1 : Fin 3)].flushPlaced = true) := by
  refine ⟨plant_inControl, by decide, by decide, ?_, by decide, by decide⟩
  unfold Starting; decide

theorem witness_DefineTrainWritesTheDefinition : MayDefine .a plant ∧
    (∀ d ∈ [{ TrainDef.default with salinityLimit := 50, flushVolume := 20 },
        { TrainDef.default with ratedPower := 80, salinityLimit := 2000, flushVolume := 1000, primeTime := 65535 }],
      d.ratedPower ≤ 80 ∧ 50 ≤ d.salinityLimit ∧ d.salinityLimit ≤ 2000 ∧ 20 ≤ d.flushVolume ∧ d.flushVolume ≤ 1000 ∧
      ∀ x ∈ trainTimes d, x < 65536) ∧
    ((trainOf 0).state ≠ .off ∧ (trainOf 0).state ≠ .fault) ∧
    ((trainOf 1).state = .off ∧ (trainOf 1).flushPlaced = false) := ⟨plant_mayDefine, by decide⟩

theorem witness_StoppingATrain : (trainOf 0).target = some 2 ∧ (trainOf 1).target = none ∧
    ((onTrain 0 fun w => { w with state := .flushWait }).trains[(0 : Fin 3)].state = .flushWait ∧
      (trainOf 0).flushPlaced = false ∧ (trainOf 0).defn.flushLine = 14 ∧ plant.lines[(14 : Fin 16)].defined = true ∧
      plant.lines[(14 : Fin 16)].defn.source = .flush 0 ∧ plant.lines[(14 : Fin 16)].state = .idle) ∧
    ¬(plant.lines[(15 : Fin 16)].defined = true) := by decide

/-- W0 FLUSHING with some litres remaining. -/
def flushing (f : Train → Train) : State := onTrain 0 fun w => f { w with state := .flushing, flushRemaining := 150 }

theorem witness_FlushEndsAtItsTrain :
    ((flushing fun w => { w with retry := true }).trains[(0 : Fin 3)].state = .flushing ∧ 0 = 150 - 150 ∧
      (if (true : Bool) = true then some FaultCause.unflushed else none) = some FaultCause.unflushed) ∧
    ((flushing id).trains[(0 : Fin 3)].retry = false ∧ (flushing id).trains[(0 : Fin 3)].stopCause ≠ some .quality ∧
      (flushing id).trains[(0 : Fin 3)].stopCause ≠ some .noProduct) ∧
    (60 = (flushing id).trains[(0 : Fin 3)].flushRemaining - 90 ∧ 0 < 60) ∧
    ((onTrain 0 fun w => { w with state := .flushWait }).trains[(0 : Fin 3)].state = .flushWait ∧
      (onTrain 0 fun w => { w with state := .fault }).trains[(0 : Fin 3)].state = .fault) := by decide

theorem witness_TrainChecksStartAndStop :
    (plant.eval.callCount ≤ 2 ∧ autoRunning plant < plant.eval.callCount ∧ autoRunning State.reset = State.reset.eval.callCount) ∧
    (∃ n : Fin 3, Starting (onTrain 1 fun w => { w with state := .priming }) n) ∧ (∀ n : Fin 3, ¬ Starting plant n) ∧
    (plant.startOrder = [] ++ 1 :: [2, 0] ∧ (trainOf 1).state = .off ∧ (trainOf 1).mode = .auto ∧ (trainOf 1).rest = none ∧
      0 < (trainOf 1).defn.ratedPower) ∧
    (plant.waters = .opened ∧ plant.eval.fillCandidates ≠ [] ∧
      committedLoad plant + plant.trains[(1 : Fin 3)].defn.ratedPower ≤ effectiveAllowance plant) ∧
    (({ plant with eval := { plant.eval with callCount := 0 } } : State).eval.callCount < autoRunning plant ∧
      (trainOf 0).state = .producing ∧ (trainOf 0).defn.minRun ≤ (trainOf 0).runTimer ∧
      ∀ m : Fin 3, plant.trains[m].state = .producing → m = 0) := by
  refine ⟨by decide, ⟨1, .inl (by decide)⟩, ?_, by decide, by decide, by decide⟩
  unfold Starting; decide

theorem witness_FillLawIsKept : FillLaw (waiting (.tankService .a 1 [2, 3])) ∧
    ∃ t, step (waiting (.tankService .a 1 [2, 3])) = .next t := ⟨plant_fillLaw, _, rfl⟩

/-! ### Transfers, shore filling and the Power Allowance -/

/-- The plant with a shore fill of T4 active. -/
def shorePlant : State := { plant with shore := ⟨some ⟨4, 10⟩, 3, none⟩ }

theorem witness_TransferRequestsAct : InControl .a plant ∧ InControl .a cutPlant ∧ InControl .a shorePlant ∧
    ((1 : Fin 12) ≠ 3 ∧ (∀ n ∈ [1, 60000], 1 ≤ n ∧ n ≤ 60000) ∧ 60000 < 60001 ∧ 60001 < 65536) ∧
    (State.reset.transfer.pump.ratedPower = 0 ∧ 0 < plant.transfer.pump.ratedPower ∧ cutPlant.transfer.run ≠ none) ∧
    (plant.tanks[(1 : Fin 12)].state = .inService ∧ plant.tanks[(3 : Fin 12)].state = .inService ∧
      plant.tanks[(1 : Fin 12)].defn.lowMark < plant.tanks[(1 : Fin 12)].trusted ∧
      plant.tanks[(3 : Fin 12)].fillMeasure < plant.tanks[(3 : Fin 12)].defn.fillStop) ∧
    committedLoad plant + plant.transfer.pump.ratedPower ≤ effectiveAllowance plant ∧
    (shorePlant.shore.run ≠ none ∧ plant.shore.run = none ∧ plant.tanks[(5 : Fin 12)].state = .unconfigured ∧
      tankPlant.tanks[(6 : Fin 12)].state = .unknown) ∧
    (Due.transferStall ∈ ({ cutPlant with due := [.transferStall] } : State).due ∧
      (⟨60, 60⟩ : Timer).length ≤ (⟨60, 60⟩ : Timer).count) ∧
    (cutPlant.transfer.run = some ⟨.balance, 1, 2, 600⟩ ∧ shorePlant.shore.run = some ⟨4, 10⟩) :=
  ⟨plant_inControl, ⟨rfl, rfl⟩, ⟨rfl, rfl⟩, by decide⟩

theorem witness_AllowanceIsTakenAndShed : InControl .a plant ∧ (65535 : Nat) < 65536 ∧
    (cutPlant.power.holders.Nodup ∧
      (∀ n : Fin 3, Holder.train n ∈ cutPlant.power.holders ↔ cutPlant.trains[n].state.running = true) ∧
      (Holder.pump ∈ cutPlant.power.holders ↔ cutPlant.transfer.run.isSome = true) ∧ ∀ n : Fin 3, n ∈ cutPlant.startOrder) ∧
    committedLoad cutPlant ≤ effectiveAllowance cutPlant ∧
    effectiveAllowance { cutPlant with power := { cutPlant.power with allowance := 60 } } <
      committedLoad { cutPlant with power := { cutPlant.power with allowance := 60 } } ∧
    (effectiveAllowance { plant with power := { plant.power with allowance := 30 } } <
      committedLoad { plant with power := { plant.power with allowance := 30 } } ∧ cutPlant.transfer.run ≠ none ∧
      plant.transfer.run = none ∧ plant.startOrder = [1, 2] ++ 0 :: [] ∧ plant.trains[(0 : Fin 3)].state.running = true) :=
  ⟨plant_inControl, by decide⟩

end Sys2Proof.Tests
end

section
/-!
The tank records under everything that happens outside the Tank Inventory. The Draw Arbiter, the pressure sets and the ends of
draws leave every tank record as it was; the trains, the Evaluator and the Transfer and Shore Unit change nothing of a tank but its
four roles (duty, fill trains, transfer role, shore target; R13 to R15).
-/

namespace Sys2Proof.Machine

/-! ### The Draw Arbiter leaves the tanks alone -/

@[simp] theorem activateRole_tanks (r : MeterRole) (s : State) : (activateRole r s).tanks = s.tanks := by
  simp [activateRole]
@[simp] theorem refreshPending_tanks (s : State) : (refreshPending s).tanks = s.tanks := by
  simp [refreshPending]
@[simp] theorem modDraw_tanks (s : State) (k : Fin 16) (f : Draw → Draw) : (s.modDraw k f).tanks = s.tanks := by
  simp [State.modDraw]
@[simp] theorem trainGranted_tanks (n : Fin 3) (s : State) : (trainGranted n s).tanks = s.tanks := by
  simp [trainGranted]
@[simp] theorem trainPreempted_tanks (n : Fin 3) (s : State) : (trainPreempted n s).tanks = s.tanks := by
  simp [trainPreempted]
@[simp] theorem passEnds_tanks (at? : Option (Fin 16)) (s : State) : (passEnds at? s).tanks = s.tanks := by
  simp [passEnds]
@[simp] theorem withdraw_tanks (k : Fin 16) (s : State) : (withdraw k s).tanks = s.tanks := by simp [withdraw]
@[simp] theorem suspend_tanks (k : Fin 16) (s : State) : (suspend k s).tanks = s.tanks := by simp [suspend]
@[simp] theorem resume_tanks (k : Fin 16) (s : State) : (resume k s).tanks = s.tanks := by simp [resume]

theorem handToTrain_tanks {f : Fin 3 → State → State} (hf : ∀ n s, (f n s).tanks = s.tanks) (origin : Option Source)
    (s : State) : (handToTrain origin f s).tanks = s.tanks := by
  unfold handToTrain; split
  · exact hf _ s
  · rfl

@[simp] theorem grant_tanks (k : Fin 16) (s : State) : (grant k s).tanks = s.tanks := by
  unfold grant; dsimp only; simp [handToTrain_tanks trainGranted_tanks]

@[simp] theorem preempt_tanks (k : Fin 16) (s : State) : (preempt k s).tanks = s.tanks := by
  unfold preempt; dsimp only; simp [handToTrain_tanks trainPreempted_tanks]

@[simp] theorem preemptUntil_tanks (enough : State → Bool) (ks : List (Fin 16)) (s : State) :
    (preemptUntil enough ks s).tanks = s.tanks :=
  preemptUntil_keeps (P := fun u => u.tanks = s.tanks) (fun k u h => (preempt_tanks k u).trans h) enough ks s rfl

@[simp] theorem grantPass_tanks (s : State) : (grantPass s).tanks = s.tanks :=
  grantPass_keeps (P := fun u => u.tanks = s.tanks) (fun k u h => (grant_tanks k u).trans h)
    (fun k u h => (preempt_tanks k u).trans h) (fun _ _ h => h) s rfl

@[simp] theorem register_tanks (k : Fin 16) (q : Option Nat) (o : Source) (s : State) :
    (register k q o s).tanks = s.tanks := by simp [register]

/-- An operation that leaves the tanks alone leaves them alone over a list. -/
theorem foldl_tanks {α : Type} {f : State → α → State} (hf : ∀ s a, (f s a).tanks = s.tanks) (l : List α) (s : State) :
    (l.foldl f s).tanks = s.tanks :=
  foldl_keeps (P := fun u => u.tanks = s.tanks) (fun u a h => (hf u a).trans h) l s rfl

@[simp] theorem supplyLost_tanks (s : State) : (supplyLost s).tanks = s.tanks := by
  simp [supplyLost, foldl_tanks fun u k => suspend_tanks k u]

@[simp] theorem restoreOne_tanks (s : State) (k : Fin 16) : (restoreOne s k).tanks = s.tanks := by
  unfold restoreOne; split <;> simp

@[simp] theorem supplyRestored_tanks (capacity : Nat) (s : State) : (supplyRestored capacity s).tanks = s.tanks := by
  simp [supplyRestored, foldl_tanks restoreOne_tanks]

@[simp] theorem capacityChanged_tanks (capacity : Nat) (s : State) : (capacityChanged capacity s).tanks = s.tanks := by
  simp [capacityChanged]

@[simp] theorem takeSupply_tanks (supply : SupplyState) (capacity : Nat) (s : State) :
    (takeSupply supply capacity s).tanks = s.tanks := by
  obtain ⟨_, _, e⟩ | ⟨_, _, e⟩ | ⟨_, _, _, e⟩ | e := takeSupply_cases supply capacity s <;> simp [e]

@[simp] theorem takeLevel_tanks (level : Nat) (s : State) : (takeLevel level s).tanks = s.tanks := by
  obtain ⟨_, e⟩ | ⟨_, e⟩ := takeLevel_cases level s <;> simp [e]

/-! ### A train that starts, flushes, rests or faults leaves the tanks alone -/

@[simp] theorem beginTrain_tanks (n : Fin 3) (s : State) : (beginTrain n s).tanks = s.tanks := rfl
@[simp] theorem releaseHolder_tanks (h : Holder) (s : State) : (releaseHolder h s).tanks = s.tanks := rfl
@[simp] theorem enterDiverting_tanks (n : Fin 3) (s : State) : (enterDiverting n s).tanks = s.tanks := by
  simp [enterDiverting]

@[simp] theorem askFlush_tanks (n : Fin 3) (s : State) : (askFlush n s).tanks = s.tanks := by
  obtain ⟨_, _, _, _, e⟩ | e := askFlush_cases n s <;> simp [e]

@[simp] theorem startCheck_tanks (s : State) : (startCheck s).tanks = s.tanks := by
  obtain ⟨n, _, _, _, _, _, _, e⟩ | e := startCheck_cases s <;> simp [e]

@[simp] theorem enterFlushWait_tanks (n : Fin 3) (remaining : Nat) (s : State) :
    (enterFlushWait n remaining s).tanks = s.tanks := by simp [enterFlushWait]

@[simp] theorem faultTrain_tanks (n : Fin 3) (cause : FaultCause) (s : State) :
    (faultTrain n cause s).tanks = s.tanks := by simp [faultTrain]

@[simp] theorem restTrain_tanks (n : Fin 3) (s : State) : (restTrain n s).tanks = s.tanks := by simp [restTrain]

@[simp] theorem finishFlush_tanks (n : Fin 3) (s : State) : (finishFlush n s).tanks = s.tanks := by
  unfold finishFlush; dsimp only; split <;> simp

@[simp] theorem flushEnded_tanks (cause : EndCause) (delivered : Nat) (n : Fin 3) (s : State) :
    (flushEnded cause delivered n s).tanks = s.tanks := by
  unfold flushEnded; dsimp only; split
  case h_1 => split <;> simp
  all_goals simp

/-! ### The end of a draw leaves the tanks alone -/

@[simp] theorem closeLine_tanks (k : Fin 16) (cause : EndCause) (s : State) : (closeLine k cause s).tanks = s.tanks := by
  simp [closeLine]

@[simp] theorem endDraw_tanks (k : Fin 16) (cause : EndCause) (s : State) : (endDraw k cause s).tanks = s.tanks :=
  endDraw_keeps (P := fun u => u.tanks = s.tanks) (fun k c u h => (closeLine_tanks k c u).trans h)
    (fun n u h => (post_tanks n u).trans h)
    (fun c d n u h => (flushEnded_tanks c d n u).trans h) (fun _ h => h) (fun u h => (grantPass_tanks u).trans h) k cause s rfl

@[simp] theorem cancelPending_tanks (k : Fin 16) (s : State) : (cancelPending k s).tanks = s.tanks := by
  unfold cancelPending; split
  · rfl
  · rw [grantPass_tanks, handToTrain_tanks (flushEnded_tanks _ _), withdraw_tanks]

@[simp] theorem endSuspended_tanks (s : State) : (endSuspended s).tanks = s.tanks :=
  foldl_tanks (fun u k => endDraw_tanks k _ u) _ s

/-! ### The pressure sets leave the tanks alone -/

@[simp] theorem startSet_tanks (x : Fin 2) (s : State) : (startSet x s).tanks = s.tanks := rfl

@[simp] theorem workOutSupply_tanks (s : State) : (workOutSupply s).tanks = s.tanks := by simp [workOutSupply]

@[simp] theorem designate_tanks (cause : ChangeoverCause) (s : State) : (designate cause s).tanks = s.tanks := by
  obtain ⟨_, _, e⟩ | e := designate_cases cause s <;> simp [e]

@[simp] theorem startDuty_tanks (s : State) : (startDuty s).tanks = s.tanks := by
  obtain ⟨_, _, _, e⟩ | e := startDuty_cases s <;> simp [e]

@[simp] theorem settleSets_tanks (cause : ChangeoverCause) (s : State) : (settleSets cause s).tanks = s.tanks := by
  simp [settleSets]

@[simp] theorem dutyTankLost_tanks (s : State) : (dutyTankLost s).tanks = s.tanks := by simp [dutyTankLost]
@[simp] theorem dutyTankAppears_tanks (s : State) : (dutyTankAppears s).tanks = s.tanks := by simp [dutyTankAppears]

@[simp] theorem failSet_tanks (x : Fin 2) (cause : SetFailCause) (timer : Nat) (s : State) :
    (failSet x cause timer s).tanks = s.tanks := by simp [failSet]

/-! ### The Evaluator's figures leave the tanks alone -/

@[simp] theorem workOutLevel_tanks (cause : LevelCause) (s : State) : (workOutLevel cause s).tanks = s.tanks := by
  obtain ⟨_, e⟩ | ⟨_, e⟩ := workOutLevel_cases cause s <;> simp [e]

@[simp] theorem workOutComputed_tanks (cause : LevelCause) (s : State) : (workOutComputed cause s).tanks = s.tanks := by
  simp [workOutComputed]

/-! ### Tank records without their roles -/

/-- A tank record with its four roles blanked: its definition, state, accounts and level (R1). -/
def Tank.withoutRoles (k : Tank) : Tank :=
  { k with duty := false, fillTrains := [], transferRole := .none, shoreTarget := false }

/-- Every tank record of a state with its roles blanked. -/
def State.books (s : State) : Vector Tank 12 := updAll s.tanks fun _ k => k.withoutRoles

theorem books_get (s : State) (t : Fin 12) : s.books[t] = s.tanks[t].withoutRoles := updAll_get _ t _

theorem books_eq_of_tanks {s u : State} (h : u.tanks = s.tanks) : u.books = s.books := by rw [State.books, h, State.books]

/-- A change of one tank's roles, whatever they become, is no change of the books. -/
@[simp] theorem modTank_books (s : State) (t : Fin 12) (duty : Tank → Bool) (fill : Tank → List (Fin 3))
    (role : Tank → TransferRole) (target : Tank → Bool) :
    (s.modTank t fun k =>
      { k with duty := duty k, fillTrains := fill k, transferRole := role k, shoreTarget := target k }).books = s.books := by
  apply vector_ext; intro i
  rw [books_get, books_get, modTank_tanks, upd_get]; split
  · subst_vars; rfl
  · rfl

/-! ### The trains change no tank but its roles -/

@[simp] theorem modTrain_books (s : State) (n : Fin 3) (f : Train → Train) : (s.modTrain n f).books = s.books :=
  books_eq_of_tanks rfl
@[simp] theorem modEval_books (s : State) (f : Evaluator → Evaluator) : (s.modEval f).books = s.books :=
  books_eq_of_tanks rfl
@[simp] theorem post_books (n : NoticeBody) (s : State) : (post n s).books = s.books := books_eq_of_tanks (by simp)
@[simp] theorem startCheck_books (s : State) : (startCheck s).books = s.books := books_eq_of_tanks (by simp)

@[simp] theorem giveUpTarget_books (n : Fin 3) (s : State) : (giveUpTarget n s).books = s.books := by
  unfold giveUpTarget; split <;> simp

@[simp] theorem haltTrain_books (n : Fin 3) (cause : StopCause) (s : State) : (haltTrain n cause s).books = s.books :=
  calc (haltTrain n cause s).books = (giveUpTarget n s).books := books_eq_of_tanks (by simp [haltTrain])
    _ = s.books := giveUpTarget_books n s

@[simp] theorem stopCheck_books (s : State) : (stopCheck s).books = s.books :=
  stopCheck_keeps (P := fun u => u.books = s.books) (fun n u h => (haltTrain_books n _ u).trans h) s rfl

@[simp] theorem enterProducing_books (n : Fin 3) (t : Fin 12) (s : State) : (enterProducing n t s).books = s.books := by
  unfold enterProducing; dsimp only; split <;> simp

@[simp] theorem holdComplete_books (n : Fin 3) (s : State) : (holdComplete n s).books = s.books := by
  unfold holdComplete; split <;> simp

@[simp] theorem excursion_books (n : Fin 3) (s : State) : (excursion n s).books = s.books :=
  calc (excursion n s).books = (giveUpTarget n s).books := books_eq_of_tanks (by simp [excursion])
    _ = s.books := giveUpTarget_books n s

@[simp] theorem takeReading_books (r : Salinity) (n : Fin 3) (s : State) : (takeReading r n s).books = s.books := by
  unfold takeReading; dsimp only; split
  · split
    · split <;> simp
    · simp
  · split <;> simp
  · simp

@[simp] theorem retarget_books (s : State) (n : Fin 3) : (retarget s n).books = s.books := by
  unfold retarget; split
  · dsimp only; split <;> simp
  · simp

@[simp] theorem trainsTake_books (oldCall : Nat) (oldCandidates : List (Fin 12)) (s : State) :
    (trainsTake oldCall oldCandidates s).books = s.books :=
  trainsTake_keeps (P := fun u => u.books = s.books) (fun u h => (startCheck_books u).trans h)
    (fun u h => (stopCheck_books u).trans h)
    (retargetAll_keeps (fun u n h => (retarget_books u n).trans h) fun _ h => h) oldCall oldCandidates s rfl

/-! ### The Evaluator changes no tank but its roles -/

@[simp] theorem setDutyFlag_books (t : Fin 12) (on : Bool) (s : State) : (setDutyFlag t on s).books = s.books := by
  simp [setDutyFlag]

@[simp] theorem clearOldDuty_books (old : Option (Fin 12)) (s : State) : (clearOldDuty old s).books = s.books := by
  cases old <;> simp [clearOldDuty]

@[simp] theorem dutyTankLost_books (s : State) : (dutyTankLost s).books = s.books := books_eq_of_tanks (by simp)
@[simp] theorem dutyTankAppears_books (s : State) : (dutyTankAppears s).books = s.books := books_eq_of_tanks (by simp)
@[simp] theorem workOutLevel_books (cause : LevelCause) (s : State) : (workOutLevel cause s).books = s.books :=
  books_eq_of_tanks (by simp)

@[simp] theorem applyDuty_books (cause : DutyCause) (chosen : Option (Fin 12)) (s : State) :
    (applyDuty cause chosen s).books = s.books := by
  unfold applyDuty; dsimp only; split
  · split
    · rfl
    · split <;> simp
  · split <;> simp

@[simp] theorem evaluate_books (s : State) : (evaluate s).books = s.books :=
  evaluate_keeps (P := fun u => u.books = s.books) (fun f u h => (modEval_books u f).trans h)
    (fun u h => (workOutLevel_books _ u).trans h) (fun c u _ h => (applyDuty_books c _ u).trans h) s rfl

@[simp] theorem evaluateAndTrains_books (s : State) : (evaluateAndTrains s).books = s.books := by
  simp [evaluateAndTrains]

/-! ### The Transfer and Shore Unit changes no tank but its roles -/

/-- The start and the end of a transfer: the transfer roles of its two tanks are written (R15, R164, R166). -/
theorem transferRoles_books (src dst : Fin 12) (r q : TransferRole) (s : State) :
    ((s.modTank src fun k => { k with transferRole := r }).modTank dst fun k => { k with transferRole := q }).books
      = s.books := by simp

@[simp] theorem beginTransfer_books (origin : TransferOrigin) (src dst : Fin 12) (litres : Nat) (s : State) :
    (beginTransfer origin src dst litres s).books = s.books :=
  calc (beginTransfer origin src dst litres s).books
      = ((s.modTank src fun k => { k with transferRole := .source }).modTank dst fun k =>
          { k with transferRole := .dest }).books := books_eq_of_tanks (by simp [beginTransfer])
    _ = s.books := transferRoles_books src dst _ _ s

@[simp] theorem endTransfer_books (cause : TransferCause) (s : State) : (endTransfer cause s).books = s.books := by
  unfold endTransfer; split
  · rfl
  · rename_i r _
    rw [← transferRoles_books r.source r.dest .none .none s]; exact books_eq_of_tanks (by simp)

@[simp] theorem balanceReview_books (s : State) : (balanceReview s).books = s.books := by
  unfold balanceReview; split
  · split
    · split <;> simp
    · rfl
  · rfl

/-- The start and the end of a shore fill: the shore target of its tank is written (R15, R168, R169). -/
theorem shoreTarget_books (t : Fin 12) (on : Bool) (s : State) :
    (s.modTank t fun k => { k with shoreTarget := on }).books = s.books := by
  simp

@[simp] theorem beginShore_books (t : Fin 12) (litres : Nat) (s : State) : (beginShore t litres s).books = s.books := by
  rw [← shoreTarget_books t true s]; exact books_eq_of_tanks (by simp [beginShore])

@[simp] theorem endShore_books (cause : ShoreCause) (s : State) : (endShore cause s).books = s.books := by
  unfold endShore; split
  · rfl
  · rename_i r _
    rw [← shoreTarget_books r.target false s]; exact books_eq_of_tanks (by simp)

@[simp] theorem transferShoreTake_books (s : State) : (transferShoreTake s).books = s.books :=
  transferShoreTake_keeps (P := fun u => u.books = s.books) (fun c u h => (endTransfer_books c u).trans h)
    (fun c u h => (endShore_books c u).trans h) (fun _ h => h) s rfl

/-- A tank change leaves every tank's definition, state, accounts and level as they were (R13, R14). -/
@[simp] theorem tankChange_books (s : State) : (tankChange s).books = s.books := by simp [tankChange]

@[simp] theorem allowanceChanged_books (cause : ShedCause) (old : Nat) (s : State) :
    (allowanceChanged cause old s).books = s.books :=
  allowanceChanged_keeps (P := fun u => u.books = s.books) (fun n u h => (post_books n u).trans h)
    (fun u h => (endTransfer_books _ u).trans h) (fun n u h => (haltTrain_books n _ u).trans h)
    (fun u h => (startCheck_books u).trans h) cause old s rfl

end Sys2Proof.Machine
end

section
/-!
What a step keeps, for any property of the state: the Message Link's requests are the handlings of their owners, an event of a tick
is its effect, and a command's answer is its effect with the pins driven. Each law of the manual that every step keeps is then one
claim for each owner and each event.
-/

namespace Sys2Proof.Machine

/-! ### Requests -/

/-- The handling of a request kind keeps a property of the state. -/
def Owner.Keeps (own : Owner) (P : State → Prop) : Prop := ∀ body s, P s → P (own.run body s).1

/-- A request passes its checks, or the first failing one refuses it (R175). -/
theorem checked_cases (table : List (Bool × Status)) (s : State) (go : State × Reply) :
    checked table s go = go ∨ ∃ st, checked table s go = refuse st s := by
  unfold checked; split
  · exact .inr ⟨_, rfl⟩
  · exact .inl rfl

theorem checked_keeps {P : State → Prop} (table : List (Bool × Status)) {s : State} {go : State × Reply} (h : P s)
    (hgo : P go.1) : P (checked table s go).1 := by
  obtain e | ⟨st, e⟩ := checked_cases table s go <;> rw [e]
  · exact hgo
  · exact h

section
variable {P : State → Prop} (hserial : ∀ (ln : LinkLine) (f : SerialLine → SerialLine) (s : State), P s → P (s.modSerial ln f))
include hserial

theorem takeFrame_keeps {kind tag : Byte} {ln : LinkLine} {handle : State → State × Reply}
    (hh : ∀ s, P s → P (handle s).1) (s : State) (h : P s) : P (takeFrame kind tag ln handle s) := by
  unfold takeFrame; split
  · exact hserial _ _ _ h
  · exact hserial _ _ _ (hh _ (hserial _ _ _ h))

theorem takeRequest_keeps {own : Owner} (ho : own.Keeps P) (ln : LinkLine) (tag : Byte) (body : List Byte) (s : State)
    (h : P s) : P (takeRequest own ln tag body s) := by
  refine takeFrame_keeps hserial (fun u hu => ?_) s h
  unfold handleRequest; split
  · exact hu
  · exact ho body u hu

theorem takeAny_keeps {owners : List Owner} (ho : ∀ own ∈ owners, own.Keeps P) (ln : LinkLine) (kind tag : Byte)
    (body : List Byte) (s : State) (h : P s) : P (takeAny owners ln kind tag body s) := by
  unfold takeAny; split
  · rename_i own hown
    exact takeRequest_keeps hserial (ho own (List.mem_of_find?_eq_some hown)) ln tag body s h
  · exact takeFrame_keeps hserial (fun _ hu => hu) s h

/-- What the owners of the kinds keep, a byte on a line keeps, whether or not it completes a frame (R172). -/
theorem receiveByte_keeps {owners : List Owner} (ho : ∀ own ∈ owners, own.Keeps P) (ln : LinkLine) (b : Byte)
    (stopGood : Bool) (s : State) (h : P s) : P (receiveByte owners ln b stopGood s) := by
  have discarded : P (discardFrame ln s) := hserial _ _ _ h
  have completed : ∀ kept, P (takeKept owners ln kept s) := fun kept => by
    unfold takeKept; split
    · exact takeAny_keeps hserial ho _ _ _ _ s h
    · exact discarded
  unfold receiveByte; split
  · unfold takeByte; split
    · split
      · exact hserial _ _ _ h
      · exact h
    · split
      · exact hserial _ _ _ h
      · exact discarded
    · split <;> exact hserial _ _ _ h
    · split
      · exact completed _
      · exact discarded
  · split
    · exact h
    · exact discarded

end

/-- The row of every request kind is a good frame of that kind, looked up among the owners (R174, log 8). -/
theorem exec_request {c : Instr} {r : RequestFrame} (h : requestOf c = some r) (s : State) :
    exec c s = done (takeAny requestOwners r.line r.kind r.tag r.body s) := by
  cases c <;> cases h <;> rfl

/-! ### Events of a tick, and the step -/

theorem takeDue_keeps {P : State → Prop} (hdue : ∀ d s, P s → P (took d s)) {effect : State → State}
    (he : ∀ s, P s → P (effect s)) (d : Due) (still : State → Bool) (s : State) (h : P s) :
    P (takeDue d still effect s) := by
  unfold takeDue; split
  · exact he _ (hdue d s h)
  · exact h

/-- What every command's effect keeps, apart from the queue and the end of a step, every step keeps. -/
theorem step_keeps {P : State → Prop} (hqueue : ∀ s rest, P s → P { s with pending := rest })
    (hfinish : ∀ s, P s → P (finish s)) (hexec : ∀ c s, P s → ∃ u, exec c s = done u ∧ P u) {s t : State} (h : P s)
    (hstep : step s = .next t) : P t := by
  unfold step at hstep; split at hstep
  · cases hstep; exact h
  · rename_i c rest _
    obtain ⟨u, hu, hP⟩ := hexec c _ (hqueue s rest h)
    rw [hu] at hstep; cases hstep; exact hfinish u hP

end Sys2Proof.Machine
end

section
/-!
The two laws of the tank accounts (R11): what the bookings, the seeds and the definitions do to the record of one tank, and that
every command keeps them.
-/

namespace Sys2Proof.Machine

/-! ### Bookings of one litre (R9, R10) -/

theorem Tank.credit_below {k : Tank} (h : k.volume < k.defn.capacity) :
    k.credit = { k with volume := k.volume + 1, credited := k.credited + 1, quietTimer := 0 } := if_pos h

theorem Tank.credit_full {k : Tank} (h : k.defn.capacity ≤ k.volume) :
    k.credit = { k with unbooked := k.unbooked + 1, credited := k.credited + 1, quietTimer := 0 } := if_neg h.not_gt

theorem Tank.debit_above {k : Tank} (h : 0 < k.volume) :
    k.debit = { k with volume := k.volume - 1, debited := k.debited + 1, quietTimer := 0 } := if_pos h

theorem Tank.debit_empty {k : Tank} (h : k.volume = 0) :
    k.debit = { k with unbooked := k.unbooked - 1, debited := k.debited + 1, quietTimer := 0 } := if_neg (by omega)

/-- Settles O16: the bookings at both ends of the range, and the seed and the definitions that clear U. -/
theorem bookingsOfOneLitre : Obligations.BookingsOfOneLitre :=
  ⟨fun _ => Tank.credit_below, fun _ h => Tank.credit_full h.ge, fun _ => Tank.debit_above, fun _ => Tank.debit_empty,
    fun _ _ _ => rfl, fun _ => rfl, rfl⟩

/-! ### The laws of one tank record -/

/-- The two laws of R11 of one tank record: for a seeded tank V lies within the capacity, and V plus U equals S plus C minus
D modulo 2 to the 32. -/
def Tank.Balanced (k : Tank) : Prop :=
  k.seeded = true → k.volume ≤ k.defn.capacity ∧
    BitVec.ofNat 32 k.volume + k.unbooked = BitVec.ofNat 32 k.seedVolume + k.credited - k.debited

theorem tankLaws_iff (s : State) : TankLaws s ↔ ∀ t : Fin 12, s.tanks[t].Balanced := Iff.rfl

theorem Tank.balanced_of_unseeded {k : Tank} (h : k.seeded = false) : k.Balanced := by
  intro hs; rw [h] at hs; cases hs

theorem Tank.credit_balanced {k : Tank} (h : k.Balanced) : k.credit.Balanced := by
  obtain below | full := Nat.lt_or_ge k.volume k.defn.capacity
  · rw [credit_below below]; intro hs
    obtain ⟨_, hsum⟩ := h hs
    refine ⟨below, ?_⟩
    simp only [BitVec.ofNat_add]; bv_omega
  · rw [credit_full full]; intro hs
    obtain ⟨hcap, hsum⟩ := h hs
    exact ⟨hcap, by bv_omega⟩

theorem Tank.debit_balanced {k : Tank} (h : k.Balanced) : k.debit.Balanced := by
  obtain empty | above := Nat.eq_zero_or_pos k.volume
  · rw [debit_empty empty]; intro hs
    obtain ⟨hcap, hsum⟩ := h hs
    exact ⟨hcap, by bv_omega⟩
  · rw [debit_above above]; intro hs
    obtain ⟨hcap, hsum⟩ := h hs
    have split : BitVec.ofNat 32 k.volume = BitVec.ofNat 32 (k.volume - 1) + 1#32 := by
      rw [← BitVec.ofNat_add, Nat.sub_add_cancel above]
    exact ⟨by dsimp only; omega, by bv_omega⟩

theorem Tank.seed_balanced (k : Tank) (amount : Nat) (o : SeedOrigin) : (k.seed amount o).Balanced :=
  fun _ => ⟨Nat.min_le_right _ _, by simp [Tank.seed]⟩

theorem Tank.tick_balanced {k : Tank} (h : k.Balanced) : k.tick.Balanced := by
  unfold Tank.tick; split <;> exact h

/-! ### The laws of a state under the updates of the Tank Inventory -/

theorem TankLaws.of_books {s u : State} (h : TankLaws s) (e : u.books = s.books) : TankLaws u := fun t => by
  have same : u.tanks[t].withoutRoles = s.tanks[t].withoutRoles := by rw [← books_get, e, books_get]
  have : s.tanks[t].withoutRoles.Balanced := h t
  rw [← same] at this; exact this

theorem TankLaws.of_tanks {s u : State} (h : TankLaws s) (e : u.tanks = s.tanks) : TankLaws u :=
  h.of_books (books_eq_of_tanks e)

theorem TankLaws.modTank {s : State} (h : TankLaws s) {t : Fin 12} {f : Tank → Tank} (hf : (f s.tanks[t]).Balanced) :
    TankLaws (s.modTank t f) := fun i => by
  rw [modTank_tanks, upd_get]; split
  · exact hf
  · exact h i

theorem TankLaws.tankChange {s : State} (h : TankLaws s) : TankLaws (tankChange s) := h.of_books (tankChange_books s)

theorem TankLaws.book {s : State} (h : TankLaws s) (t : Fin 12) (into : Bool) : TankLaws (book t into s) :=
  h.modTank (by cases into; exacts [Tank.debit_balanced (h t), Tank.credit_balanced (h t)])

theorem TankLaws.seedWith {s : State} (h : TankLaws s) (t : Fin 12) (amount : Nat) (o : SeedOrigin) :
    TankLaws (seedWith t amount o s) :=
  TankLaws.tankChange (TankLaws.of_tanks (h.modTank (Tank.seed_balanced _ amount o)) (post_tanks _ _))

theorem TankLaws.changeTankState {s : State} (h : TankLaws s) {t : Fin 12} {f : Tank → Tank}
    (hf : (f s.tanks[t]).Balanced) (cause : TankCause) : TankLaws (changeTankState t cause f s) :=
  TankLaws.tankChange (TankLaws.of_tanks (h.modTank hf) (post_tanks _ _))

/-- A redefinition of the same capacity keeps the accounts; any other leaves the tank unseeded (R6, R7). -/
theorem TankLaws.applyTankDef {s : State} (h : TankLaws s) (t : Fin 12) (d : TankDef) : TankLaws (applyTankDef t d s) := by
  unfold Machine.applyTankDef; dsimp only; split
  · exact h.changeTankState (Tank.balanced_of_unseeded rfl) _
  · split
    · exact h.changeTankState (Tank.balanced_of_unseeded rfl) _
    · rename_i same
      refine (h.modTank (f := fun k => { k with defn := d }) ?_).tankChange
      have hcap : s.tanks[t].defn.capacity = d.capacity := not_not.mp same
      intro hs
      obtain ⟨hv, hsum⟩ := h t hs
      exact ⟨hcap ▸ hv, hsum⟩

theorem TankLaws.removeTankDef {s : State} (h : TankLaws s) (t : Fin 12) : TankLaws (removeTankDef t s) := by
  unfold Machine.removeTankDef; split
  · exact h.changeTankState (Tank.balanced_of_unseeded rfl) _
  · exact h

theorem TankLaws.levelLost {s : State} (h : TankLaws s) (t : Fin 12) : TankLaws (levelLost t s) := by
  unfold Machine.levelLost; exact TankLaws.tankChange (h.modTank (h t))

theorem TankLaws.reconcile {s : State} (h : TankLaws s) (t : Fin 12) (lv : Nat) : TankLaws (reconcile t lv s) := by
  have checked : TankLaws (s.modTank t fun k => { k with agreement := checkedAgreement s.tanks[t] lv }) := h.modTank (h t)
  unfold Machine.reconcile; dsimp only; split
  · split
    · exact checked.of_tanks (post_tanks _ _)
    · split
      · exact checked.of_tanks (post_tanks _ _)
      · exact checked
  · exact h

theorem TankLaws.takeHead {s : State} (h : TankLaws s) (t : Fin 12) (head : Nat) : TankLaws (takeHead t head s) := by
  have headed : TankLaws (s.modTank t fun k => { k with levelHead := some head }) := h.modTank (h t)
  unfold Machine.takeHead; dsimp only; split
  · split
    · exact headed
    · rename_i lv _
      have levelled := headed.modTank (t := t) (f := fun k => { k with levelVolume := some lv }) (headed t)
      split
      · exact (levelled.reconcile t lv).tankChange
      · exact levelled.seedWith t lv .automatic
  · exact h

/-! ### Meter edges and gate ends -/

theorem strayLitre_tanks (m : Fin 24) (cause : StrayCause) (forward : Bool) (s : State) :
    (strayLitre m cause forward s).tanks = s.tanks := by
  unfold strayLitre; dsimp only; split <;> simp

theorem lineLitre_tanks (k : Fin 16) (forward : Bool) (s : State) : (lineLitre k forward s).tanks = s.tanks := by
  unfold lineLitre; dsimp only; split
  · split <;> simp
  · simp

theorem TankLaws.productLitre {s : State} (h : TankLaws s) (n : Fin 3) (forward : Bool) :
    TankLaws (productLitre n forward s) := by
  unfold Machine.productLitre; dsimp only; split
  · exact (TankLaws.book (h.of_tanks (modTrain_tanks s n _)) _ forward).tankChange
  · exact h.of_tanks (modTrain_tanks s n _)

theorem TankLaws.transferLitre {s : State} (h : TankLaws s) (r : TransferRun) (forward : Bool) :
    TankLaws (transferLitre r forward s) := by
  have drawn : TankLaws (evaluateAndTrains (Machine.book r.source (!forward) s)) :=
    (h.book r.source (!forward)).of_books (evaluateAndTrains_books _)
  have filled := (drawn.book r.dest forward).of_books (evaluateAndTrains_books _)
  exact TankLaws.of_books (TankLaws.of_tanks filled rfl) (transferShoreTake_books _)

theorem TankLaws.shoreLitre {s : State} (h : TankLaws s) (r : ShoreRun) (forward : Bool) :
    TankLaws (shoreLitre r forward s) := by
  unfold Machine.shoreLitre
  exact TankLaws.tankChange (TankLaws.book (h.of_tanks rfl) r.target forward)

/-- A litre books the tanks of its role, or none (R33 to R38). -/
theorem TankLaws.applyLitre {s : State} (h : TankLaws s) (m : Fin 24) (forward : Bool) :
    TankLaws (applyLitre m forward s) := by
  have stray (cause : StrayCause) : TankLaws (strayLitre m cause forward s) := h.of_tanks (strayLitre_tanks m cause forward s)
  cases role : s.meters[m].defn.role with simp only [Machine.applyLitre, role]
  | none => exact h
  | supply =>
    split
    · exact (h.book _ _).tankChange
    · exact stray _
  | product n => exact h.productLitre n forward
  | transfer =>
    split
    · exact h.transferLitre _ forward
    · exact stray _
  | shore =>
    split
    · exact h.shoreLitre _ forward
    · exact stray _
  | line k =>
    split
    · exact h.of_tanks (lineLitre_tanks k forward s)
    · exact stray _

theorem TankLaws.takeCount {s : State} (h : TankLaws s) (m : Fin 24) (forward : Bool) :
    TankLaws (takeCount m forward s) := by
  unfold Machine.takeCount; split
  · exact h.of_tanks (modMeter_tanks s m _)
  · exact TankLaws.applyLitre (h.of_tanks (modMeter_tanks s m _)) m _

theorem TankLaws.takeEdge {s : State} (h : TankLaws s) (m : Fin 24) (a b : Bool) : TankLaws (takeEdge m a b s) := by
  have chosen : TankLaws (if edgesRace s.meters[m] a b then takeChoice 2 s else (0, s)).2 := by
    split <;> exact h
  have levelled := chosen.of_tanks (modMeter_tanks _ m fun c => c.takeLevels a b)
  unfold Machine.takeEdge; dsimp only; split
  · split
    · exact levelled.takeCount m _
    · exact levelled
  · exact levelled

theorem TankLaws.takeReading {s : State} (h : TankLaws s) (r : Salinity) (n : Fin 3) : TankLaws (takeReading r n s) :=
  h.of_books (takeReading_books r n s)

theorem TankLaws.modInput {s : State} (h : TankLaws s) (i : Fin 16) (f : FrequencyInput → FrequencyInput) :
    TankLaws (s.modInput i f) := h.of_tanks (modInput_tanks s i f)

theorem TankLaws.takeValue {s : State} (h : TankLaws s) (i : Fin 16) (u : Nat) : TankLaws (takeValue i u s) := by
  unfold Machine.takeValue; dsimp only; split
  · exact h
  · exact h.takeReading _ _
  · split
    · exact (h.modInput i _).takeHead _ _
    · exact h.modInput i _

theorem TankLaws.handFault {s : State} (h : TankLaws s) (i : Fin 16) : TankLaws (handFault i s) := by
  unfold Machine.handFault; split
  · exact h.takeReading _ _
  · exact h

theorem TankLaws.handFaultEntry {s : State} (h : TankLaws s) (i : Fin 16) : TankLaws (handFaultEntry i s) := by
  unfold Machine.handFaultEntry; split
  · exact h
  · exact h.levelLost _
  · exact h.takeReading _ _

theorem TankLaws.gateEnd {s : State} (h : TankLaws s) (i : Fin 16) (f : Nat) : TankLaws (gateEnd i f s) := by
  have gated := h.modInput i fun x => x.gate f
  unfold Machine.gateEnd; dsimp only; split
  · exact gated
  · split
    · exact TankLaws.handFaultEntry ((gated.modInput i _).of_tanks (post_tanks _ _)) i
    · split
      · exact TankLaws.takeValue ((gated.modInput i _).of_tanks (post_tanks _ _)) i _
      · split
        · exact (gated.modInput i _).takeValue i _
        · exact gated.modInput i _
        · exact (gated.modInput i _).handFault i
        · exact (gated.modInput i _).handFault i

end Sys2Proof.Machine
end

section
/-!
The laws of the tank accounts under every request and every event, and so under every step (R11).
-/

namespace Sys2Proof.Machine

/-! ### Queries -/

theorem readIndexed_state (n : Nat) (record : State → Fin n → List Byte) (body : List Byte) (s : State) :
    (readIndexed n record body s).1 = s := by
  unfold readIndexed; split <;> rfl

/-- A query changes at most the Link: the notice queue or the snapshot (R178, R179). -/
theorem queryOwners_keep {P : State → Prop} (hlink : ∀ (f : Link → Link) (s : State), P s → P (s.modLink f)) :
    ∀ own ∈ queryOwners, own.Keeps P := by
  have read (n : Nat) (record : State → Fin n → List Byte) (body : List Byte) (s : State) (h : P s) :
      P (readIndexed n record body s).1 := by rwa [readIndexed_state]
  have fetched : ownFetchNotices.Keeps P := fun body s h => by
    simp only [ownFetchNotices, runFetchNotices, fetch]; split
    · dsimp only; exact hlink _ s h
    · exact h
  have taken : ownTakeSnapshot.Keeps P := fun _ s h => by
    simp only [ownTakeSnapshot, runTakeSnapshot, answer]; split
    · exact h
    · dsimp only; exact hlink _ s h
  have paged : ownReadSnapshot.Keeps P := fun body s h => by
    simp only [ownReadSnapshot, runReadSnapshot, answer, dropSnapshot]; split
    · split
      · exact h
      · split
        · exact h
        · dsimp only; exact hlink _ s h
    · exact h
  have released : ownReleaseSnapshot.Keeps P := fun _ s h => by
    simp only [ownReleaseSnapshot, runReleaseSnapshot, okReply, dropSnapshot]; split
    · dsimp only; exact hlink _ s h
    · exact h
  simp only [queryOwners, List.forall_mem_cons]
  exact ⟨fun _ _ h => h, read 12 _, read 24 _, read 16 _, read 16 _, read 6 _, fun _ _ h => h, read 3 _, fun _ _ h => h,
    fun _ _ h => h, fun _ _ h => h, fetched, taken, paged, released,
    List.forall_mem_nil _⟩

/-! ### Configuration requests -/

theorem TankLaws.loadStrapping {s : State} (h : TankLaws s) (t : Fin 12) (points : List StrapPoint) :
    TankLaws (loadStrapping t points s) := by
  have emptied : TankLaws (emptyWindow t (s.modTank t fun k => { k with strapping := points })) :=
    TankLaws.of_tanks (h.modTank (f := fun k => { k with strapping := points }) (h t)) rfl
  exact emptied.levelLost t

@[simp] theorem setMetered_tanks (k : Fin 16) (metered : Bool) (s : State) :
    (setMetered k metered s).tanks = s.tanks := by simp [setMetered]

@[simp] theorem handRoles_tanks (old new : MeterRole) (s : State) : (handRoles old new s).tanks = s.tanks := by
  unfold handRoles; split
  · rfl
  · cases lineOfRole old <;> cases lineOfRole new <;> simp

@[simp] theorem applyMeterDef_tanks (m : Fin 24) (d : Option MeterDef) (s : State) :
    (applyMeterDef m d s).tanks = s.tanks := by simp [applyMeterDef]

theorem TankLaws.applyInputDef {s : State} (h : TankLaws s) (i : Fin 16) (d : Option InputRole) :
    TankLaws (applyInputDef i d s) := by
  have givenUp (r : InputRole) (u : State) (hu : TankLaws u) : TankLaws (giveUpInput r u) := by
    cases r with
    | none => exact hu
    | level t => exact hu.levelLost t
    | salinity n => exact hu.takeReading _ n
  have takenUp (changed : Bool) (st : FaultState) (r : InputRole) (u : State) (hu : TankLaws u) :
      TankLaws (takeUpInput changed st r u) := by
    cases r with
    | none => exact hu
    | level t => exact hu.levelLost t
    | salinity n =>
      simp only [takeUpInput]; split
      · exact hu.takeReading _ n
      · exact hu
  unfold Machine.applyInputDef
  refine takenUp _ _ _ _ ?_
  split
  · exact givenUp _ _ (h.modInput i _)
  · exact h.modInput i _

@[simp] theorem moveGroup_tanks (k : Fin 16) (old new : Fin 6) (s : State) : (moveGroup k old new s).tanks = s.tanks := by
  unfold moveGroup; split <;> simp

@[simp] theorem defineLine_tanks (d : LineDef) (s : State) (k : Fin 16) : (defineLine d s k).tanks = s.tanks := by
  unfold defineLine; split <;> simp [redefineLine, newLine]

@[simp] theorem removeLine_tanks (s : State) (k : Fin 16) : (removeLine s k).tanks = s.tanks := by
  unfold removeLine; split <;> simp

@[simp] theorem applyGroupDef_tanks (g : Fin 6) (admitted patience : Nat) (s : State) :
    (applyGroupDef g admitted patience s).tanks = s.tanks := by
  unfold applyGroupDef; dsimp only; split <;> simp

@[simp] theorem applySupplyBands_tanks (bands : List Nat) (hysteresis : Nat) (s : State) :
    (applySupplyBands bands hysteresis s).tanks = s.tanks := by simp [applySupplyBands]

@[simp] theorem applyProductionBands_books (bands : List Nat) (hysteresis : Nat) (s : State) :
    (applyProductionBands bands hysteresis s).books = s.books := by
  unfold applyProductionBands handCall workOutCall; split <;> simp

@[simp] theorem applySets_books (body : List Byte) (s : State) : (applySets body s).books = s.books := by
  rw [applySets, allowanceChanged_books]
  exact books_eq_of_tanks (by rw [settleSets_tanks]; rfl)

theorem defineTank_keepsTankLaws : ownDefineTank.Keeps TankLaws := fun body s h => by
  simp only [ownDefineTank, runDefineTank]; split
  · exact h
  · rename_i t _
    unfold defineTank; dsimp only; split
    · exact checked_keeps _ h (h.removeTankDef t)
    · split
      · exact h
      · exact checked_keeps _ h (h.applyTankDef t _)

theorem loadStrapping_keepsTankLaws : ownLoadStrapping.Keeps TankLaws := fun body s h => by
  simp only [ownLoadStrapping, runLoadStrapping]; split
  · exact h
  · exact checked_keeps _ h (h.loadStrapping _ _)

theorem defineMeter_keepsTankLaws : ownDefineMeter.Keeps TankLaws := fun body s h => by
  have defined (m : Fin 24) (d : Option MeterDef) : TankLaws (applyMeterDef m d s) :=
    h.of_tanks (applyMeterDef_tanks m d s)
  simp only [ownDefineMeter, runDefineMeter]; split
  · exact h
  · rename_i m _
    unfold defineMeter; split
    · refine checked_keeps _ h ?_
      simp only [okReply]; split
      · exact defined m _
      · exact h
    · split
      · exact h
      · split
        · exact h
        · exact h
        · exact checked_keeps _ h (defined m _)

theorem defineFrequencyInput_keepsTankLaws : ownDefineFrequencyInput.Keeps TankLaws := fun body s h => by
  simp only [ownDefineFrequencyInput, runDefineFrequencyInput]; split
  · exact h
  · rename_i i _
    unfold defineInput; split
    · exact h
    · refine checked_keeps _ h ?_
      simp only [okReply]; split
      · exact h
      · exact h.applyInputDef i _

theorem defineLines_keepsTankLaws : ownDefineLines.Keeps TankLaws := fun body s h => by
  simp only [ownDefineLines, runDefineLines]; split
  · exact h
  · split
    · exact h
    · split
      · exact checked_keeps _ h (h.of_tanks (foldl_tanks removeLine_tanks _ s))
      · split
        · exact h
        · unfold defineLineSet; split
          · exact h
          · exact checked_keeps _ h (h.of_tanks (foldl_tanks (defineLine_tanks _) _ s))

theorem defineGroup_keepsTankLaws : ownDefineGroup.Keeps TankLaws := fun body s h => by
  simp only [ownDefineGroup, runDefineGroup]; split
  · exact h
  · exact checked_keeps _ h (h.of_tanks (applyGroupDef_tanks _ _ _ s))

theorem defineTrain_keepsTankLaws : ownDefineTrain.Keeps TankLaws := fun body s h => by
  simp only [ownDefineTrain, runDefineTrain]; split
  · exact h
  · rename_i n _
    unfold defineTrain; split
    · exact h
    · split
      · exact h
      · exact checked_keeps _ h (h.of_tanks ((startCheck_tanks _).trans (modTrain_tanks s n _)))

theorem configurationOwners_keepTankLaws : ∀ own ∈ configurationOwners, own.Keeps TankLaws := by
  simp only [configurationOwners, List.forall_mem_cons]
  exact ⟨defineTank_keepsTankLaws, loadStrapping_keepsTankLaws, defineMeter_keepsTankLaws,
    defineFrequencyInput_keepsTankLaws, defineLines_keepsTankLaws, defineGroup_keepsTankLaws,
    fun _ s h => checked_keeps _ h (h.of_tanks (applySupplyBands_tanks _ _ s)),
    fun _ s h => checked_keeps _ h (h.of_books (applyProductionBands_books _ _ s)),
    fun _ s h => checked_keeps _ h (h.of_tanks (modEval_tanks s _)), defineTrain_keepsTankLaws,
    fun body s h => checked_keeps _ h (h.of_books (applySets_books body s)),
    fun _ _ h => checked_keeps _ h (h.of_tanks rfl), fun _ s h => checked_keeps _ h (h.of_tanks (modLink_tanks s _)),
    fun _ s h => h.of_tanks (modLink_tanks s _), List.forall_mem_nil _⟩

/-! ### Operation requests -/

@[simp] theorem applyMask_tanks (ks : List (Fin 16)) (setting : Bool) (s : State) :
    (applyMask ks setting s).tanks = s.tanks := by
  unfold applyMask; dsimp only; split <;> simp

@[simp] theorem applyMode_tanks (mode : ArbiterMode) (s : State) : (applyMode mode s).tanks = s.tanks := by
  unfold applyMode; split <;> simp

@[simp] theorem applyTrainMode_books (n : Fin 3) (mode : TrainMode) (s : State) :
    (applyTrainMode n mode s).books = s.books := by
  unfold applyTrainMode; dsimp only; split <;> split <;> simp

@[simp] theorem flushFromOff_tanks (n : Fin 3) (s : State) : (flushFromOff n s).tanks = s.tanks := by
  simp [flushFromOff]

@[simp] theorem flushFromFault_tanks (n : Fin 3) (s : State) : (flushFromFault n s).tanks = s.tanks := by
  simp [flushFromFault]

@[simp] theorem changeWaters_books (w : Waters) (s : State) : (changeWaters w s).books = s.books := by
  have halted (u : State) (n : Fin 3) (h : u.books = s.books) : (haltRunning .restricted u n).books = s.books := by
    unfold haltRunning; split
    · exact (haltTrain_books n _ u).trans h
    · exact h
  have written : ({ s with waters := w } : State).books = s.books := books_eq_of_tanks rfl
  cases w with
  | restricted => simp only [changeWaters]; exact foldl_keeps halted allTrains _ written
  | opened => simp only [changeWaters]; exact (startCheck_books _).trans written

@[simp] theorem applyFloor_tanks (floor : Nat) (s : State) : (applyFloor floor s).tanks = s.tanks := by simp [applyFloor]

@[simp] theorem applyAllowance_books (allowance : Nat) (s : State) : (applyAllowance allowance s).books = s.books :=
  (allowanceChanged_books _ _ _).trans (books_eq_of_tanks rfl)

theorem seedTank_keepsTankLaws : ownSeedTank.Keeps TankLaws := fun body s h => by
  simp only [ownSeedTank, runSeedTank]; split
  · exact h
  · exact checked_keeps _ h (h.seedWith _ _ _)

theorem reseedTank_keepsTankLaws : ownReseedTank.Keeps TankLaws := fun body s h => by
  simp only [ownReseedTank, runReseedTank]; split
  · exact h
  · unfold reseedTank; split
    · exact h
    · split
      · exact h
      · exact h.seedWith _ _ _

theorem tankService_keepsTankLaws : ownTankService.Keeps TankLaws := fun body s h => by
  simp only [ownTankService, runTankService]; split
  · exact h
  · exact h
  · rename_i t wanted _ _
    unfold tankService; split
    · exact h
    · simp only [okReply]; split
      · exact h.changeTankState (f := fun k => { k with state := wanted.toTankState }) (h t) _
      · exact h

theorem draw_keepsTankLaws : ownDraw.Keeps TankLaws := fun body s h => by
  simp only [ownDraw, runDraw]; split
  · exact h
  · exact checked_keeps _ h (h.of_tanks (register_tanks _ _ _ s))

theorem cancelDraw_keepsTankLaws : ownCancelDraw.Keeps TankLaws := fun body s h => by
  simp only [ownCancelDraw, runCancelDraw]; split
  · exact h
  · rename_i k _
    unfold cancelDraw; split
    case h_1 => exact h.of_tanks (cancelPending_tanks k s)
    case h_2 | h_3 => exact h.of_tanks (endDraw_tanks k _ s)
    all_goals exact h

theorem endDraw_keepsTankLaws : ownEndDraw.Keeps TankLaws := fun body s h => by
  have ended (k : Fin 16) : TankLaws (endByHost k s).1 := h.of_tanks (endDraw_tanks k _ s)
  simp only [ownEndDraw, runEndDraw]; split
  · unfold endNonSpecific; split
    · exact ended _
    · exact h
  · split
    · exact h
    · unfold endSpecific; split
      case h_1 | h_2 => exact ended _
      all_goals exact h

theorem maskLines_keepsTankLaws : ownMaskLines.Keeps TankLaws := fun body s h => by
  simp only [ownMaskLines, runMaskLines]; split
  · exact h
  · exact checked_keeps _ h (h.of_tanks (applyMask_tanks _ _ s))

theorem setRotation_keepsTankLaws : ownSetRotation.Keeps TankLaws := fun body s h => by
  simp only [ownSetRotation, runSetRotation]; split
  · exact h
  · exact checked_keeps _ h (h.of_tanks (refreshPending_tanks _))

theorem arbiterMode_keepsTankLaws : ownArbiterMode.Keeps TankLaws := fun body s h => by
  simp only [ownArbiterMode, runArbiterMode]; split
  · exact h
  · exact h.of_tanks (applyMode_tanks _ s)

theorem dispatch_keepsTankLaws : ownDispatch.Keeps TankLaws := fun body s h => by
  simp only [ownDispatch, runDispatch]; split
  · unfold dispatchOne; split
    · exact h
    · split
      · exact h.of_tanks (grant_tanks _ s)
      · exact h
  · exact h

theorem resetLine_keepsTankLaws : ownResetLine.Keeps TankLaws := fun body s h => by
  simp only [ownResetLine, runResetLine]; split
  · exact h
  · exact checked_keeps _ h (h.of_tanks (modLine_tanks s _ _))

theorem trainMode_keepsTankLaws : ownTrainMode.Keeps TankLaws := fun body s h => by
  simp only [ownTrainMode, runTrainMode]; split
  · exact h
  · exact h
  · exact h.of_books (applyTrainMode_books _ _ s)

theorem startTrain_keepsTankLaws : ownStartTrain.Keeps TankLaws := fun body s h => by
  simp only [ownStartTrain, runStartTrain]; split
  · exact h
  · exact checked_keeps _ h (h.of_tanks (beginTrain_tanks _ s))

theorem stopTrain_keepsTankLaws : ownStopTrain.Keeps TankLaws := fun body s h => by
  simp only [ownStopTrain, runStopTrain]; split
  · exact h
  · exact checked_keeps _ h (h.of_books (haltTrain_books _ _ s))

theorem flushTrain_keepsTankLaws : ownFlushTrain.Keeps TankLaws := fun body s h => by
  simp only [ownFlushTrain, runFlushTrain]; split
  · exact h
  · rename_i n _
    unfold flushTrain; dsimp only; split
    · exact h
    · split
      · exact h.of_tanks (flushFromOff_tanks n s)
      · split
        · exact h.of_tanks (flushFromFault_tanks n s)
        · exact h

theorem resetTrain_keepsTankLaws : ownResetTrain.Keeps TankLaws := fun body s h => by
  simp only [ownResetTrain, runResetTrain]; split
  · exact h
  · exact checked_keeps _ h (h.of_tanks (by simp [okReply, resetTrain]))

theorem setWaters_keepsTankLaws : ownSetWaters.Keeps TankLaws := fun body s h => by
  simp only [ownSetWaters, runSetWaters]; split
  · exact h
  · simp only [okReply]; split
    · exact h
    · exact h.of_books (changeWaters_books _ s)

theorem startTransfer_keepsTankLaws : ownStartTransfer.Keeps TankLaws := fun body s h => by
  simp only [ownStartTransfer, runStartTransfer]; split
  · exact checked_keeps _ h (h.of_books (beginTransfer_books _ _ _ _ s))
  · exact h

theorem startShoreFill_keepsTankLaws : ownStartShoreFill.Keeps TankLaws := fun body s h => by
  simp only [ownStartShoreFill, runStartShoreFill]; split
  · exact h
  · exact checked_keeps _ h (h.of_books (beginShore_books _ _ s))

theorem pressureSetService_keepsTankLaws : ownPressureSetService.Keeps TankLaws := fun body s h => by
  simp only [ownPressureSetService, runPressureSetService]; split
  · exact h
  · exact h
  · refine h.of_tanks ?_
    simp only [okReply, serviceIn, serviceOut]
    split <;> split <;> simp

theorem resetPressureSet_keepsTankLaws : ownResetPressureSet.Keeps TankLaws := fun body s h => by
  simp only [ownResetPressureSet, runResetPressureSet]; split
  · exact h
  · exact checked_keeps _ h (h.of_tanks (by simp [okReply]))

theorem operationOwners_keepTankLaws : ∀ own ∈ operationOwners, own.Keeps TankLaws := by
  simp only [operationOwners, List.cons_append, List.nil_append, List.forall_mem_cons]
  exact ⟨seedTank_keepsTankLaws, reseedTank_keepsTankLaws, tankService_keepsTankLaws, draw_keepsTankLaws,
    cancelDraw_keepsTankLaws, endDraw_keepsTankLaws, maskLines_keepsTankLaws, setRotation_keepsTankLaws,
    arbiterMode_keepsTankLaws, dispatch_keepsTankLaws, resetLine_keepsTankLaws, trainMode_keepsTankLaws,
    startTrain_keepsTankLaws, stopTrain_keepsTankLaws, flushTrain_keepsTankLaws, resetTrain_keepsTankLaws,
    setWaters_keepsTankLaws, fun _ s h => h.of_tanks (applyFloor_tanks _ s),
    fun _ s h => h.of_books (applyAllowance_books _ s), startTransfer_keepsTankLaws,
    fun _ s h => checked_keeps _ h (h.of_books (endTransfer_books _ s)), startShoreFill_keepsTankLaws,
    fun _ s h => checked_keeps _ h (h.of_books (endShore_books _ s)), pressureSetService_keepsTankLaws,
    resetPressureSet_keepsTankLaws, List.forall_mem_nil _⟩

/-- Every request kind keeps the laws of the tank accounts. -/
theorem requestOwners_keepTankLaws : ∀ own ∈ requestOwners, own.Keeps TankLaws := by
  simp only [requestOwners, List.forall_mem_append]
  exact ⟨⟨queryOwners_keep fun f s h => h.of_tanks (modLink_tanks s f), configurationOwners_keepTankLaws⟩,
    operationOwners_keepTankLaws⟩

/-! ### Events -/

/-- At a power-on every tank is unseeded (R4, R181). -/
theorem powerOn_tankLaws (storeGood : Bool) (phaseA phaseB : BitVec 24) (localIn : Bool) (s : State) :
    TankLaws (powerOn storeGood phaseA phaseB localIn s) := by
  have unseeded (k : Option SavedTank) : (tankFrom k).Balanced := by
    cases k <;> exact Tank.balanced_of_unseeded rfl
  have fromImage (image : Image) (defaulted : Bool) : TankLaws (stateFrom image defaulted phaseA phaseB localIn s) :=
    fun t => by simp only [stateFrom, updAll_get]; exact unseeded _
  unfold powerOn; split <;> exact fromImage _ _

theorem TankLaws.tick {s : State} (h : TankLaws s) (contacts : BitVec 16) (proofs : BitVec 2) (localIn : Bool) :
    TankLaws (tick contacts proofs localIn s) := fun t => by
  simp only [Machine.tick, advance, updAll_get]; exact Tank.tick_balanced (h t)

/-- An event of a tick whose effect changes no tank but its roles keeps the laws. -/
theorem TankLaws.takeDue {s : State} (h : TankLaws s) {effect : State → State} (he : ∀ u, (effect u).books = u.books)
    (d : Due) (still : State → Bool) : TankLaws (takeDue d still effect s) :=
  takeDue_keeps (fun d u hu => hu.of_tanks (took_tanks d u)) (fun u hu => hu.of_books (he u)) d still s h

/-- An event of a tick whose effect leaves the tanks alone keeps the laws. -/
theorem TankLaws.takeDue_of_tanks {s : State} (h : TankLaws s) {effect : State → State}
    (he : ∀ u, (effect u).tanks = u.tanks) (d : Due) (still : State → Bool) : TankLaws (Machine.takeDue d still effect s) :=
  h.takeDue (fun u => books_eq_of_tanks (he u)) d still

theorem contactAsserted_tanks (k : Fin 16) (s : State) : (contactAsserted k s).tanks = s.tanks := by
  unfold contactAsserted; dsimp only; split <;> simp

theorem contactReleased_tanks (k : Fin 16) (s : State) : (contactReleased k s).tanks = s.tanks := by
  unfold contactReleased; dsimp only; split
  · split
    · simp
    · split <;> simp
  · simp

theorem ageDraw_tanks (k : Fin 16) (s : State) : (ageDraw k s).tanks = s.tanks := by simp [ageDraw]

theorem holdExpires_tanks (s : State) : (holdExpires s).tanks = s.tanks := by
  unfold holdExpires; split <;> simp

theorem setProves_tanks (x : Fin 2) (s : State) : (setProves x s).tanks = s.tanks := by
  unfold setProves; dsimp only; split <;> simp

theorem startFails_tanks (x : Fin 2) (s : State) : (startFails x s).tanks = s.tanks := by simp [startFails]

theorem proofLost_tanks (x : Fin 2) (s : State) : (proofLost x s).tanks = s.tanks := by simp [proofLost]

theorem alternates_tanks (s : State) : (alternates s).tanks = s.tanks := by
  unfold alternates tryAlternation; dsimp only; split <;> simp

theorem balanceReviewed_books (s : State) : (balanceReviewed s).books = s.books := by
  unfold balanceReviewed; dsimp only; split <;> simp

theorem writeCompletes_tanks (checkHolds : Bool) (s : State) : (writeCompletes checkHolds s).tanks = s.tanks := by
  unfold writeCompletes; split
  · rfl
  · split <;> simp

/-- The effect of every command keeps the laws of the tank accounts. -/
theorem exec_keepsTankLaws (c : Instr) (s : State) (h : TankLaws s) : ∃ u, exec c s = done u ∧ TankLaws u := by
  have serial (ln : LinkLine) (f : SerialLine → SerialLine) (u : State) (hu : TankLaws u) : TankLaws (u.modSerial ln f) :=
    hu.of_tanks (modSerial_tanks u ln f)
  have request (r : RequestFrame) (hr : requestOf c = some r) : ∃ u, exec c s = done u ∧ TankLaws u :=
    ⟨_, exec_request hr s, takeAny_keeps serial requestOwners_keepTankLaws r.line r.kind r.tag r.body s h⟩
  have whenSo (b : Bool) {u : State} (hu : TankLaws u) : TankLaws (if b then u else s) := by
    cases b
    · exact h
    · exact hu
  cases c with
  | powerOn good a b loc => exact ⟨_, rfl, powerOn_tankLaws good a b loc s⟩
  | secondTick contacts proofs loc => exact ⟨_, rfl, h.tick contacts proofs loc⟩
  | frameDiscard ln => exact ⟨_, rfl, serial ln _ s h⟩
  | receiverGapTimeout ln =>
    refine ⟨_, rfl, ?_⟩
    split
    · exact h
    · exact serial ln _ s h
  | frameWhileBusy ln => exact ⟨_, rfl, whenSo _ (serial ln _ s h)⟩
  | replySent ln => exact ⟨_, rfl, serial ln _ s h⟩
  | byteReceived ln b good => exact ⟨_, rfl, receiveByte_keeps serial requestOwners_keepTankLaws ln b good s h⟩
  | storeWriteComplete good => exact ⟨_, rfl, h.of_tanks (writeCompletes_tanks good s)⟩
  | authorityChange => exact ⟨_, rfl, h.takeDue_of_tanks (fun u => modLink_tanks u _) _ _⟩
  | meterEdge m a b => exact ⟨_, rfl, h.takeEdge m a b⟩
  | frequencyGateEnd i f => exact ⟨_, rfl, h.gateEnd i f⟩
  | inputFaultEntry i f => exact ⟨_, rfl, whenSo _ (h.gateEnd i f)⟩
  | inputFaultCleared i f => exact ⟨_, rfl, whenSo _ (h.gateEnd i f)⟩
  | qualificationHoldComplete i f => exact ⟨_, rfl, whenSo _ (h.gateEnd i f)⟩
  | contactAssertion k => exact ⟨_, rfl, h.takeDue_of_tanks (contactAsserted_tanks k) _ _⟩
  | contactRelease k => exact ⟨_, rfl, h.takeDue_of_tanks (contactReleased_tanks k) _ _⟩
  | drawTimedOut k => exact ⟨_, rfl, h.takeDue_of_tanks (endDraw_tanks k _) _ _⟩
  | drawStalled k => exact ⟨_, rfl, h.takeDue_of_tanks (endDraw_tanks k _) _ _⟩
  | drawAges k => exact ⟨_, rfl, h.takeDue_of_tanks (ageDraw_tanks k) _ _⟩
  | holdTimerExpiry => exact ⟨_, rfl, h.takeDue_of_tanks holdExpires_tanks _ _⟩
  | setProved x => exact ⟨_, rfl, h.takeDue_of_tanks (setProves_tanks x) _ _⟩
  | setStartProofFailed x => exact ⟨_, rfl, h.takeDue_of_tanks (startFails_tanks x) _ _⟩
  | setProofLost x => exact ⟨_, rfl, h.takeDue_of_tanks (proofLost_tanks x) _ _⟩
  | alternationExpiry => exact ⟨_, rfl, h.takeDue_of_tanks alternates_tanks _ _⟩
  | primeTimerExpiry n =>
    exact ⟨_, rfl, h.takeDue_of_tanks (fun u => (startCheck_tanks _).trans (modTrain_tanks u n _)) _ _⟩
  | rampTimerExpiry n =>
    exact ⟨_, rfl, h.takeDue_of_tanks (fun u => (startCheck_tanks _).trans (enterDiverting_tanks n u)) _ _⟩
  | divertMaxExpiry n => exact ⟨_, rfl, h.takeDue (haltTrain_books n _) _ _⟩
  | productStallExpiry n => exact ⟨_, rfl, h.takeDue (haltTrain_books n _) _ _⟩
  | minRunExpiry n => exact ⟨_, rfl, h.takeDue stopCheck_books _ _⟩
  | flushRequest n => exact ⟨_, rfl, h.takeDue_of_tanks (askFlush_tanks n) _ _⟩
  | flushWaitExpiry n => exact ⟨_, rfl, h.takeDue_of_tanks (faultTrain_tanks n _) _ _⟩
  | restTimerExpiry n =>
    exact ⟨_, rfl, h.takeDue_of_tanks (fun u => (startCheck_tanks _).trans (modTrain_tanks u n _)) _ _⟩
  | reviewTimerExpiry => exact ⟨_, rfl, h.takeDue balanceReviewed_books _ _⟩
  | transferStalled => exact ⟨_, rfl, h.takeDue (endTransfer_books _) _ _⟩
  | _ => exact request _ rfl

/-- Settles O21: every command's effect keeps the two laws (R11), and neither the queue nor the pins touch a tank. -/
theorem tankLawsAreKept : Obligations.TankLawsAreKept := fun _ _ h hstep =>
  step_keeps (fun _ _ hs => hs.of_tanks rfl) (fun s hs => hs.of_tanks (finish_tanks s)) exec_keepsTankLaws h hstep

end Sys2Proof.Machine
end

section
/-!
The strapping table (R52) and the two figures a tank is counted with (R55). A head is looked up by walking the segments of the
table from its first point; the points lie at rising heads, so the walk passes every segment that ends at or below the head.
-/

namespace Sys2Proof.Machine

/-! ### The walk along a strapping table -/

/-- The points of a strapping table lie at strictly rising heads (R50). -/
def HeadsRise (points : List StrapPoint) : Prop := points.Pairwise fun p q => p.head < q.head

theorem HeadsRise.tail {p : StrapPoint} {ps : List StrapPoint} (rise : HeadsRise (p :: ps)) : HeadsRise ps :=
  List.Pairwise.of_cons rise

theorem HeadsRise.first_le {p q : StrapPoint} {ps : List StrapPoint} (rise : HeadsRise (p :: ps)) (hq : q ∈ p :: ps) :
    p.head ≤ q.head := by
  obtain rfl | later := List.mem_cons.1 hq
  · exact le_rfl
  · exact (List.rel_of_pairwise_cons rise later).le

theorem strapFrom_inside {h : Nat} {p q : StrapPoint} (qs : List StrapPoint) (below : h < q.head) :
    strapFrom h p (q :: qs) = p.volume + (h - p.head) * (q.volume - p.volume) / (q.head - p.head) := if_pos below

theorem strapFrom_past {h : Nat} {p q : StrapPoint} (qs : List StrapPoint) (reached : q.head ≤ h) :
    strapFrom h p (q :: qs) = strapFrom h q qs := if_neg reached.not_gt

theorem strapFrom_atLast {h : Nat} {r : StrapPoint} (reached : r.head ≤ h) :
    ∀ (p : StrapPoint) (ps : List StrapPoint), HeadsRise (p :: ps) → (p :: ps).getLast? = some r →
      strapFrom h p ps = r.volume
  | p, [], _, last => by
    obtain rfl : p = r := by simpa using last
    rfl
  | p, q :: qs, rise, last => by
    have last' : (q :: qs).getLast? = some r := by rwa [List.getLast?_cons_cons] at last
    have passed : q.head ≤ h := (rise.tail.first_le (List.mem_of_getLast? last')).trans reached
    rw [strapFrom_past qs passed]
    exact strapFrom_atLast reached q qs rise.tail last'

theorem strapFrom_segment {h : Nat} {a b : StrapPoint} (reached : a.head ≤ h) (below : h < b.head) :
    ∀ (i : Nat) (p : StrapPoint) (ps : List StrapPoint), HeadsRise (p :: ps) →
      (p :: ps)[i]? = some a → (p :: ps)[i + 1]? = some b →
      strapFrom h p ps = a.volume + (h - a.head) * (b.volume - a.volume) / (b.head - a.head)
  | _, _, [], _, _, atB => by simp at atB
  | 0, p, q :: qs, _, atA, atB => by
    obtain rfl : p = a := by simpa using atA
    obtain rfl : q = b := by simpa using atB
    exact strapFrom_inside qs below
  | i + 1, p, q :: qs, rise, atA, atB => by
    have atA' : (q :: qs)[i]? = some a := by rwa [List.getElem?_cons_succ] at atA
    have atB' : (q :: qs)[i + 1]? = some b := by rwa [List.getElem?_cons_succ] at atB
    have passed : q.head ≤ h := (rise.tail.first_le (List.mem_of_getElem? atA')).trans reached
    rw [strapFrom_past qs passed]
    exact strapFrom_segment reached below i q qs rise.tail atA' atB'

/-! ### The volume at a head (R52) -/

theorem strapVolume_below (cap : Nat) {h : Nat} {p : StrapPoint} (ps : List StrapPoint) (below : h < p.head) :
    strapVolume cap (p :: ps) h = some (min p.volume cap) := by
  simp only [strapVolume, if_pos below, min_comm]

theorem strapVolume_from (cap : Nat) {h : Nat} {p : StrapPoint} (ps : List StrapPoint) (reached : p.head ≤ h) :
    strapVolume cap (p :: ps) h = some (min (strapFrom h p ps) cap) := by
  simp only [strapVolume, if_neg reached.not_gt, min_comm]

theorem strapVolume_belowFirst (cap : Nat) {points : List StrapPoint} {h : Nat} {p : StrapPoint}
    (first : points.head? = some p) (below : h < p.head) : strapVolume cap points h = some (min p.volume cap) := by
  obtain ⟨ps, rfl⟩ := List.head?_eq_some_iff.1 first
  exact strapVolume_below cap ps below

theorem strapVolume_atLast (cap : Nat) {points : List StrapPoint} {h : Nat} {r : StrapPoint} (rise : HeadsRise points)
    (last : points.getLast? = some r) (reached : r.head ≤ h) : strapVolume cap points h = some (min r.volume cap) := by
  cases points with
  | nil => cases last
  | cons p ps =>
    have passed : p.head ≤ h := (rise.first_le (List.mem_of_getLast? last)).trans reached
    rw [strapVolume_from cap ps passed, strapFrom_atLast reached p ps rise last]

theorem strapVolume_segment (cap : Nat) {points : List StrapPoint} {h i : Nat} {a b : StrapPoint} (rise : HeadsRise points)
    (atA : points[i]? = some a) (atB : points[i + 1]? = some b) (reached : a.head ≤ h) (below : h < b.head) :
    strapVolume cap points h =
      some (min (a.volume + (h - a.head) * (b.volume - a.volume) / (b.head - a.head)) cap) := by
  cases points with
  | nil => cases atA
  | cons p ps =>
    have passed : p.head ≤ h := (rise.first_le (List.mem_of_getElem? atA)).trans reached
    rw [strapVolume_from cap ps passed, strapFrom_segment reached below i p ps rise atA atB]

/-! ### The trusted volume and the fill measure (R55) -/

theorem Tank.trusted_disagree {k : Tank} {lv : Nat} (level : k.levelVolume = some lv) (dis : k.agreement = .disagree) :
    k.trusted = min k.volume lv := by
  simp only [Tank.trusted, dis, level]

theorem Tank.trusted_of_not_disagree {k : Tank} (agrees : k.agreement ≠ .disagree) : k.trusted = k.volume := by
  unfold Tank.trusted
  split
  next dis _ => exact absurd dis agrees
  next => rfl

theorem Tank.trusted_unlevelled {k : Tank} (level : k.levelVolume = none) : k.trusted = k.volume := by
  unfold Tank.trusted
  split
  next present => rw [level] at present; cases present
  next => rfl

theorem Tank.fillMeasure_levelled {k : Tank} {lv : Nat} (level : k.levelVolume = some lv) :
    k.fillMeasure = max k.volume lv := by
  simp only [Tank.fillMeasure, level]

theorem Tank.fillMeasure_unlevelled {k : Tank} (level : k.levelVolume = none) : k.fillMeasure = k.volume := by
  simp only [Tank.fillMeasure, level]

/-- Settles O19: the three places of a head in a strapping table (R52), and the two figures of R55 with and without a level
volume. -/
theorem strappingAndTrustedVolume : Obligations.StrappingAndTrustedVolume := by
  refine ⟨⟨fun _ _ => rfl, fun cap _ _ rise => ⟨?_, ?_, ?_⟩⟩, fun _ => ⟨fun _ level => ⟨?_, ?_, ?_⟩, fun level => ⟨?_, ?_⟩⟩⟩
  · exact fun _ => strapVolume_belowFirst cap
  · exact fun _ => strapVolume_atLast cap rise
  · exact fun _ _ _ => strapVolume_segment cap rise
  · exact Tank.trusted_disagree level
  · exact Tank.trusted_of_not_disagree
  · exact Tank.fillMeasure_levelled level
  · exact Tank.trusted_unlevelled level
  · exact Tank.fillMeasure_unlevelled level

end Sys2Proof.Machine
end

section
/-!
The end of a draw (R106, R107). Each of its parts is stated once as the rules give it: the line's state at rest and at an end,
steps 1 to 5, the two notices, and the whole end by the origin of the draw.
-/

namespace Sys2Proof.Machine

theorem restState_eq (l : DrawLine) :
    restState l = if l.defn.source = .contact ∧ l.asserted = true then .releaseWait else .idle := by
  simp only [restState, Bool.and_eq_true, beq_iff_eq]

/-- Only an end by a timer leaves the line in FAULT; after every other it is at rest (R106, step 5). -/
theorem endState_eq (cause : EndCause) (l : DrawLine) :
    endState cause l = if cause = .timedOut ∨ cause = .stalled then .fault else restState l := by
  cases cause with
  | timedOut | stalled => rfl
  | complete | ended | cancelled | supplyLost => rfl

theorem closeLine_eq (k : Fin 16) (cause : EndCause) (s : State) :
    closeLine k cause s = (s.modLine k fun l => { l with
        draw := none
        state := if cause = .timedOut ∨ cause = .stalled then .fault
          else if l.defn.source = .contact ∧ l.asserted = true then .releaseWait else .idle }).modArb fun a =>
      { a with inService := a.inService.filter (· != k) } := by
  simp only [closeLine, endState_eq, restState_eq]

/-- COMPLETE is silent but for a message's draw; every other cause posts DRAW_ENDED (R107). -/
theorem endPosts_eq_false_iff (cause : EndCause) (origin : Source) :
    endPosts cause origin = false ↔ cause = .complete ∧ origin ≠ .message := by
  simp only [endPosts, Bool.or_eq_false_iff, bne_eq_false_iff_eq, beq_eq_false_iff_ne]

theorem drawEnded_posted_eq (k : Fin 16) (cause : EndCause) (d : Draw) (u : State) :
    (if endPosts cause d.origin then post (.drawEnded k cause d.delivered) u else u) =
      if cause = .complete ∧ d.origin ≠ .message then u else post (.drawEnded k cause d.delivered) u := by
  simp only [← endPosts_eq_false_iff]
  cases endPosts cause d.origin with
  | true => rfl
  | false => rfl

/-- DRAW_ENDED first, then LINE_FAULT with the cause of the timer (R107). -/
theorem endNotices_eq (k : Fin 16) (cause : EndCause) (d : Draw) (u v : State)
    (ended : v = if cause = .complete ∧ d.origin ≠ .message then u else post (.drawEnded k cause d.delivered) u) :
    endNotices k cause d u =
      if cause = .timedOut then post (.lineFault k .timedOut d.delivered) v
      else if cause = .stalled then post (.lineFault k .stalled d.delivered) v else v := by
  rw [ended, ← drawEnded_posted_eq]
  cases cause with
  | timedOut | stalled => rfl
  | complete | ended | cancelled | supplyLost => rfl

theorem endDraw_of_not_flush {k : Fin 16} {cause : EndCause} {d : Draw} {s : State} (drawn : s.lines[k].draw = some d)
    (notFlush : ∀ n, d.origin ≠ .flush n) :
    endDraw k cause s = grantPass (endNotices k cause d (closeLine k cause s)) := by
  cases origin : d.origin with
  | contact | message => simp only [endDraw, drawn, origin]
  | flush n => exact absurd origin (notFlush n)

/-- A free choice settles whether the train or the pass goes first (R106; log 10). -/
theorem endDraw_of_flush {k : Fin 16} {cause : EndCause} {d : Draw} {s w : State} {n : Fin 3}
    (drawn : s.lines[k].draw = some d) (origin : d.origin = .flush n)
    (closed : endNotices k cause d (closeLine k cause s) = w) :
    endDraw k cause s = grantPass (flushEnded cause d.delivered n { w with choices := w.choices + 1 }) ∨
      endDraw k cause s = flushEnded cause d.delivered n (grantPass { w with choices := w.choices + 1 }) := by
  simp only [endDraw, drawn, origin, closed]
  split
  · exact .inl rfl
  · exact .inr rfl

/-- Settles O41: the closed line and its notices are the state the rules name, from which the origin gives the rest. -/
theorem endOfADraw : Obligations.EndOfADraw := by
  intro k cause d s u v w drawn hu hv hw
  have closed : endNotices k cause d (closeLine k cause s) = w := by
    rw [closeLine_eq, ← hu, hw]
    exact endNotices_eq k cause d u v hv
  refine ⟨fun notFlush => ?_, fun n origin => ?_⟩
  · rw [endDraw_of_not_flush drawn notFlush, closed]
  · exact endDraw_of_flush drawn origin closed

end Sys2Proof.Machine
end

section
/-!
FETCH NOTICES (R178): its two outcomes by the maximum of the body, and what the removal of the oldest notices leaves and reports.
-/

namespace Sys2Proof.Machine

theorem exec_fetchNotices_free {ln : LinkLine} {s : State} (free : LineFree ln s) (tag : Byte) (maximum : Nat) :
    exec (.fetchNotices ln tag (enc1 maximum)) s =
      .next (answeredBy ln 0x0C tag (runFetchNotices (enc1 maximum) (takeLine ln s))) :=
  query_answered ownFetchNotices ln tag (enc1 maximum) s free rfl rfl

theorem inRange_eq_true_iff {lo hi x : Nat} : inRange lo hi x = true ↔ lo ≤ x ∧ x ≤ hi := by simp [inRange]

theorem runFetchNotices_inRange {maximum : Nat} (s : State) (low : 1 ≤ maximum) (high : maximum ≤ 8) :
    runFetchNotices (enc1 maximum) s = fetch maximum s := by
  have byte : u8At (enc1 maximum) 0 = maximum := by rw [u8At_enc1_last]; omega
  rw [runFetchNotices, byte, if_pos (inRange_eq_true_iff.mpr ⟨low, high⟩)]

theorem runFetchNotices_outOfRange {maximum : Nat} (s : State) (small : maximum < 256) (out : maximum = 0 ∨ 8 < maximum) :
    runFetchNotices (enc1 maximum) s = refuse .badValue s := by
  have byte : u8At (enc1 maximum) 0 = maximum := by rw [u8At_enc1_last]; omega
  have notIn : ¬ inRange 1 8 maximum = true := by rw [inRange_eq_true_iff]; omega
  rw [runFetchNotices, byte, if_neg notIn]

/-- With a maximum of at least 1, nothing is removed only when the queue was empty. -/
theorem isEmpty_take_iff {α : Type} {maximum : Nat} (low : 1 ≤ maximum) (queue : List α) :
    (queue.take maximum).isEmpty = true ↔ queue = [] := by
  rw [List.isEmpty_iff, List.take_eq_nil_iff, or_iff_right (by omega)]

theorem fetch_eq {maximum : Nat} (s : State) (low : 1 ≤ maximum) :
    fetch maximum s =
      (s.modLink fun l => { l with queue := s.link.queue.drop maximum, overflow := false },
        ⟨if s.link.queue = [] then .none else .ok,
          encFlag s.link.overflow ++ enc1 (min maximum s.link.queue.length) ++ enc1 (s.link.queue.length - maximum) ++
            (s.link.queue.take maximum).flatMap Notice.bytes⟩) := by
  simp only [fetch, isEmpty_take_iff low, List.length_take, List.length_drop]

/-- Settles O8: the request is a query, so a free line always brings its owner's answer; the maximum settles which. -/
theorem fetchNoticesRemovesTheOldest : Obligations.FetchNoticesRemovesTheOldest := by
  intro ln tag s maximum free small
  rw [exec_fetchNotices_free free]
  refine ⟨fun out => ?_, fun low high => ?_⟩
  · rw [runFetchNotices_outOfRange _ small out, refuse]
  · rw [runFetchNotices_inRange _ low high, fetch_eq _ low, takeLine_queue, takeLine_overflow]

end Sys2Proof.Machine
end


section
/-!
What a command can do, said once: `Act s u` lists the effects of the accepted requests and of the events, each with what the checks
in front of it have found. Every command's effect is one of them, up to the line that asked and the list of events due, so a law that
every `Act` keeps is a law that every step keeps.
-/

namespace Sys2Proof.Machine

/-- The effect of an accepted request or of an event on a state, with what is known of the state when it happens. -/
inductive Act (s : State) : State → Prop where
  | unchanged : Act s s
  | noticesFetched (maximum : Nat) :
    Act s (s.modLink fun l => { l with queue := s.link.queue.drop maximum, overflow := false })
  | snapshotSet (image : Option Snapshot) : Act s (s.modLink fun l => { l with snapshot := image })
  | tankRemoved (t : Fin 12) (free : s.tanks[t].holdsRole = false) : Act s (removeTankDef t s)
  | tankDefined (t : Fin 12) (d : TankDef) (free : s.tanks[t].holdsRole = false) : Act s (applyTankDef t d s)
  | strappingLoaded (t : Fin 12) (points : List StrapPoint) : Act s (loadStrapping t points s)
  | meterRemoved (m : Fin 24) (idle : roleBusy s.meters[m].defn.role s = false) : Act s (applyMeterDef m none s)
  | meterDefined (m : Fin 24) (d : MeterDef) (counts : 0 < d.kFactor)
      (idle : roleBusy s.meters[m].defn.role s = false) (ready : roleBusy d.role s = false) :
    Act s (applyMeterDef m (some d) s)
  | inputDefined (i : Fin 16) (d : Option InputRole) : Act s (applyInputDef i d s)
  | linesRemoved (ks : List (Fin 16)) (once : ks.Nodup) (free : linesFree s ks = true) : Act s (ks.foldl removeLine s)
  | linesDefined (ks : List (Fin 16)) (d : LineDef) (once : ks.Nodup) (flows : 0 < d.flow)
      (free : linesFree s ks = true) : Act s (ks.foldl (defineLine d) s)
  | groupDefined (g : Fin 6) (admitted patience : Nat) : Act s (applyGroupDef g admitted patience s)
  | supplyBandsSet (bands : List Nat) (hysteresis : Nat) : Act s (applySupplyBands bands hysteresis s)
  | productionBandsSet (bands : List Nat) (hysteresis : Nat) : Act s (applyProductionBands bands hysteresis s)
  | balanceSet (band limit period : Nat) :
    Act s (s.modEval fun e =>
      { e with settings := { e.settings with balanceBand := band, balanceLimit := limit, reviewPeriod := period } })
  | trainDefined (n : Fin 3) (d : TrainDef) (free : s.trains[n].free = true) :
    Act s (startCheck (s.modTrain n (Train.define d)))
  | setsDefined (body : List Byte) (keeps : zeroesActive s body = false) : Act s (applySets body s)
  | pumpDefined (pump : PumpDef) (stopped : s.transfer.run = none) :
    Act s { s with transfer := { s.transfer with pump := pump } }
  | triggerSet (trigger : Nat) : Act s (s.modLink fun l => { l with trigger := trigger })
  | saveStarted : Act s (s.modLink fun l => { l with writing := some (imageOf s) })
  | tankSeeded (t : Fin 12) (amount : Nat) (origin : SeedOrigin) : Act s (seedWith t amount origin s)
  | tankServed (t : Fin 12) (wanted : ServiceState) :
    Act s (changeTankState t .service (fun k => { k with state := wanted.toTankState }) s)
  | drawn (k : Fin 16) (litres : Option Nat) (idle : s.lines[k].state = .idle) : Act s (register k litres .message s)
  | pendingCancelled (k : Fin 16) (waits : s.lines[k].state = .pending) : Act s (cancelPending k s)
  | drawEnded (k : Fin 16) (cause : EndCause) (serves : s.lines[k].state = .flowing ∨ s.lines[k].state = .suspended) :
    Act s (endDraw k cause s)
  | openDrawEnded (k : Fin 16) (listed : k ∈ s.arb.inService) : Act s (endDraw k .ended s)
  | linesMasked (ks : List (Fin 16)) (setting : Bool) : Act s (applyMask ks setting s)
  | rotationSet (k : Fin 16) (defined : s.lines[k].defined = true) :
    Act s (refreshPending (s.modGroup (groupOf s k) fun g => { g with rotation := turnTo k g.rotation }))
  | modeSet (mode : ArbiterMode) : Act s (applyMode mode s)
  | dispatched (k : Fin 16) (listed : k ∈ s.arb.pendingList) (fitting : fits s k = true) : Act s (grant k s)
  | lineReset (k : Fin 16) (faulted : s.lines[k].state = .fault) :
    Act s (s.modLine k fun l => { l with state := restState l })
  | trainModeSet (n : Fin 3) (mode : TrainMode) : Act s (applyTrainMode n mode s)
  | trainStarted (n : Fin 3) (off : s.trains[n].state = .off) (alone : someTrainStarting s = false)
      (room : headroomGranted s s.trains[n].defn.ratedPower = true) : Act s (beginTrain n s)
  | trainStopped (n : Fin 3) (cause : StopCause) (runs : s.trains[n].state.running = true) : Act s (haltTrain n cause s)
  | trainFlushed (n : Fin 3) (off : s.trains[n].state = .off) : Act s (flushFromOff n s)
  | faultFlushed (n : Fin 3) (faulted : s.trains[n].state = .fault) : Act s (flushFromFault n s)
  | trainReset (n : Fin 3) (faulted : s.trains[n].state = .fault) : Act s (resetTrain n s)
  | watersChanged (w : Waters) : Act s (changeWaters w s)
  | floorSet (floor : Nat) : Act s (applyFloor floor s)
  | allowanceSet (allowance : Nat) : Act s (applyAllowance allowance s)
  | transferStarted (src dst : Fin 12) (litres : Nat) (stopped : s.transfer.run = none)
      (room : headroomGranted s s.transfer.pump.ratedPower = true) : Act s (beginTransfer .host src dst litres s)
  | transferEnded (cause : TransferCause) : Act s (endTransfer cause s)
  | shoreStarted (t : Fin 12) (litres : Nat) : Act s (beginShore t litres s)
  | shoreEnded : Act s (endShore .stopped s)
  | setServedIn (x : Fin 2) : Act s (serviceIn x s)
  | setServedOut (x : Fin 2) : Act s (serviceOut x s)
  | setReset (x : Fin 2) (failed : s.sets.sets[x].state = .failed) :
    Act s (settleSets .recovery (s.modSet x (stopSet .idle)))
  | poweredOn (storeGood : Bool) (phaseA phaseB : BitVec 24) (localIn : Bool) :
    Act s (powerOn storeGood phaseA phaseB localIn s)
  | ticked (contacts : BitVec 16) (proofs : BitVec 2) (localIn : Bool) : Act s (tick contacts proofs localIn s)
  | writeCompleted (checkHolds : Bool) : Act s (writeCompletes checkHolds s)
  | authorityChanged : Act s (changeAuthority s)
  | edgeTaken (m : Fin 24) (a b : Bool) : Act s (takeEdge m a b s)
  | gateEnded (i : Fin 16) (f : Nat) : Act s (gateEnd i f s)
  | contactAsserts (k : Fin 16) : Act s (contactAsserted k s)
  | contactReleases (k : Fin 16) : Act s (contactReleased k s)
  | drawAges (k : Fin 16) (waits : s.lines[k].state = .pending) : Act s (ageDraw k s)
  | holdExpired : Act s (holdExpires s)
  | setProved (x : Fin 2) (starts : s.sets.sets[x].state = .starting) : Act s (setProves x s)
  | setStartFailed (x : Fin 2) : Act s (startFails x s)
  | setProofLost (x : Fin 2) : Act s (proofLost x s)
  | alternated : Act s (alternates s)
  | trainPrimed (n : Fin 3) (primes : s.trains[n].state = .priming) : Act s (startCheck (enterRamping n s))
  | trainRamped (n : Fin 3) (ramps : s.trains[n].state = .ramping) : Act s (startCheck (enterDiverting n s))
  | stopsChecked : Act s (stopCheck s)
  | flushAsked (n : Fin 3) : Act s (askFlush n s)
  | flushWaitOver (n : Fin 3) (waits : s.trains[n].state = .flushWait) : Act s (faultTrain n .unflushed s)
  | trainRested (n : Fin 3) : Act s (restOver n s)
  | balanceIsReviewed : Act s (balanceReviewed s)

/-! ### Requests -/

/-- Every handling of a request kind is one of the effects. -/
def Owner.Acts (own : Owner) : Prop := ∀ body s, Act s (own.run body s).1

/-- A request passes every check of a table, or the first failing one refuses it (R175). -/
theorem checked_passes (table : List (Bool × Status)) (s : State) (go : State × Reply) :
    ((∀ row ∈ table, row.1 = true) ∧ checked table s go = go) ∨ ∃ st, checked table s go = refuse st s := by
  unfold checked; split
  · exact .inr ⟨_, rfl⟩
  · rename_i passed
    exact .inl ⟨fun row hrow => by simpa using List.find?_eq_none.mp passed row hrow, rfl⟩

theorem Act.checked {table : List (Bool × Status)} {s : State} {go : State × Reply}
    (accepted : (∀ row ∈ table, row.1 = true) → Act s go.1) : Act s (checked table s go).1 := by
  obtain ⟨passed, e⟩ | ⟨st, e⟩ := checked_passes table s go <;> rw [e]
  · exact accepted passed
  · exact .unchanged

theorem Act.ite {s u v : State} (b : Prop) [Decidable b] (hu : b → Act s u) (hv : ¬ b → Act s v) :
    Act s (if b then u else v) := by
  split
  · exact hu ‹_›
  · exact hv ‹_›

theorem queryOwners_act : ∀ own ∈ queryOwners, own.Acts := by
  have read (n : Nat) (record : State → Fin n → List Byte) (body : List Byte) (s : State) :
      Act s (readIndexed n record body s).1 := by rw [readIndexed_state]; exact .unchanged
  have fetched : ownFetchNotices.Acts := fun body s => by
    simp only [ownFetchNotices, runFetchNotices]; split
    · exact .noticesFetched _
    · exact .unchanged
  have taken : ownTakeSnapshot.Acts := fun _ s => by
    simp only [ownTakeSnapshot, runTakeSnapshot]; split
    · exact .unchanged
    · exact .snapshotSet _
  have paged : ownReadSnapshot.Acts := fun body s => by
    simp only [ownReadSnapshot, runReadSnapshot]; split
    · split
      · exact .unchanged
      · split
        · exact .unchanged
        · exact .snapshotSet _
    · exact .unchanged
  have released : ownReleaseSnapshot.Acts := fun _ s => by
    simp only [ownReleaseSnapshot, runReleaseSnapshot]; split
    · exact .snapshotSet _
    · exact .unchanged
  simp only [queryOwners, List.forall_mem_cons]
  exact ⟨fun _ _ => .unchanged, read 12 _, read 24 _, read 16 _, read 16 _, read 6 _, fun _ _ => .unchanged, read 3 _,
    fun _ _ => .unchanged, fun _ _ => .unchanged, fun _ _ => .unchanged, fetched, taken, paged, released,
    List.forall_mem_nil _⟩

theorem defineTank_acts : ownDefineTank.Acts := fun body s => by
  simp only [ownDefineTank, runDefineTank]; split
  · exact .unchanged
  · rename_i t _
    unfold defineTank; dsimp only; split
    · exact .checked fun h => .tankRemoved t (by simpa using h)
    · split
      · exact .unchanged
      · exact .checked fun h => .tankDefined t _ (by simpa using h)

theorem loadStrapping_acts : ownLoadStrapping.Acts := fun body s => by
  simp only [ownLoadStrapping, runLoadStrapping]; split
  · exact .unchanged
  · exact .checked fun _ => .strappingLoaded _ _

theorem defineMeter_acts : ownDefineMeter.Acts := fun body s => by
  simp only [ownDefineMeter, runDefineMeter]; split
  · exact .unchanged
  · rename_i m _
    unfold defineMeter; split
    · refine .checked fun h => .ite _ (fun _ => .meterRemoved m ?_) fun _ => .unchanged
      simpa using h
    · split
      · exact .unchanged
      · split
        · exact .unchanged
        · exact .unchanged
        · refine .checked fun h => ?_
          simp only [meterChecks, List.forall_mem_cons, Bool.not_eq_true'] at h
          obtain ⟨_, idle, ready, _⟩ := h
          exact .meterDefined m _ (Nat.pos_of_ne_zero ‹_›) idle ready

theorem defineInput_acts : ownDefineFrequencyInput.Acts := fun body s => by
  simp only [ownDefineFrequencyInput, runDefineFrequencyInput]; split
  · exact .unchanged
  · unfold defineInput; split
    · exact .unchanged
    · exact .checked fun _ => .ite _ (fun _ => .unchanged) fun _ => .inputDefined _ _

theorem lineSet_nodup (body : List Byte) : (lineSet body).Nodup := (List.nodup_finRange 16).filter _

theorem lineDefOf_flow {body : List Byte} {o : Nat} {d : LineDef} (h : lineDefOf body o = .ok d) :
    d.flow = u8At body (o + 1) := by
  unfold lineDefOf at h; split at h
  · cases h
  · cases h
  · split at h
    · cases h; rfl
    · cases h

theorem defineLines_acts : ownDefineLines.Acts := fun body s => by
  simp only [ownDefineLines, runDefineLines]; split
  · exact .unchanged
  · split
    · exact .unchanged
    · split
      · exact .checked fun h => .linesRemoved _ (lineSet_nodup body) (by simpa using h)
      · split
        · exact .unchanged
        · unfold defineLineSet; split
          · exact .unchanged
          · rename_i flows _ _ d hd
            refine .checked fun h => .linesDefined _ d (lineSet_nodup body) ?_ ?_
            · rw [lineDefOf_flow hd]; exact Nat.pos_of_ne_zero flows
            · exact h (linesFree s (lineSet body), .busy) (by simp)

theorem defineGroup_acts : ownDefineGroup.Acts := fun body s => by
  simp only [ownDefineGroup, runDefineGroup]; split
  · exact .unchanged
  · exact .checked fun _ => .groupDefined _ _ _

theorem defineTrain_acts : ownDefineTrain.Acts := fun body s => by
  simp only [ownDefineTrain, runDefineTrain]; split
  · exact .unchanged
  · unfold defineTrain; split
    · exact .unchanged
    · split
      · exact .unchanged
      · exact .checked fun h => .trainDefined _ _ (by simpa using h)

theorem defineSets_acts : ownDefineSets.Acts := fun body s =>
  Act.checked fun h => .setsDefined body (by simpa using h (!zeroesActive s body, .busy) (by simp [setsChecks]))

theorem defineTransferPump_acts : ownDefineTransferPump.Acts := fun body s =>
  Act.checked fun h => .pumpDefined _ (by simpa using h (s.transfer.run.isNone, .busy) (by simp))

theorem configurationOwners_act : ∀ own ∈ configurationOwners, own.Acts := by
  simp only [configurationOwners, List.forall_mem_cons]
  exact ⟨defineTank_acts, loadStrapping_acts, defineMeter_acts, defineInput_acts, defineLines_acts, defineGroup_acts,
    fun _ _ => Act.checked fun _ => .supplyBandsSet _ _, fun _ _ => Act.checked fun _ => .productionBandsSet _ _,
    fun _ _ => Act.checked fun _ => .balanceSet _ _ _, defineTrain_acts, defineSets_acts, defineTransferPump_acts,
    fun _ _ => Act.checked fun _ => .triggerSet _, fun _ _ => .saveStarted, List.forall_mem_nil _⟩

theorem seedTank_acts : ownSeedTank.Acts := fun body s => by
  simp only [ownSeedTank, runSeedTank]; split
  · exact .unchanged
  · exact .checked fun _ => .tankSeeded _ _ _

theorem reseedTank_acts : ownReseedTank.Acts := fun body s => by
  simp only [ownReseedTank, runReseedTank]; split
  · exact .unchanged
  · unfold reseedTank; split
    · exact .unchanged
    · split
      · exact .unchanged
      · exact .tankSeeded _ _ _

theorem tankService_acts : ownTankService.Acts := fun body s => by
  simp only [ownTankService, runTankService]; split
  · exact .unchanged
  · exact .unchanged
  · unfold tankService; split
    · exact .unchanged
    · exact .ite _ (fun _ => .tankServed _ _) fun _ => .unchanged

theorem draw_acts : ownDraw.Acts := fun body s => by
  simp only [ownDraw, runDraw]; split
  · exact .unchanged
  · rename_i k _
    exact .checked fun h => .drawn k _ (by simpa using h (s.lines[k].state == .idle, .wrongState) (by simp))

theorem cancelDraw_acts : ownCancelDraw.Acts := fun body s => by
  simp only [ownCancelDraw, runCancelDraw]; split
  · exact .unchanged
  · rename_i k _
    cases state : s.lines[k].state with simp only [cancelDraw, state]
    | pending => exact .pendingCancelled k state
    | flowing => exact .drawEnded k _ (.inl state)
    | suspended => exact .drawEnded k _ (.inr state)
    | _ => exact .unchanged

theorem endDraw_acts : ownEndDraw.Acts := fun body s => by
  simp only [ownEndDraw, runEndDraw]; split
  · unfold endNonSpecific; split
    · rename_i k found
      have ranked := List.mem_of_find?_eq_some found
      simp only [rankOrder, List.mem_flatMap, List.mem_filter] at ranked
      obtain ⟨_, _, listed, _⟩ := ranked
      exact .openDrawEnded k listed
    · exact .unchanged
  · split
    · exact .unchanged
    · rename_i k _
      cases state : s.lines[k].state with simp only [endSpecific, state]
      | flowing => exact .drawEnded k _ (.inl state)
      | suspended => exact .drawEnded k _ (.inr state)
      | _ => exact .unchanged

theorem maskLines_acts : ownMaskLines.Acts := fun body s => by
  simp only [ownMaskLines, runMaskLines]; split
  · exact .unchanged
  · exact .checked fun _ => .linesMasked _ _

theorem setRotation_acts : ownSetRotation.Acts := fun body s => by
  simp only [ownSetRotation, runSetRotation]; split
  · exact .unchanged
  · exact .checked fun h => .rotationSet _ (by simpa using h)

theorem arbiterMode_acts : ownArbiterMode.Acts := fun body s => by
  simp only [ownArbiterMode, runArbiterMode]; split
  · exact .unchanged
  · exact .modeSet _

theorem dispatch_acts : ownDispatch.Acts := fun body s => by
  simp only [ownDispatch, runDispatch]; split
  · unfold dispatchOne; split
    · exact .unchanged
    · rename_i found
      split
      · exact .dispatched _ (List.mem_of_find?_eq_some found) ‹_›
      · exact .unchanged
  · exact .unchanged

theorem resetLine_acts : ownResetLine.Acts := fun body s => by
  simp only [ownResetLine, runResetLine]; split
  · exact .unchanged
  · exact .checked fun h => .lineReset _ (by simpa using h)

theorem trainMode_acts : ownTrainMode.Acts := fun body s => by
  simp only [ownTrainMode, runTrainMode]; split
  · exact .unchanged
  · exact .unchanged
  · exact .trainModeSet _ _

theorem startTrain_acts : ownStartTrain.Acts := fun body s => by
  simp only [ownStartTrain, runStartTrain]; split
  · exact .unchanged
  · refine .checked fun h => ?_
    simp only [startChecks, List.forall_mem_cons, Bool.and_eq_true, beq_iff_eq, Bool.not_eq_true'] at h
    obtain ⟨_, ⟨⟨⟨_, off⟩, _⟩, alone⟩, _, room, _⟩ := h
    exact .trainStarted _ off alone room

theorem stopTrain_acts : ownStopTrain.Acts := fun body s => by
  simp only [ownStopTrain, runStopTrain]; split
  · exact .unchanged
  · exact .checked fun h => .trainStopped _ _ (by simpa using h)

theorem flushTrain_acts : ownFlushTrain.Acts := fun body s => by
  simp only [ownFlushTrain, runFlushTrain]; split
  · exact .unchanged
  · unfold flushTrain; dsimp only; split
    · exact .unchanged
    · split
      · exact .trainFlushed _ ‹_›
      · split
        · exact .faultFlushed _ (And.left ‹_›)
        · exact .unchanged

theorem resetTrain_acts : ownResetTrain.Acts := fun body s => by
  simp only [ownResetTrain, runResetTrain]; split
  · exact .unchanged
  · refine .checked fun h => .trainReset _ ?_
    simp only [List.forall_mem_cons, Bool.and_eq_true, beq_iff_eq] at h
    exact h.1.1

theorem setWaters_acts : ownSetWaters.Acts := fun body s => by
  simp only [ownSetWaters, runSetWaters]; split
  · exact .unchanged
  · exact .ite _ (fun _ => .unchanged) fun _ => .watersChanged _

theorem startTransfer_acts : ownStartTransfer.Acts := fun body s => by
  simp only [ownStartTransfer, runStartTransfer]; split
  · refine .checked fun h => ?_
    simp only [transferChecks, List.forall_mem_cons, Option.isNone_iff_eq_none] at h
    obtain ⟨_, _, _, stopped, _, room, _⟩ := h
    exact .transferStarted _ _ _ stopped room
  · exact .unchanged

theorem startShoreFill_acts : ownStartShoreFill.Acts := fun body s => by
  simp only [ownStartShoreFill, runStartShoreFill]; split
  · exact .unchanged
  · exact .checked fun _ => .shoreStarted _ _

theorem pressureSetService_acts : ownPressureSetService.Acts := fun body s => by
  simp only [ownPressureSetService, runPressureSetService]; split
  · exact .unchanged
  · exact .unchanged
  · exact .ite _ (fun _ => .setServedIn _) fun _ => .setServedOut _

theorem resetPressureSet_acts : ownResetPressureSet.Acts := fun body s => by
  simp only [ownResetPressureSet, runResetPressureSet]; split
  · exact .unchanged
  · exact .checked fun h => .setReset _ (by simpa using h)

theorem operationOwners_act : ∀ own ∈ operationOwners, own.Acts := by
  simp only [operationOwners, List.cons_append, List.nil_append, List.forall_mem_cons]
  exact ⟨seedTank_acts, reseedTank_acts, tankService_acts, draw_acts, cancelDraw_acts, endDraw_acts, maskLines_acts,
    setRotation_acts, arbiterMode_acts, dispatch_acts, resetLine_acts, trainMode_acts, startTrain_acts, stopTrain_acts,
    flushTrain_acts, resetTrain_acts, setWaters_acts, fun _ _ => .floorSet _, fun _ _ => .allowanceSet _,
    startTransfer_acts, fun _ _ => Act.checked fun _ => .transferEnded _, startShoreFill_acts,
    fun _ _ => Act.checked fun _ => .shoreEnded, pressureSetService_acts, resetPressureSet_acts, List.forall_mem_nil _⟩

theorem requestOwners_act : ∀ own ∈ requestOwners, own.Acts := by
  simp only [requestOwners, List.forall_mem_append]
  exact ⟨⟨queryOwners_act, configurationOwners_act⟩, operationOwners_act⟩

/-! ### Every command

An act starts from a state between two commands, where more may be known (`P`) than the act keeps (`Q`) until the step ends. -/

/-- The handling of a request kind leads from one property of the state to another. -/
def Owner.Leads (own : Owner) (P Q : State → Prop) : Prop := ∀ body s, P s → Q (own.run body s).1

section
variable {P Q : State → Prop} (weaker : ∀ s, P s → Q s)
  (hserial : ∀ (ln : LinkLine) (f : SerialLine → SerialLine) (s : State), P s → P (s.modSerial ln f))
  (hserial' : ∀ (ln : LinkLine) (f : SerialLine → SerialLine) (s : State), Q s → Q (s.modSerial ln f))
include weaker hserial hserial'

theorem takeFrame_leads {kind tag : Byte} {ln : LinkLine} {handle : State → State × Reply}
    (hh : ∀ s, P s → Q (handle s).1) (s : State) (h : P s) : Q (takeFrame kind tag ln handle s) := by
  unfold takeFrame; split
  · exact weaker _ (hserial _ _ _ h)
  · exact hserial' _ _ _ (hh _ (hserial _ _ _ h))

theorem takeAny_leads {owners : List Owner} (ho : ∀ own ∈ owners, own.Leads P Q) (ln : LinkLine) (kind tag : Byte)
    (body : List Byte) (s : State) (h : P s) : Q (takeAny owners ln kind tag body s) := by
  unfold takeAny; split
  · rename_i own found
    refine takeFrame_leads weaker hserial hserial' (fun u hu => ?_) s h
    unfold handleRequest; split
    · exact weaker _ hu
    · exact ho own (List.mem_of_find?_eq_some found) body u hu
  · exact takeFrame_leads weaker hserial hserial' (fun u hu => weaker u hu) s h

theorem receiveByte_leads {owners : List Owner} (ho : ∀ own ∈ owners, own.Leads P Q) (ln : LinkLine) (b : Byte)
    (stopGood : Bool) (s : State) (h : P s) : Q (receiveByte owners ln b stopGood s) := by
  have written (f : SerialLine → SerialLine) : Q (s.modSerial ln f) := weaker _ (hserial _ _ _ h)
  have completed : ∀ kept, Q (takeKept owners ln kept s) := fun kept => by
    unfold takeKept; split
    · exact takeAny_leads weaker hserial hserial' ho _ _ _ _ s h
    · exact written _
  unfold receiveByte; split
  · unfold takeByte; split
    · split
      · exact written _
      · exact weaker _ h
    · split <;> exact written _
    · split <;> exact written _
    · split
      · exact completed _
      · exact written _
  · split
    · exact weaker _ h
    · exact written _

/-- Where every act leads, and what the lines and the list of events due do not concern, every command's effect leads. -/
theorem exec_leads (hdue : ∀ d s, P s → P (took d s)) (hact : ∀ s u, Act s u → P s → Q u) (c : Instr) (s : State) (h : P s) :
    ∃ u, exec c s = done u ∧ Q u := by
  have owners : ∀ own ∈ requestOwners, own.Leads P Q := fun own hown body u hu =>
    hact _ _ (requestOwners_act own hown body u) hu
  have request (r : RequestFrame) (hr : requestOf c = some r) : ∃ u, exec c s = done u ∧ Q u :=
    ⟨_, exec_request hr s, takeAny_leads weaker hserial hserial' owners r.line r.kind r.tag r.body s h⟩
  have whenSo (b : Bool) {u : State} (hu : Q u) : Q (if b then u else s) := by
    cases b
    · exact weaker _ h
    · exact hu
  have whenDue (d : Due) (still : State → Bool) (effect : State → State)
      (he : still s = true → Act (took d s) (effect (took d s))) : Q (takeDue d still effect s) := by
    by_cases hd : d ∈ s.due ∧ still s = true
    · rw [takeDue_taken effect hd.1 hd.2]; exact hact _ _ (he hd.2) (hdue d s h)
    · rw [takeDue_void effect (by by_cases hm : d ∈ s.due <;> simp_all)]; exact weaker _ h
  cases c with
  | powerOn good a b loc => exact ⟨_, rfl, hact _ _ (.poweredOn good a b loc) h⟩
  | secondTick contacts proofs loc => exact ⟨_, rfl, hact _ _ (.ticked contacts proofs loc) h⟩
  | frameDiscard ln => exact ⟨_, rfl, weaker _ (hserial ln _ s h)⟩
  | receiverGapTimeout ln =>
    refine ⟨_, rfl, ?_⟩
    split
    · exact weaker _ h
    · exact weaker _ (hserial ln _ s h)
  | frameWhileBusy ln => exact ⟨_, rfl, whenSo _ (weaker _ (hserial ln _ s h))⟩
  | replySent ln => exact ⟨_, rfl, weaker _ (hserial ln _ s h)⟩
  | byteReceived ln b good => exact ⟨_, rfl, receiveByte_leads weaker hserial hserial' owners ln b good s h⟩
  | storeWriteComplete good => exact ⟨_, rfl, hact _ _ (.writeCompleted good) h⟩
  | authorityChange => exact ⟨_, rfl, whenDue _ _ _ fun _ => .authorityChanged⟩
  | meterEdge m a b => exact ⟨_, rfl, hact _ _ (.edgeTaken m a b) h⟩
  | frequencyGateEnd i f => exact ⟨_, rfl, hact _ _ (.gateEnded i f) h⟩
  | inputFaultEntry i f => exact ⟨_, rfl, whenSo _ (hact _ _ (.gateEnded i f) h)⟩
  | inputFaultCleared i f => exact ⟨_, rfl, whenSo _ (hact _ _ (.gateEnded i f) h)⟩
  | qualificationHoldComplete i f => exact ⟨_, rfl, whenSo _ (hact _ _ (.gateEnded i f) h)⟩
  | contactAssertion k => exact ⟨_, rfl, whenDue _ _ _ fun _ => .contactAsserts k⟩
  | contactRelease k => exact ⟨_, rfl, whenDue _ _ _ fun _ => .contactReleases k⟩
  | drawTimedOut k =>
    refine ⟨_, rfl, whenDue _ _ _ fun hs => .drawEnded k _ (.inl ?_)⟩
    simp only [timedOutNow, isFlowing, Bool.and_eq_true, beq_iff_eq] at hs; exact hs.1
  | drawStalled k =>
    refine ⟨_, rfl, whenDue _ _ _ fun hs => .drawEnded k _ (.inl ?_)⟩
    simp only [stalledNow, isFlowing, Bool.and_eq_true, beq_iff_eq] at hs; exact hs.1
  | drawAges k =>
    refine ⟨_, rfl, whenDue _ _ _ fun hs => .drawAges k ?_⟩
    simp only [agesNow, Bool.and_eq_true, beq_iff_eq] at hs; exact hs.1
  | holdTimerExpiry => exact ⟨_, rfl, whenDue _ _ _ fun _ => .holdExpired⟩
  | setProved x =>
    refine ⟨_, rfl, whenDue _ _ _ fun hs => .setProved x ?_⟩
    simp only [Bool.and_eq_true, beq_iff_eq] at hs; exact hs.1
  | setStartProofFailed x => exact ⟨_, rfl, whenDue _ _ _ fun _ => .setStartFailed x⟩
  | setProofLost x => exact ⟨_, rfl, whenDue _ _ _ fun _ => .setProofLost x⟩
  | alternationExpiry => exact ⟨_, rfl, whenDue _ _ _ fun _ => .alternated⟩
  | primeTimerExpiry n =>
    refine ⟨_, rfl, whenDue _ _ _ fun hs => .trainPrimed n ?_⟩
    simp only [stageOver, Bool.and_eq_true, beq_iff_eq] at hs; exact hs.1
  | rampTimerExpiry n =>
    refine ⟨_, rfl, whenDue _ _ _ fun hs => .trainRamped n ?_⟩
    simp only [stageOver, Bool.and_eq_true, beq_iff_eq] at hs; exact hs.1
  | divertMaxExpiry n =>
    refine ⟨_, rfl, whenDue _ _ _ fun hs => .trainStopped n _ ?_⟩
    simp only [stageOver, Bool.and_eq_true, beq_iff_eq] at hs; rw [took_trains, hs.1]; rfl
  | productStallExpiry n =>
    refine ⟨_, rfl, whenDue _ _ _ fun hs => .trainStopped n _ ?_⟩
    simp only [Bool.and_eq_true, beq_iff_eq] at hs; rw [took_trains, hs.1]; rfl
  | minRunExpiry n => exact ⟨_, rfl, whenDue _ _ _ fun _ => .stopsChecked⟩
  | flushRequest n => exact ⟨_, rfl, whenDue _ _ _ fun _ => .flushAsked n⟩
  | flushWaitExpiry n =>
    refine ⟨_, rfl, whenDue _ _ _ fun hs => .flushWaitOver n ?_⟩
    simp only [Bool.and_eq_true, beq_iff_eq] at hs; exact hs.1
  | restTimerExpiry n => exact ⟨_, rfl, whenDue _ _ _ fun _ => .trainRested n⟩
  | reviewTimerExpiry => exact ⟨_, rfl, whenDue _ _ _ fun _ => .balanceIsReviewed⟩
  | transferStalled => exact ⟨_, rfl, whenDue _ _ _ fun _ => .transferEnded _⟩
  | _ => exact request _ rfl

end

/-- What every act keeps, and what the lines and the list of events due do not concern, every command's effect keeps. -/
theorem exec_keeps {P : State → Prop}
    (hserial : ∀ (ln : LinkLine) (f : SerialLine → SerialLine) (s : State), P s → P (s.modSerial ln f))
    (hdue : ∀ d s, P s → P (took d s)) (hact : ∀ s u, Act s u → P s → P u) (c : Instr) (s : State) (h : P s) :
    ∃ u, exec c s = done u ∧ P u :=
  exec_leads (fun _ h => h) hserial hserial hdue hact c s h

/-- A law that every act keeps, and that concerns neither the lines of the Link, the events due, the commands that wait nor the end
of a step, is a law that every step keeps. -/
theorem step_keeps_of_acts {P : State → Prop} (hqueue : ∀ s rest, P s → P { s with pending := rest })
    (hfinish : ∀ s, P s → P (finish s))
    (hserial : ∀ (ln : LinkLine) (f : SerialLine → SerialLine) (s : State), P s → P (s.modSerial ln f))
    (hdue : ∀ d s, P s → P (took d s)) (hact : ∀ s u, Act s u → P s → P u) {s t : State} (h : P s)
    (hstep : step s = .next t) : P t :=
  step_keeps hqueue hfinish (exec_keeps hserial hdue hact) h hstep

/-- A law of the states between two commands, which every act leaves in a form that the end of the step restores, is a law that
every step keeps. -/
theorem step_keeps_of_leads {P Q : State → Prop} (weaker : ∀ s, P s → Q s) (hqueue : ∀ s rest, P s → P { s with pending := rest })
    (hfinish : ∀ s, Q s → P (finish s))
    (hserial : ∀ (ln : LinkLine) (f : SerialLine → SerialLine) (s : State), P s → P (s.modSerial ln f))
    (hserial' : ∀ (ln : LinkLine) (f : SerialLine → SerialLine) (s : State), Q s → Q (s.modSerial ln f))
    (hdue : ∀ d s, P s → P (took d s)) (hact : ∀ s u, Act s u → P s → Q u) {s t : State} (h : P s)
    (hstep : step s = .next t) : P t := by
  unfold step at hstep; split at hstep
  · cases hstep; exact h
  · rename_i c rest _
    obtain ⟨u, hu, hQ⟩ := exec_leads weaker hserial hserial' hdue hact c _ (hqueue s rest h)
    rw [hu] at hstep; cases hstep; exact hfinish u hQ

end Sys2Proof.Machine
end


section
/-!
The frame of the Draw Arbiter. Whatever it grants, preempts, suspends or resumes, it writes draws and states of lines, rotation
orders, its own record, stray spells and the flush fields of trains (R92, R98, R99, R113, R116, R117). `SameBesideDraws` says that
two states differ only in what a grant pass may write, `SameBesideArbiter` that they differ only in what the Arbiter may write, a
hand-over of supply or level included.
-/

namespace Sys2Proof.Machine

/-! ### The state beside the draws -/

/-- A train's state, the three states that a flush draw moves between taken as one (R113). -/
def TrainState.offFlush : TrainState → TrainState
  | .flushWait | .flushing | .fault => .flushWait
  | .off => .off
  | .priming => .priming
  | .ramping => .ramping
  | .diverting => .diverting
  | .producing => .producing

/-- A train record without what a flush draw's grant and preemption write (R113). -/
def Train.offFlush (w : Train) : Train :=
  { w with state := w.state.offFlush, retry := false, flushPlaced := false, flushWait := .idle }

/-- A line record without its draw and its state (R82). -/
def DrawLine.undrawn (l : DrawLine) : DrawLine := { l with state := .idle, draw := none }

/-- A group record without its rotation order (R83). -/
def Group.unordered (g : Group) : Group := { g with rotation := [] }

/-- A channel record without its stray spell (R38). -/
def Meter.unspelled (m : Meter) : Meter := { m with strayNoticed := false }

/-- Two states that differ at most in what the Arbiter writes. -/
structure SameBesideArbiter (s u : State) : Prop where
  now : u.now = s.now
  tanks : u.tanks = s.tanks
  strayTotal : u.strayTotal = s.strayTotal
  inputs : u.inputs = s.inputs
  eval : u.eval = s.eval
  sets : u.sets = s.sets
  waters : u.waters = s.waters
  startOrder : u.startOrder = s.startOrder
  transfer : u.transfer = s.transfer
  shore : u.shore = s.shore
  power : u.power = s.power
  link : u.link = s.link
  out : u.out = s.out
  due : u.due = s.due
  choices : u.choices = s.choices
  pending : u.pending = s.pending
  lines : ∀ k : Fin 16, u.lines[k].undrawn = s.lines[k].undrawn
  groups : ∀ g : Fin 6, u.groups[g].unordered = s.groups[g].unordered
  meters : ∀ m : Fin 24, u.meters[m].unspelled = s.meters[m].unspelled
  trains : ∀ n : Fin 3, u.trains[n].offFlush = s.trains[n].offFlush
  mode : u.arb.mode = s.arb.mode
  supplyLossHold : u.arb.supplyLossHold = s.arb.supplyLossHold

/-- Two states that differ at most in what a grant pass writes. -/
structure SameBesideDraws (s u : State) : Prop extends SameBesideArbiter s u where
  levelHeld : u.arb.levelHeld = s.arb.levelHeld
  supplyHeld : u.arb.supplyHeld = s.arb.supplyHeld
  capacityHeld : u.arb.capacityHeld = s.arb.capacityHeld
  hold : u.arb.hold = s.arb.hold

theorem SameBesideArbiter.refl (s : State) : SameBesideArbiter s s :=
  ⟨rfl, rfl, rfl, rfl, rfl, rfl, rfl, rfl, rfl, rfl, rfl, rfl, rfl, rfl, rfl, rfl, fun _ => rfl, fun _ => rfl, fun _ => rfl,
    fun _ => rfl, rfl, rfl⟩

theorem SameBesideDraws.refl (s : State) : SameBesideDraws s s := ⟨.refl s, rfl, rfl, rfl, rfl⟩

theorem SameBesideArbiter.trans {s u v : State} (h : SameBesideArbiter s u) (g : SameBesideArbiter u v) :
    SameBesideArbiter s v where
  now := g.now.trans h.now
  tanks := g.tanks.trans h.tanks
  strayTotal := g.strayTotal.trans h.strayTotal
  inputs := g.inputs.trans h.inputs
  eval := g.eval.trans h.eval
  sets := g.sets.trans h.sets
  waters := g.waters.trans h.waters
  startOrder := g.startOrder.trans h.startOrder
  transfer := g.transfer.trans h.transfer
  shore := g.shore.trans h.shore
  power := g.power.trans h.power
  link := g.link.trans h.link
  out := g.out.trans h.out
  due := g.due.trans h.due
  choices := g.choices.trans h.choices
  pending := g.pending.trans h.pending
  mode := g.mode.trans h.mode
  supplyLossHold := g.supplyLossHold.trans h.supplyLossHold
  lines i := (g.lines i).trans (h.lines i)
  groups i := (g.groups i).trans (h.groups i)
  meters i := (g.meters i).trans (h.meters i)
  trains i := (g.trains i).trans (h.trains i)

theorem SameBesideDraws.trans {s u v : State} (h : SameBesideDraws s u) (g : SameBesideDraws u v) : SameBesideDraws s v where
  toSameBesideArbiter := h.toSameBesideArbiter.trans g.toSameBesideArbiter
  levelHeld := g.levelHeld.trans h.levelHeld
  supplyHeld := g.supplyHeld.trans h.supplyHeld
  capacityHeld := g.capacityHeld.trans h.capacityHeld
  hold := g.hold.trans h.hold

/-! ### Updates of records -/

/-- What an update of one element keeps of every element. -/
theorem upd_view {α β : Type} {n : Nat} (v : Vector α n) (i : Fin n) {f : α → α} {view : α → β}
    (h : ∀ a, view (f a) = view a) (j : Fin n) : view (upd v i f)[j] = view v[j] := by
  rw [upd_get]; split
  · subst_vars; exact h _
  · rfl

theorem modLine_besideDraws (s : State) (k : Fin 16) (st : DrawLine → LineState) (draw : DrawLine → Option Draw) :
    SameBesideDraws s (s.modLine k fun l => { l with state := st l, draw := draw l }) :=
  ⟨{ SameBesideArbiter.refl s with lines := upd_view s.lines k fun _ => rfl }, rfl, rfl, rfl, rfl⟩

theorem modGroup_besideDraws (s : State) (g : Fin 6) (order : Group → List (Fin 16)) :
    SameBesideDraws s (s.modGroup g fun r => { r with rotation := order r }) :=
  ⟨{ SameBesideArbiter.refl s with groups := upd_view s.groups g fun _ => rfl }, rfl, rfl, rfl, rfl⟩

theorem modTrain_besideDraws (s : State) (n : Fin 3) {f : Train → Train} (h : ∀ w, (f w).offFlush = w.offFlush) :
    SameBesideDraws s (s.modTrain n f) :=
  ⟨{ SameBesideArbiter.refl s with trains := upd_view s.trains n h }, rfl, rfl, rfl, rfl⟩

theorem modArb_besideDraws (s : State) (waiting serving : Arbiter → List (Fin 16)) (counter : Arbiter → Word32)
    (stopped : Arbiter → Option (Fin 16)) (now : Arbiter → List (Fin 16 × Word32)) :
    SameBesideDraws s (s.modArb fun a =>
      { a with pendingList := waiting a, inService := serving a, grantCounter := counter a, stoppedAt := stopped a,
               preemptedNow := now a }) :=
  ⟨{ SameBesideArbiter.refl s with }, rfl, rfl, rfl, rfl⟩

theorem modArb_besideArbiter (s : State) (supply : Arbiter → SupplyState) (capacity level : Arbiter → Nat)
    (hold : Arbiter → Option Timer) :
    SameBesideArbiter s (s.modArb fun a =>
      { a with supplyHeld := supply a, capacityHeld := capacity a, levelHeld := level a, hold := hold a }) :=
  { SameBesideArbiter.refl s with }

/-- The channels of a role that becomes active end their stray spell; no other channel changes (R38). -/
theorem activateRole_meter (r : MeterRole) (s : State) (m : Fin 24) :
    (activateRole r s).meters[m] = if s.meters[m].defined && s.meters[m].defn.role == r
      then { s.meters[m] with strayNoticed := false } else s.meters[m] := updAll_get s.meters m _

theorem activateRole_besideDraws (r : MeterRole) (s : State) : SameBesideDraws s (activateRole r s) := by
  have spells (m : Fin 24) : (activateRole r s).meters[m].unspelled = s.meters[m].unspelled := by
    rw [activateRole_meter, apply_ite Meter.unspelled]; exact ite_self _
  constructor
  · constructor
    case meters => exact spells
    all_goals simp only [activateRole, implies_true]
  all_goals simp only [activateRole]

theorem refreshPending_besideDraws (s : State) : SameBesideDraws s (refreshPending s) :=
  modArb_besideDraws s _ _ _ _ _

theorem passEnds_besideDraws (at? : Option (Fin 16)) (s : State) : SameBesideDraws s (passEnds at? s) :=
  modArb_besideDraws s _ _ _ _ _

theorem trainGranted_besideDraws (n : Fin 3) (s : State) : SameBesideDraws s (trainGranted n s) :=
  modTrain_besideDraws s n fun w => by
    cases state : w.state with
    | fault => by_cases placed : w.flushPlaced = true <;> simp [Train.offFlush, TrainState.offFlush, state, placed]
    | _ => simp [Train.offFlush, TrainState.offFlush, state]

theorem trainPreempted_besideDraws (n : Fin 3) (s : State) : SameBesideDraws s (trainPreempted n s) :=
  modTrain_besideDraws s n fun w => by
    cases state : w.state with
    | _ => simp [Train.offFlush, TrainState.offFlush, state]

theorem handToTrain_besideDraws {f : Fin 3 → State → State} (hf : ∀ n s, SameBesideDraws s (f n s))
    (origin : Option Source) (s : State) : SameBesideDraws s (handToTrain origin f s) := by
  unfold handToTrain; split
  · exact hf _ s
  · exact .refl s

/-! ### Grants, preemptions and the pass -/

theorem grant_besideDraws (k : Fin 16) (s : State) : SameBesideDraws s (grant k s) :=
  (((((modLine_besideDraws s k _ _).trans (modArb_besideDraws _ _ _ _ _ _)).trans (modGroup_besideDraws _ _ _)).trans
    (refreshPending_besideDraws _)).trans (activateRole_besideDraws _ _)).trans
    (handToTrain_besideDraws trainGranted_besideDraws _ _)

theorem preempt_besideDraws (k : Fin 16) (s : State) : SameBesideDraws s (preempt k s) :=
  ((((modLine_besideDraws s k _ _).trans (modArb_besideDraws _ _ _ _ _ _)).trans (modGroup_besideDraws _ _ _)).trans
    (refreshPending_besideDraws _)).trans (handToTrain_besideDraws trainPreempted_besideDraws _ _)

theorem preemptUntil_besideDraws (enough : State → Bool) (ks : List (Fin 16)) (s : State) :
    SameBesideDraws s (preemptUntil enough ks s) :=
  preemptUntil_keeps (fun k u h => h.trans (preempt_besideDraws k u)) enough ks s (.refl s)

theorem makeRoom_besideDraws (k : Fin 16) (s : State) : SameBesideDraws s (makeRoom k s) := preemptUntil_besideDraws _ _ s

theorem grantPass_besideDraws (s : State) : SameBesideDraws s (grantPass s) :=
  grantPass_keeps (fun k u h => h.trans (grant_besideDraws k u)) (fun k u h => h.trans (preempt_besideDraws k u))
    (fun at? u h => h.trans (passEnds_besideDraws at? u)) s (.refl s)

theorem register_besideDraws (k : Fin 16) (q : Option Nat) (o : Source) (s : State) :
    SameBesideDraws s (register k q o s) :=
  ((modLine_besideDraws s k _ _).trans (refreshPending_besideDraws _)).trans (grantPass_besideDraws _)

theorem withdraw_besideDraws (k : Fin 16) (s : State) : SameBesideDraws s (withdraw k s) :=
  (modLine_besideDraws s k _ _).trans (refreshPending_besideDraws _)

theorem suspend_besideDraws (k : Fin 16) (s : State) : SameBesideDraws s (suspend k s) :=
  modLine_besideDraws s k _ _

theorem resume_besideDraws (k : Fin 16) (s : State) : SameBesideDraws s (resume k s) :=
  (modLine_besideDraws s k _ _).trans (activateRole_besideDraws _ _)

theorem restoreOne_besideDraws (s : State) (k : Fin 16) : SameBesideDraws s (restoreOne s k) := by
  unfold restoreOne; split
  · exact resume_besideDraws k s
  · exact preempt_besideDraws k s

theorem closeLine_besideDraws (k : Fin 16) (cause : EndCause) (s : State) : SameBesideDraws s (closeLine k cause s) :=
  (modLine_besideDraws s k _ _).trans (modArb_besideDraws _ _ _ _ _ _)

theorem foldl_besideDraws {α : Type} {f : State → α → State} (hf : ∀ s a, SameBesideDraws s (f s a)) (l : List α)
    (s : State) : SameBesideDraws s (l.foldl f s) := foldl_keeps (fun u a h => h.trans (hf u a)) l s (.refl s)

/-! ### Hand-overs of supply and level -/

theorem grantPass_besideArbiter (s : State) : SameBesideArbiter s (grantPass s) := (grantPass_besideDraws s).toSameBesideArbiter

theorem supplyLost_besideArbiter (s : State) : SameBesideArbiter s (supplyLost s) :=
  ((foldl_besideDraws (fun u k => suspend_besideDraws k u) _ s).toSameBesideArbiter.trans
    (modArb_besideArbiter _ _ _ _ _)).trans (grantPass_besideArbiter _)

theorem supplyRestored_besideArbiter (capacity : Nat) (s : State) : SameBesideArbiter s (supplyRestored capacity s) :=
  ((modArb_besideArbiter s _ _ _ _).trans (foldl_besideDraws restoreOne_besideDraws _ _).toSameBesideArbiter).trans
    (grantPass_besideArbiter _)

theorem capacityChanged_besideArbiter (capacity : Nat) (s : State) : SameBesideArbiter s (capacityChanged capacity s) :=
  ((modArb_besideArbiter s _ _ _ _).trans (preemptUntil_besideDraws _ _ _).toSameBesideArbiter).trans
    (grantPass_besideArbiter _)

theorem takeSupply_besideArbiter (supply : SupplyState) (capacity : Nat) (s : State) :
    SameBesideArbiter s (takeSupply supply capacity s) := by
  obtain ⟨_, _, e⟩ | ⟨_, _, e⟩ | ⟨_, _, _, e⟩ | e := takeSupply_cases supply capacity s <;> rw [e]
  · exact supplyLost_besideArbiter s
  · exact supplyRestored_besideArbiter capacity s
  · exact capacityChanged_besideArbiter capacity s
  · exact .refl s

theorem takeLevel_besideArbiter (level : Nat) (s : State) : SameBesideArbiter s (takeLevel level s) := by
  obtain ⟨_, e⟩ | ⟨_, e⟩ := takeLevel_cases level s <;> rw [e]
  · exact (modArb_besideArbiter s _ _ _ _).trans (grantPass_besideArbiter _)
  · exact .refl s

/-! ### What two states that agree beside the Arbiter share -/

/-- A state outside those a flush draw moves between is seen through `offFlush`. -/
theorem offFlush_eq_iff {st target : TrainState} (h : target.running = true ∨ target = .off) :
    st.offFlush = target ↔ st = target := by
  cases st <;> cases target <;> simp_all [TrainState.offFlush, TrainState.running]

theorem running_offFlush (st : TrainState) : st.offFlush.running = st.running := by cases st <;> rfl

theorem SameBesideArbiter.train_defn {s u : State} (h : SameBesideArbiter s u) (n : Fin 3) :
    u.trains[n].defn = s.trains[n].defn :=
  have e := congrArg Train.defn (h.trains n)
  e

theorem SameBesideArbiter.train_target {s u : State} (h : SameBesideArbiter s u) (n : Fin 3) :
    u.trains[n].target = s.trains[n].target :=
  have e := congrArg Train.target (h.trains n)
  e

theorem SameBesideArbiter.train_running {s u : State} (h : SameBesideArbiter s u) (n : Fin 3) :
    u.trains[n].state.running = s.trains[n].state.running := by
  have e : u.trains[n].state.offFlush = s.trains[n].state.offFlush := congrArg Train.state (h.trains n)
  rw [← running_offFlush, e, running_offFlush]

/-- A running train stays in its state, one that is OFF stays OFF, and no other comes to such a state. -/
theorem SameBesideArbiter.train_state {s u : State} (h : SameBesideArbiter s u) (n : Fin 3) {target : TrainState}
    (apart : target.running = true ∨ target = .off) : u.trains[n].state = target ↔ s.trains[n].state = target := by
  have e : u.trains[n].state.offFlush = s.trains[n].state.offFlush := congrArg Train.state (h.trains n)
  rw [← offFlush_eq_iff apart, e, offFlush_eq_iff apart]

end Sys2Proof.Machine
end


section
/-!
What the cascades leave alone. Every operation of the units but those of the channels and of the Link posts notices, ends stray
spells, and does nothing else to the Link, to what a channel counts, or to the commands that wait. The laws of the notice queue (R176)
and of the residues (R30) follow.
-/

namespace Sys2Proof.Machine

/-- Of the Link only the notice queue and its overflow flag differ, within the law of the queue, and the same commands wait. -/
structure Quiet (s u : State) : Prop where
  link : u.link = { s.link with queue := u.link.queue, overflow := u.link.overflow }
  queue : QueueLaw s → QueueLaw u
  pending : u.pending = s.pending

/-- Quiet, and no channel differs but in its stray spell. -/
structure Calm (s u : State) : Prop extends Quiet s u where
  counts : ∀ m : Fin 24, u.meters[m].unspelled = s.meters[m].unspelled

theorem Quiet.of_same {s u : State} (hl : u.link = s.link) (hp : u.pending = s.pending) : Quiet s u :=
  ⟨by rw [hl], fun h => by rw [QueueLaw, hl]; exact h, hp⟩

theorem Calm.of_same {s u : State} (hm : u.meters = s.meters) (hl : u.link = s.link) (hp : u.pending = s.pending) :
    Calm s u := ⟨.of_same hl hp, fun m => by rw [hm]⟩

theorem Calm.refl (s : State) : Calm s s := .of_same rfl rfl rfl

theorem Quiet.trans {s u v : State} (h : Quiet s u) (g : Quiet u v) : Quiet s v :=
  ⟨by rw [g.link, h.link], fun q => g.queue (h.queue q), g.pending.trans h.pending⟩

theorem Calm.trans {s u v : State} (h : Calm s u) (g : Calm u v) : Calm s v :=
  ⟨h.toQuiet.trans g.toQuiet, fun m => (g.counts m).trans (h.counts m)⟩

/-- A calm operation that comes after other fields have been written. -/
theorem Calm.after_same {s u v : State} (g : Calm u v) (hm : u.meters = s.meters) (hl : u.link = s.link)
    (hp : u.pending = s.pending) : Calm s v := (Calm.of_same hm hl hp).trans g

theorem Calm.of_besideArbiter {s u : State} (h : SameBesideArbiter s u) : Calm s u := ⟨.of_same h.link h.pending, h.meters⟩

theorem Calm.of_besideDraws {s u : State} (h : SameBesideDraws s u) : Calm s u := .of_besideArbiter h.toSameBesideArbiter

theorem Calm.ite {s u v : State} (b : Prop) [Decidable b] (hu : Calm s u) (hv : Calm s v) : Calm s (if b then u else v) := by
  split
  · exact hu
  · exact hv

theorem post_queueLaw (n : NoticeBody) (s : State) (h : QueueLaw s) : QueueLaw (post n s) := by
  obtain ⟨room, e⟩ | ⟨_, e⟩ := post_cases n s <;> rw [e]
  · simp only [QueueLaw, modLink_link, List.length_append, List.length_singleton]; omega
  · exact h

theorem post_calm (n : NoticeBody) (s : State) : Calm s (post n s) :=
  ⟨⟨post_link n s, post_queueLaw n s, post_pending n s⟩, fun m => by rw [post_meters]⟩

theorem modTank_calm (s : State) (t : Fin 12) (f : Tank → Tank) : Calm s (s.modTank t f) := .of_same rfl rfl rfl
theorem modTrain_calm (s : State) (n : Fin 3) (f : Train → Train) : Calm s (s.modTrain n f) := .of_same rfl rfl rfl
theorem modEval_calm (s : State) (f : Evaluator → Evaluator) : Calm s (s.modEval f) := .of_same rfl rfl rfl
theorem modSet_calm (s : State) (x : Fin 2) (f : PressureSet → PressureSet) : Calm s (s.modSet x f) := .of_same rfl rfl rfl
theorem modLine_calm (s : State) (k : Fin 16) (f : DrawLine → DrawLine) : Calm s (s.modLine k f) := .of_same rfl rfl rfl
theorem modGroup_calm (s : State) (g : Fin 6) (f : Group → Group) : Calm s (s.modGroup g f) := .of_same rfl rfl rfl
theorem modArb_calm (s : State) (f : Arbiter → Arbiter) : Calm s (s.modArb f) := .of_same rfl rfl rfl
theorem modInput_calm (s : State) (i : Fin 16) (f : FrequencyInput → FrequencyInput) : Calm s (s.modInput i f) :=
  .of_same rfl rfl rfl
theorem withTransfer_calm (s : State) (r : TransferRecord) : Calm s { s with transfer := r } := .of_same rfl rfl rfl
theorem withSets_calm (s : State) (p : PressureSets) : Calm s { s with sets := p } := .of_same rfl rfl rfl
theorem activateRole_calm (r : MeterRole) (s : State) : Calm s (activateRole r s) :=
  .of_besideDraws (activateRole_besideDraws r s)
theorem grantPass_calm (s : State) : Calm s (grantPass s) := .of_besideDraws (grantPass_besideDraws s)
theorem register_calm (k : Fin 16) (q : Option Nat) (o : Source) (s : State) : Calm s (register k q o s) :=
  .of_besideDraws (register_besideDraws k q o s)
theorem refreshPending_calm (s : State) : Calm s (refreshPending s) := .of_besideDraws (refreshPending_besideDraws s)

theorem foldl_calm {α : Type} {f : State → α → State} (hf : ∀ s a, Calm s (f s a)) (l : List α) (s : State) :
    Calm s (l.foldl f s) := foldl_keeps (fun u a h => h.trans (hf u a)) l s (.refl s)

/-! ### The trains -/

theorem askFlush_calm (n : Fin 3) (s : State) : Calm s (askFlush n s) := by
  obtain ⟨_, _, _, _, e⟩ | e := askFlush_cases n s <;> rw [e]
  · exact (modTrain_calm s n _).trans (register_calm _ _ _ _)
  · exact .refl s

theorem startCheck_calm (s : State) : Calm s (startCheck s) := by
  obtain ⟨n, _, _, _, _, _, _, e⟩ | e := startCheck_cases s <;> rw [e]
  · exact .of_same rfl rfl rfl
  · exact .refl s

theorem giveUpTarget_calm (n : Fin 3) (s : State) : Calm s (giveUpTarget n s) := by
  unfold giveUpTarget; dsimp only; split
  · exact (modTank_calm s _ _).trans (modTrain_calm _ n _)
  · exact modTrain_calm s n _

theorem releaseHolder_calm (h : Holder) (s : State) : Calm s (releaseHolder h s) := .of_same rfl rfl rfl

theorem enterFlushWait_calm (n : Fin 3) (remaining : Nat) (s : State) : Calm s (enterFlushWait n remaining s) :=
  (modTrain_calm s n _).trans (askFlush_calm n _)

theorem haltTrain_calm (n : Fin 3) (cause : StopCause) (s : State) : Calm s (haltTrain n cause s) :=
  ((((giveUpTarget_calm n s).trans (modTrain_calm _ n _)).trans (releaseHolder_calm _ _)).trans
    (enterFlushWait_calm n _ _)).trans (startCheck_calm _)

theorem stopCheck_calm (s : State) : Calm s (stopCheck s) :=
  stopCheck_keeps (fun n u h => h.trans (haltTrain_calm n _ u)) s (.refl s)

theorem faultTrain_calm (n : Fin 3) (cause : FaultCause) (s : State) : Calm s (faultTrain n cause s) :=
  ((modTrain_calm s n _).trans (post_calm _ _)).trans (startCheck_calm _)

theorem restTrain_calm (n : Fin 3) (s : State) : Calm s (restTrain n s) :=
  (modTrain_calm s n _).trans (startCheck_calm _)

theorem finishFlush_calm (n : Fin 3) (s : State) : Calm s (finishFlush n s) := by
  unfold finishFlush; dsimp only; split
  · exact (modTrain_calm s n _).trans (faultTrain_calm n _ _)
  · exact (modTrain_calm s n _).trans (restTrain_calm n _)

theorem flushEnded_calm (cause : EndCause) (delivered : Nat) (n : Fin 3) (s : State) :
    Calm s (flushEnded cause delivered n s) := by
  have faulted := (modTrain_calm s n fun w =>
    { w with flushRemaining := s.trains[n].flushRemaining - delivered, flushPlaced := false }).trans (faultTrain_calm n .unflushed _)
  unfold flushEnded; dsimp only; split
  case h_1 => exact .ite _ (finishFlush_calm n s) (enterFlushWait_calm n _ s)
  case h_2 | h_3 => exact faulted
  case h_4 | h_5 | h_6 | h_7 => exact enterFlushWait_calm n _ s
  case h_8 => exact modTrain_calm s n _
  case h_9 => exact .refl s

theorem enterDiverting_calm (n : Fin 3) (s : State) : Calm s (enterDiverting n s) := modTrain_calm s n _

theorem enterProducing_calm (n : Fin 3) (t : Fin 12) (s : State) : Calm s (enterProducing n t s) := by
  have entered : Calm s ((s.modTank t fun k => { k with fillTrains := k.fillTrains ++ [n] }).modTrain n fun w =>
      { w with state := .producing, target := some t, producingSince := some s.now, stage := none,
               qualification := .idle, stall := .start w.defn.productStall }) :=
    (modTank_calm s t _).trans (modTrain_calm _ n _)
  exact .ite _ (entered.trans (stopCheck_calm _)) entered

theorem holdComplete_calm (n : Fin 3) (s : State) : Calm s (holdComplete n s) := by
  unfold holdComplete; split
  · exact enterProducing_calm n _ s
  · exact haltTrain_calm n _ s

theorem excursion_calm (n : Fin 3) (s : State) : Calm s (excursion n s) :=
  (giveUpTarget_calm n s).trans (enterDiverting_calm n _)

theorem takeReading_calm (r : Salinity) (n : Fin 3) (s : State) : Calm s (takeReading r n s) := by
  have read := modTrain_calm s n fun w => { w with reading := r }
  have counted := read.trans (modTrain_calm _ n fun w =>
    { w with qualification := { w.qualification with count := w.qualification.count + 1 } })
  unfold takeReading; dsimp only; split
  · exact .ite _ (.ite _ (counted.trans (holdComplete_calm n _)) counted) (read.trans (modTrain_calm _ n _))
  · exact .ite _ read (read.trans (excursion_calm n _))
  · exact read

theorem retarget_calm (s : State) (n : Fin 3) : Calm s (retarget s n) := by
  unfold retarget; split
  · dsimp only; split
    · exact ((modTank_calm s _ _).trans (modTank_calm _ _ _)).trans (modTrain_calm _ n _)
    · exact (modTank_calm s _ _).trans (modTrain_calm _ n _)
  · exact haltTrain_calm n _ s

theorem trainsTake_calm (oldCall : Nat) (oldCandidates : List (Fin 12)) (s : State) :
    Calm s (trainsTake oldCall oldCandidates s) :=
  trainsTake_keeps (fun u h => h.trans (startCheck_calm u)) (fun u h => h.trans (stopCheck_calm u))
    (retargetAll_keeps (fun u n h => h.trans (retarget_calm u n)) fun _ h => h.trans (.of_same rfl rfl rfl))
    oldCall oldCandidates s (.refl s)

/-! ### The ends of draws -/

theorem closeLine_calm (k : Fin 16) (cause : EndCause) (s : State) : Calm s (closeLine k cause s) :=
  .of_besideDraws (closeLine_besideDraws k cause s)

theorem endDraw_calm (k : Fin 16) (cause : EndCause) (s : State) : Calm s (endDraw k cause s) :=
  endDraw_keeps (fun k c u h => h.trans (closeLine_calm k c u)) (fun n u h => h.trans (post_calm n u))
    (fun c d n u h => h.trans (flushEnded_calm c d n u)) (fun _ h => h.trans (.of_same rfl rfl rfl))
    (fun u h => h.trans (grantPass_calm u)) k cause s (.refl s)

theorem withdraw_calm (k : Fin 16) (s : State) : Calm s (withdraw k s) := .of_besideDraws (withdraw_besideDraws k s)

theorem handToTrain_calm {f : Fin 3 → State → State} (hf : ∀ n s, Calm s (f n s)) (origin : Option Source) (s : State) :
    Calm s (handToTrain origin f s) := by
  unfold handToTrain; split
  · exact hf _ s
  · exact .refl s

theorem cancelPending_calm (k : Fin 16) (s : State) : Calm s (cancelPending k s) := by
  unfold cancelPending; split
  · exact .refl s
  · exact ((withdraw_calm k s).trans (handToTrain_calm (flushEnded_calm _ _) _ _)).trans (grantPass_calm _)

theorem endSuspended_calm (s : State) : Calm s (endSuspended s) := foldl_calm (fun u k => endDraw_calm k _ u) _ s

/-! ### The pressure sets -/

theorem workOutSupply_calm (s : State) : Calm s (workOutSupply s) :=
  (Calm.of_besideArbiter (takeSupply_besideArbiter _ _ _)).after_same rfl rfl rfl

theorem designate_calm (cause : ChangeoverCause) (s : State) : Calm s (designate cause s) := by
  obtain ⟨_, _, e⟩ | e := designate_cases cause s <;> rw [e]
  · exact (post_calm _ _).after_same rfl rfl rfl
  · exact .refl s

theorem startSet_calm (x : Fin 2) (s : State) : Calm s (startSet x s) := .of_same rfl rfl rfl

theorem startDuty_calm (s : State) : Calm s (startDuty s) := by
  obtain ⟨_, _, _, e⟩ | e := startDuty_cases s <;> rw [e]
  · exact startSet_calm _ s
  · exact .refl s

theorem settleSets_calm (cause : ChangeoverCause) (s : State) : Calm s (settleSets cause s) :=
  (((workOutSupply_calm s).trans (designate_calm cause _)).trans (startDuty_calm _)).trans (workOutSupply_calm _)

theorem dutyTankLost_calm (s : State) : Calm s (dutyTankLost s) :=
  (workOutSupply_calm _).after_same rfl rfl rfl

theorem dutyTankAppears_calm (s : State) : Calm s (dutyTankAppears s) :=
  (activateRole_calm _ s).trans (startDuty_calm _)

theorem failSet_calm (x : Fin 2) (cause : SetFailCause) (timer : Nat) (s : State) : Calm s (failSet x cause timer s) :=
  (modSet_calm s x _).trans (post_calm _ _)

/-! ### The Evaluator -/

theorem takeLevel_calm (level : Nat) (s : State) : Calm s (takeLevel level s) :=
  .of_besideArbiter (takeLevel_besideArbiter level s)

theorem workOutLevel_calm (cause : LevelCause) (s : State) : Calm s (workOutLevel cause s) := by
  obtain ⟨_, e⟩ | ⟨_, e⟩ := workOutLevel_cases cause s <;> rw [e]
  · exact .refl s
  · exact ((modEval_calm s _).trans (post_calm _ _)).trans (takeLevel_calm _ _)

theorem workOutComputed_calm (cause : LevelCause) (s : State) : Calm s (workOutComputed cause s) :=
  (modEval_calm s _).trans (workOutLevel_calm cause _)

theorem clearOldDuty_calm (old : Option (Fin 12)) (s : State) : Calm s (clearOldDuty old s) := by
  cases old with
  | none => exact .refl s
  | some t => exact modTank_calm s t _

theorem applyDuty_calm (cause : DutyCause) (chosen : Option (Fin 12)) (s : State) : Calm s (applyDuty cause chosen s) := by
  unfold applyDuty; dsimp only; split
  · refine .ite _ (.refl s) ?_
    rename_i t
    have flagged : Calm s ((setDutyFlag t true (clearOldDuty s.eval.dutyTank s)).modEval fun e => { e with dutyTank := some t }) :=
      ((clearOldDuty_calm _ s).trans (modTank_calm _ t _)).trans (modEval_calm _ _)
    have posted := flagged.trans (post_calm (.dutyChanged t cause s.eval.dutyTank) _)
    exact .ite _ (posted.trans (dutyTankAppears_calm _)) posted
  · split
    · exact .refl s
    · exact (((modTank_calm s _ _).trans (modEval_calm _ _)).trans (post_calm _ _)).trans (dutyTankLost_calm _)

theorem evaluate_calm (s : State) : Calm s (evaluate s) :=
  evaluate_keeps (fun f u h => h.trans (modEval_calm u f)) (fun u h => h.trans (workOutLevel_calm _ u))
    (fun c u _ h => h.trans (applyDuty_calm c _ u)) s (.refl s)

theorem evaluateAndTrains_calm (s : State) : Calm s (evaluateAndTrains s) :=
  (evaluate_calm s).trans (trainsTake_calm _ _ _)

/-! ### The Transfer and Shore Unit and the Power Allowance -/

theorem beginTransfer_calm (origin : TransferOrigin) (src dst : Fin 12) (litres : Nat) (s : State) :
    Calm s (beginTransfer origin src dst litres s) :=
  (activateRole_calm _ _).after_same rfl rfl rfl

theorem endTransfer_calm (cause : TransferCause) (s : State) : Calm s (endTransfer cause s) := by
  unfold endTransfer; split
  · exact .refl s
  · exact (((((modTank_calm s _ _).trans (modTank_calm _ _ _)).trans (releaseHolder_calm _ _)).trans
      (withTransfer_calm _ _)).trans (post_calm _ _)).trans (startCheck_calm _)

theorem balanceReview_calm (s : State) : Calm s (balanceReview s) := by
  unfold balanceReview; refine .ite _ ?_ (.refl s)
  split
  · exact .ite _ (beginTransfer_calm _ _ _ _ s) (.refl s)
  · exact .refl s

theorem beginShore_calm (t : Fin 12) (litres : Nat) (s : State) : Calm s (beginShore t litres s) :=
  (activateRole_calm _ _).after_same rfl rfl rfl

theorem endShore_calm (cause : ShoreCause) (s : State) : Calm s (endShore cause s) := by
  unfold endShore; split
  · exact .refl s
  · exact (post_calm _ _).after_same rfl rfl rfl

theorem transferShoreTake_calm (s : State) : Calm s (transferShoreTake s) :=
  transferShoreTake_keeps (fun c u h => h.trans (endTransfer_calm c u)) (fun c u h => h.trans (endShore_calm c u))
    (fun _ h => h.trans (.of_same rfl rfl rfl)) s (.refl s)

theorem tankChange_calm (s : State) : Calm s (tankChange s) :=
  (evaluateAndTrains_calm s).trans (transferShoreTake_calm _)

theorem allowanceChanged_calm (cause : ShedCause) (old : Nat) (s : State) : Calm s (allowanceChanged cause old s) :=
  allowanceChanged_keeps (fun n u h => h.trans (post_calm n u)) (fun u h => h.trans (endTransfer_calm _ u))
    (fun n u h => h.trans (haltTrain_calm n _ u)) (fun u h => h.trans (startCheck_calm u)) cause old s (.refl s)

/-! ### The Tank Inventory, litres and gate ends -/

theorem seedWith_calm (t : Fin 12) (amount : Nat) (origin : SeedOrigin) (s : State) : Calm s (seedWith t amount origin s) :=
  ((modTank_calm s t _).trans (post_calm _ _)).trans (tankChange_calm _)

theorem changeTankState_calm (t : Fin 12) (cause : TankCause) (f : Tank → Tank) (s : State) :
    Calm s (changeTankState t cause f s) :=
  ((modTank_calm s t f).trans (post_calm _ _)).trans (tankChange_calm _)

theorem levelLost_calm (t : Fin 12) (s : State) : Calm s (levelLost t s) := (modTank_calm s t _).trans (tankChange_calm _)

theorem reconcile_calm (t : Fin 12) (lv : Nat) (s : State) : Calm s (reconcile t lv s) := by
  have checked := modTank_calm s t fun k => { k with agreement := checkedAgreement s.tanks[t] lv }
  exact .ite _ (.ite _ (checked.trans (post_calm _ _)) (.ite _ (checked.trans (post_calm _ _)) checked)) (.refl s)

theorem takeHead_calm (t : Fin 12) (head : Nat) (s : State) : Calm s (takeHead t head s) := by
  have headed := modTank_calm s t fun k => { k with levelHead := some head }
  unfold takeHead; refine .ite _ ?_ (.refl s)
  split
  · exact headed
  · rename_i lv _
    have levelled := headed.trans (modTank_calm _ t fun k => { k with levelVolume := some lv })
    exact .ite _ ((levelled.trans (reconcile_calm t _ _)).trans (tankChange_calm _))
      (levelled.trans (seedWith_calm t _ _ _))

theorem applyTankDef_calm (t : Fin 12) (d : TankDef) (s : State) : Calm s (applyTankDef t d s) :=
  .ite _ (changeTankState_calm t _ _ s)
    (.ite _ (changeTankState_calm t _ _ s) ((modTank_calm s t _).trans (tankChange_calm _)))

theorem removeTankDef_calm (t : Fin 12) (s : State) : Calm s (removeTankDef t s) :=
  .ite _ (changeTankState_calm t _ _ s) (.refl s)

theorem strayLitre_calm (m : Fin 24) (cause : StrayCause) (forward : Bool) (s : State) :
    Calm s (strayLitre m cause forward s) := by
  have noticed : Calm s (({ s with strayTotal := addSign s.strayTotal forward } : State).modMeter m fun c =>
      { c with strayNoticed := true }) := ⟨.of_same rfl rfl, upd_view s.meters m fun _ => rfl⟩
  exact .ite _ (.of_same rfl rfl rfl) (noticed.trans (post_calm _ _))

theorem productLitre_calm (n : Fin 3) (forward : Bool) (s : State) : Calm s (productLitre n forward s) := by
  unfold productLitre; dsimp only; split
  · exact ((modTrain_calm s n _).trans (modTank_calm _ _ _)).trans (tankChange_calm _)
  · exact modTrain_calm s n _

theorem transferLitre_calm (r : TransferRun) (forward : Bool) (s : State) : Calm s (transferLitre r forward s) :=
  ((((modTank_calm s _ _).trans (evaluateAndTrains_calm _)).trans ((modTank_calm _ _ _).trans
    (evaluateAndTrains_calm _))).trans (withTransfer_calm _ _)).trans (transferShoreTake_calm _)

theorem shoreLitre_calm (r : ShoreRun) (forward : Bool) (s : State) : Calm s (shoreLitre r forward s) :=
  (tankChange_calm _).after_same rfl rfl rfl

theorem lineLitre_calm (k : Fin 16) (forward : Bool) (s : State) : Calm s (lineLitre k forward s) := by
  have delivered : Calm s (s.modDraw k fun d => { d with delivered := deliveredAfter d.delivered forward, stall := 0 }) :=
    modLine_calm s k _
  unfold lineLitre; dsimp only; split
  · exact .ite _ (delivered.trans (endDraw_calm k _ _)) delivered
  · exact delivered

theorem applyLitre_calm (m : Fin 24) (forward : Bool) (s : State) : Calm s (applyLitre m forward s) := by
  cases role : s.meters[m].defn.role with simp only [applyLitre, role]
  | none => exact .refl s
  | supply =>
    split
    · exact (modTank_calm s _ _).trans (tankChange_calm _)
    · exact strayLitre_calm m _ forward s
  | product n => exact productLitre_calm n forward s
  | transfer =>
    split
    · exact transferLitre_calm _ forward s
    · exact strayLitre_calm m _ forward s
  | shore =>
    split
    · exact shoreLitre_calm _ forward s
    · exact strayLitre_calm m _ forward s
  | line k => exact .ite _ (lineLitre_calm k forward s) (strayLitre_calm m _ forward s)

theorem takeValue_calm (i : Fin 16) (u : Nat) (s : State) : Calm s (takeValue i u s) := by
  unfold takeValue; dsimp only; split
  · exact .refl s
  · exact takeReading_calm _ _ s
  · split
    · exact (modInput_calm s i _).trans (takeHead_calm _ _ _)
    · exact modInput_calm s i _

theorem handFault_calm (i : Fin 16) (s : State) : Calm s (handFault i s) := by
  unfold handFault; split
  · exact takeReading_calm _ _ s
  · exact .refl s

theorem handFaultEntry_calm (i : Fin 16) (s : State) : Calm s (handFaultEntry i s) := by
  unfold handFaultEntry; split
  · exact .refl s
  · exact levelLost_calm _ s
  · exact takeReading_calm _ _ s

theorem gateEnd_calm (i : Fin 16) (f : Nat) (s : State) : Calm s (gateEnd i f s) := by
  have gated := modInput_calm s i fun x => x.gate f
  have written (g : FrequencyInput → FrequencyInput) := gated.trans (modInput_calm _ i g)
  unfold gateEnd; dsimp only
  refine .ite _ gated (.ite _ ?_ (.ite _ ?_ ?_))
  · exact ((written _).trans (post_calm _ _)).trans (handFaultEntry_calm i _)
  · exact ((written _).trans (post_calm _ _)).trans (takeValue_calm i _ _)
  · split
    · exact (written _).trans (takeValue_calm i _ _)
    · exact written _
    · exact (written _).trans (handFault_calm i _)
    · exact (written _).trans (handFault_calm i _)

/-! ### Requests and events -/

theorem loadStrapping_calm (t : Fin 12) (points : List StrapPoint) (s : State) : Calm s (loadStrapping t points s) :=
  (levelLost_calm t _).after_same rfl rfl rfl

theorem handRoles_calm (old new : MeterRole) (s : State) : Calm s (handRoles old new s) := by
  have metered (k : Fin 16) (on : Bool) (u : State) : Calm u (setMetered k on u) := modLine_calm u k _
  refine .ite _ (.refl s) ?_
  cases lineOfRole old with
  | none =>
    cases lineOfRole new with
    | none => exact .refl s
    | some k => exact metered k true s
  | some j =>
    cases lineOfRole new with
    | none => exact metered j false s
    | some k => exact (metered j false s).trans (metered k true _)

theorem applyInputDef_calm (i : Fin 16) (d : Option InputRole) (s : State) : Calm s (applyInputDef i d s) := by
  have givenUp (r : InputRole) (u : State) : Calm u (giveUpInput r u) := by
    cases r with
    | none => exact .refl u
    | level t => exact levelLost_calm t u
    | salinity n => exact takeReading_calm _ n u
  have takenUp (changed : Bool) (st : FaultState) (r : InputRole) (u : State) : Calm u (takeUpInput changed st r u) := by
    cases r with
    | none => exact .refl u
    | level t => exact levelLost_calm t u
    | salinity n => exact .ite _ (takeReading_calm _ n u) (.refl u)
  have defined := modInput_calm s i fun x => x.define d
  exact (Calm.ite _ (defined.trans (givenUp _ _)) defined).trans (takenUp _ _ _ _)

theorem defineLine_calm (d : LineDef) (s : State) (k : Fin 16) : Calm s (defineLine d s k) := by
  have moved (old new : Fin 6) (u : State) : Calm u (moveGroup k old new u) :=
    .ite _ (.refl u) ((modGroup_calm u old _).trans (modGroup_calm _ new _))
  exact .ite _ ((modLine_calm s k _).trans (moved _ _ _)) ((modLine_calm s k _).trans (modGroup_calm _ _ _))

theorem removeLine_calm (s : State) (k : Fin 16) : Calm s (removeLine s k) :=
  .ite _ ((modGroup_calm s _ _).trans (modLine_calm _ k _)) (.refl s)

theorem applyGroupDef_calm (g : Fin 6) (admitted patience : Nat) (s : State) : Calm s (applyGroupDef g admitted patience s) :=
  .ite _ (modGroup_calm s g _) ((modGroup_calm s g _).trans (grantPass_calm _))

theorem applyProductionBands_calm (bands : List Nat) (hysteresis : Nat) (s : State) :
    Calm s (applyProductionBands bands hysteresis s) := by
  have worked := (modEval_calm s fun e =>
    { e with settings := { e.settings with productionBands := bands, productionHysteresis := hysteresis } }).trans
    (modEval_calm _ _ : Calm _ (workOutCall _))
  exact .ite _ worked ((worked.trans (startCheck_calm _)).trans (stopCheck_calm _))

theorem writeSets_calm (body : List Byte) (s : State) : Calm s (writeSets body s) := by
  constructor
  · exact .of_same (by simp only [writeSets]) (by simp only [writeSets])
  · simp only [writeSets, implies_true]

theorem applySets_calm (body : List Byte) (s : State) : Calm s (applySets body s) :=
  ((writeSets_calm body s).trans (settleSets_calm _ _)).trans (allowanceChanged_calm _ _ _)

theorem applyMask_calm (ks : List (Fin 16)) (setting : Bool) (s : State) : Calm s (applyMask ks setting s) :=
  .ite _ ((grantPass_calm _).after_same rfl rfl rfl) (.of_same rfl rfl rfl)

theorem applyMode_calm (mode : ArbiterMode) (s : State) : Calm s (applyMode mode s) :=
  .ite _ (.refl s) ((modArb_calm s _).trans (grantPass_calm _))

theorem applyTrainMode_calm (n : Fin 3) (mode : TrainMode) (s : State) : Calm s (applyTrainMode n mode s) := by
  have written := modTrain_calm s n fun w => { w with mode := mode }
  have halted := Calm.ite (mode = .disabled && s.trains[n].state.running) (written.trans (haltTrain_calm n .modeDisabled _))
    written
  exact .ite _ halted ((halted.trans (startCheck_calm _)).trans (stopCheck_calm _))

theorem changeWaters_calm (w : Waters) (s : State) : Calm s (changeWaters w s) := by
  have halted (u : State) (n : Fin 3) : Calm u (haltRunning .restricted u n) := .ite _ (haltTrain_calm n _ u) (.refl u)
  cases w with
  | restricted => exact (foldl_calm halted _ _).after_same rfl rfl rfl
  | opened => exact (startCheck_calm _).after_same rfl rfl rfl

theorem contactAsserted_calm (k : Fin 16) (s : State) : Calm s (contactAsserted k s) :=
  .ite _ ((modLine_calm s k _).trans (register_calm _ _ _ _)) (modLine_calm s k _)

theorem contactReleased_calm (k : Fin 16) (s : State) : Calm s (contactReleased k s) := by
  have opened := modLine_calm s k fun l => { l with asserted := false }
  exact .ite _ (.ite _ ((opened.trans (withdraw_calm k _)).trans (grantPass_calm _))
    (.ite _ (opened.trans (modLine_calm _ k _)) opened)) opened

theorem ageDraw_calm (k : Fin 16) (s : State) : Calm s (ageDraw k s) :=
  (((modLine_calm s k _).trans (modGroup_calm _ _ _)).trans (refreshPending_calm _)).trans (post_calm _ _)

theorem holdExpires_calm (s : State) : Calm s (holdExpires s) :=
  (Calm.ite _ (endSuspended_calm s) (.refl s)).trans (modArb_calm _ _)

theorem setProves_calm (x : Fin 2) (s : State) : Calm s (setProves x s) := by
  have proved := modSet_calm s x fun p => { p with state := .running, lossTimer := 0 }
  refine .ite _ (proved.trans (workOutSupply_calm _)) ?_
  exact (((proved.trans (modSet_calm _ _ _)).trans (withSets_calm _ _)).trans (post_calm _ _)).trans
    (workOutSupply_calm _)

theorem alternates_calm (s : State) : Calm s (alternates s) := by
  have restarted : Calm s { s with sets := { s.sets with alternationTimer :=
      if s.sets.settings.alternation = 0 then none else some (.start s.sets.settings.alternation) } } := .of_same rfl rfl rfl
  exact .ite _ (restarted.trans (startSet_calm _ _)) restarted

theorem balanceReviewed_calm (s : State) : Calm s (balanceReviewed s) := by
  have zeroed := modEval_calm s fun e => { e with reviewTimer := 0 }
  exact (Calm.ite _ (zeroed.trans (applyDuty_calm _ _ _)) zeroed).trans (balanceReview_calm _)

/-- An act is calm, or it is one of those of the channels and the Link. -/
theorem Act.calm_or {s u : State} (h : Act s u) : Calm s u ∨
    (∃ maximum, u = s.modLink fun l => { l with queue := s.link.queue.drop maximum, overflow := false }) ∨
    (∃ image, u = s.modLink fun l => { l with snapshot := image }) ∨
    (∃ trigger, u = s.modLink fun l => { l with trigger := trigger }) ∨
    u = (s.modLink fun l => { l with writing := some (imageOf s) }) ∨
    u = changeAuthority s ∨ (∃ good, u = writeCompletes good s) ∨
    (∃ m d, (∀ d', d = some d' → 0 < d'.kFactor) ∧ u = applyMeterDef m d s) ∨ (∃ m a b, u = takeEdge m a b s) ∨
    (∃ good a b loc, u = powerOn good a b loc s) ∨ ∃ contacts proofs loc, u = tick contacts proofs loc s := by
  cases h with
  | noticesFetched maximum => exact .inr (.inl ⟨maximum, rfl⟩)
  | snapshotSet image => exact .inr (.inr (.inl ⟨image, rfl⟩))
  | triggerSet trigger => exact .inr (.inr (.inr (.inl ⟨trigger, rfl⟩)))
  | saveStarted => exact .inr (.inr (.inr (.inr (.inl rfl))))
  | authorityChanged => exact .inr (.inr (.inr (.inr (.inr (.inl rfl)))))
  | writeCompleted good => exact .inr (.inr (.inr (.inr (.inr (.inr (.inl ⟨good, rfl⟩))))))
  | meterRemoved m _ => exact .inr (.inr (.inr (.inr (.inr (.inr (.inr (.inl ⟨m, none, by simp, rfl⟩)))))))
  | meterDefined m d counts _ _ =>
    exact .inr (.inr (.inr (.inr (.inr (.inr (.inr (.inl ⟨m, some d, by rintro _ ⟨⟩; exact counts, rfl⟩)))))))
  | edgeTaken m a b => exact .inr (.inr (.inr (.inr (.inr (.inr (.inr (.inr (.inl ⟨m, a, b, rfl⟩))))))))
  | poweredOn good a b loc =>
    exact .inr (.inr (.inr (.inr (.inr (.inr (.inr (.inr (.inr (.inl ⟨good, a, b, loc, rfl⟩)))))))))
  | ticked contacts proofs loc =>
    exact .inr (.inr (.inr (.inr (.inr (.inr (.inr (.inr (.inr (.inr ⟨contacts, proofs, loc, rfl⟩)))))))))
  | unchanged => exact .inl (.refl s)
  | tankRemoved t => exact .inl (removeTankDef_calm t s)
  | tankDefined t d => exact .inl (applyTankDef_calm t d s)
  | strappingLoaded t points => exact .inl (loadStrapping_calm t points s)
  | inputDefined i d => exact .inl (applyInputDef_calm i d s)
  | linesRemoved ks => exact .inl (foldl_calm removeLine_calm ks s)
  | linesDefined ks d => exact .inl (foldl_calm (defineLine_calm d) ks s)
  | groupDefined g a p => exact .inl (applyGroupDef_calm g a p s)
  | supplyBandsSet => exact .inl ((modEval_calm s _).trans (workOutComputed_calm _ _))
  | productionBandsSet b h => exact .inl (applyProductionBands_calm b h s)
  | balanceSet => exact .inl (modEval_calm s _)
  | trainDefined n d => exact .inl ((modTrain_calm s n _).trans (startCheck_calm _))
  | setsDefined body => exact .inl (applySets_calm body s)
  | pumpDefined => exact .inl (.of_same rfl rfl rfl)
  | tankSeeded t a o => exact .inl (seedWith_calm t a o s)
  | tankServed t => exact .inl (changeTankState_calm t _ _ s)
  | drawn k q => exact .inl (register_calm k q _ s)
  | pendingCancelled k => exact .inl (cancelPending_calm k s)
  | drawEnded k c => exact .inl (endDraw_calm k c s)
  | openDrawEnded k => exact .inl (endDraw_calm k _ s)
  | linesMasked ks b => exact .inl (applyMask_calm ks b s)
  | rotationSet k => exact .inl ((modGroup_calm s _ _).trans (refreshPending_calm _))
  | modeSet mode => exact .inl (applyMode_calm mode s)
  | dispatched k => exact .inl (.of_besideDraws (grant_besideDraws k s))
  | lineReset k => exact .inl (modLine_calm s k _)
  | trainModeSet n mode => exact .inl (applyTrainMode_calm n mode s)
  | trainStarted n => exact .inl (.of_same rfl rfl rfl)
  | trainStopped n c => exact .inl (haltTrain_calm n c s)
  | trainFlushed n => exact .inl ((modTrain_calm s n _).trans (enterFlushWait_calm n _ _))
  | faultFlushed n => exact .inl ((modTrain_calm s n _).trans (askFlush_calm n _))
  | trainReset n => exact .inl ((modTrain_calm s n _).trans (restTrain_calm n _))
  | watersChanged w => exact .inl (changeWaters_calm w s)
  | floorSet => exact .inl ((modEval_calm s _).trans (workOutLevel_calm _ _))
  | allowanceSet => exact .inl ((allowanceChanged_calm _ _ _).after_same rfl rfl rfl)
  | transferStarted => exact .inl (beginTransfer_calm _ _ _ _ s)
  | transferEnded c => exact .inl (endTransfer_calm c s)
  | shoreStarted => exact .inl (beginShore_calm _ _ s)
  | shoreEnded => exact .inl (endShore_calm _ s)
  | setServedIn x => exact .inl (.ite _ ((modSet_calm s x _).trans (settleSets_calm _ _)) (.refl s))
  | setServedOut x => exact .inl (.ite _ (.refl s) ((modSet_calm s x _).trans (settleSets_calm _ _)))
  | setReset x => exact .inl ((modSet_calm s x _).trans (settleSets_calm _ _))
  | gateEnded i f => exact .inl (gateEnd_calm i f s)
  | contactAsserts k => exact .inl (contactAsserted_calm k s)
  | contactReleases k => exact .inl (contactReleased_calm k s)
  | drawAges k => exact .inl (ageDraw_calm k s)
  | holdExpired => exact .inl (holdExpires_calm s)
  | setProved x => exact .inl (setProves_calm x s)
  | setStartFailed x => exact .inl ((failSet_calm x _ _ s).trans (settleSets_calm _ _))
  | setProofLost x => exact .inl ((failSet_calm x _ _ s).trans (settleSets_calm _ _))
  | alternated => exact .inl (alternates_calm s)
  | trainPrimed n => exact .inl ((modTrain_calm s n _).trans (startCheck_calm _))
  | trainRamped n => exact .inl ((enterDiverting_calm n s).trans (startCheck_calm _))
  | stopsChecked => exact .inl (stopCheck_calm s)
  | flushAsked n => exact .inl (askFlush_calm n s)
  | flushWaitOver n => exact .inl (faultTrain_calm n _ s)
  | trainRested n => exact .inl ((modTrain_calm s n _).trans (startCheck_calm _))
  | balanceIsReviewed => exact .inl (balanceReviewed_calm s)

end Sys2Proof.Machine
end


section
/-!
The law of the notice queue (R176), the law of the residues (R30), and what every command does at its end: it answers a next state with
the pins driven and leaves the commands that wait (log 4).
-/

namespace Sys2Proof.Machine

/-! ### The channels and the Link -/

theorem modMeter_quiet (s : State) (m : Fin 24) (f : Meter → Meter) : Quiet s (s.modMeter m f) := .of_same rfl rfl

theorem applyMeterDef_quiet (m : Fin 24) (d : Option MeterDef) (s : State) : Quiet s (applyMeterDef m d s) :=
  (modMeter_quiet s m _).trans (handRoles_calm _ _ _).toQuiet

theorem takeCount_quiet (m : Fin 24) (forward : Bool) (s : State) : Quiet s (takeCount m forward s) := by
  unfold takeCount; split
  · exact .of_same rfl rfl
  · exact (modMeter_quiet s m _).trans (applyLitre_calm m _ _).toQuiet

/-- The state in which a channel has taken new levels: with its choice made, before any count (R27 to R29). -/
theorem takeEdge_cases (m : Fin 24) (a b : Bool) (s : State) :
    ∃ u, (u = s ∨ u = (takeChoice 2 s).2) ∧
      (takeEdge m a b s = u.modMeter m (fun c => c.takeLevels a b) ∨
        ∃ forward, takeEdge m a b s = takeCount m forward (u.modMeter m fun c => c.takeLevels a b)) := by
  refine ⟨(if edgesRace s.meters[m] a b then takeChoice 2 s else (0, s)).2, ?_, ?_⟩
  · split
    · exact .inr rfl
    · exact .inl rfl
  · unfold takeEdge; dsimp only; split
    · split
      · exact .inr ⟨_, rfl⟩
      · exact .inl rfl
    · exact .inl rfl

theorem takeEdge_quiet (m : Fin 24) (a b : Bool) (s : State) : Quiet s (takeEdge m a b s) := by
  obtain ⟨u, hu, h⟩ := takeEdge_cases m a b s
  have chosen : Quiet s (u.modMeter m fun c => c.takeLevels a b) := by
    obtain rfl | rfl := hu <;> exact .of_same rfl rfl
  obtain e | ⟨forward, e⟩ := h <;> rw [e]
  · exact chosen
  · exact chosen.trans (takeCount_quiet m forward _)

theorem writeCompletes_cases (good : Bool) (s : State) :
    (s.link.writing = none ∧ writeCompletes good s = s) ∨ ∃ image, s.link.writing = some image ∧
      writeCompletes good s = if good
        then post .saveDone (s.modLink fun l => { l with writing := none, stored := some image, lastWrite := .done })
        else post .saveFailed (s.modLink fun l => { l with writing := none, lastWrite := .failed }) := by
  unfold writeCompletes; split
  · exact .inl ⟨‹_›, rfl⟩
  · exact .inr ⟨_, ‹_›, rfl⟩

theorem powerOn_cases (good : Bool) (a b : BitVec 24) (loc : Bool) (s : State) :
    (∃ image, s.link.stored = some image ∧ good = true ∧ powerOn good a b loc s = stateFrom image false a b loc s) ∨
      powerOn good a b loc s = stateFrom .defaults true a b loc s := by
  unfold powerOn; split
  · exact .inl ⟨_, ‹_›, rfl, rfl⟩
  · exact .inr rfl

/-! ### The notice queue -/

theorem QueueLaw.of_link {s u : State} (h : QueueLaw s) (e : u.link.queue = s.link.queue) : QueueLaw u := by
  rw [QueueLaw, e]; exact h

theorem powerOn_queueLaw (good : Bool) (a b : BitVec 24) (loc : Bool) (s : State) : QueueLaw (powerOn good a b loc s) := by
  obtain ⟨image, _, _, e⟩ | e := powerOn_cases good a b loc s <;> rw [e] <;>
    simp [QueueLaw, stateFrom, linkFrom, powerOnNotices]

theorem Act.keeps_queueLaw {s u : State} (act : Act s u) (h : QueueLaw s) : QueueLaw u := by
  obtain calm | ⟨maximum, rfl⟩ | ⟨_, rfl⟩ | ⟨_, rfl⟩ | rfl | rfl | ⟨good, rfl⟩ | ⟨m, d, _, rfl⟩ | ⟨m, a, b, rfl⟩ |
    ⟨good, a, b, loc, rfl⟩ | ⟨contacts, proofs, loc, rfl⟩ := act.calm_or
  · exact calm.queue h
  · have shorter : (s.link.queue.drop maximum).length ≤ s.link.queue.length := by rw [List.length_drop]; omega
    exact shorter.trans h
  · exact h
  · exact h
  · exact h
  · exact h
  · obtain ⟨_, e⟩ | ⟨image, _, e⟩ := writeCompletes_cases good s <;> rw [e]
    · exact h
    · split
      · exact post_queueLaw _ _ h
      · exact post_queueLaw _ _ h
  · exact (applyMeterDef_quiet m d s).queue h
  · exact (takeEdge_quiet m a b s).queue h
  · exact powerOn_queueLaw good a b loc s
  · exact h

/-- Settles O15: a posted notice joins a queue with room and no other act lengthens the queue. -/
theorem queueLawIsKept : Obligations.QueueLawIsKept := by
  refine ⟨fun s t h hstep => ?_, fun n s => ⟨fun room => ?_, fun full => ?_⟩⟩
  · exact step_keeps_of_acts (fun _ _ hs => hs) (fun _ hs => hs) (fun ln f u hu => hu.of_link (modSerial_queue u ln f))
      (fun _ _ hs => hs) (fun _ _ act => act.keeps_queueLaw) h hstep
  · obtain ⟨_, e⟩ | ⟨full, _⟩ := post_cases n s
    · exact e
    · omega
  · obtain ⟨room, _⟩ | ⟨_, e⟩ := post_cases n s
    · omega
    · exact e

/-! ### The residues -/

/-- The law of one channel: its residue is below its K-factor (R30). -/
def Meter.InResidue (m : Meter) : Prop := m.residue < m.defn.kFactor

theorem Meter.count_inResidue {m : Meter} (forward : Bool) (h : m.InResidue) : (m.count forward).InResidue := by
  unfold Meter.InResidue Meter.count at *
  dsimp only; split <;> split <;> omega

theorem Meter.litre_inResidue {m : Meter} (forward : Bool) (h : m.InResidue) : (m.litre forward).InResidue := h

theorem Meter.takeLevels_inResidue {m : Meter} (a b : Bool) (h : m.InResidue) : (m.takeLevels a b).InResidue := h

theorem Meter.fresh_inResidue (d : Option MeterDef) (a b : Bool) (counts : ∀ d', d = some d' → 0 < d'.kFactor) :
    (Meter.fresh d a b).InResidue := by
  cases d with
  | none => exact Nat.zero_lt_one
  | some d => exact counts d rfl

theorem Meter.inResidue_of_unspelled {m c : Meter} (e : c.unspelled = m.unspelled) (h : m.InResidue) : c.InResidue := by
  have unspelled : m.unspelled.InResidue := h
  rw [← e] at unspelled; exact unspelled

theorem ResidueLaw.of_same {s u : State} (h : ResidueLaw s)
    (hm : ∀ m : Fin 24, u.meters[m].unspelled = s.meters[m].unspelled) (hs : u.link.stored = s.link.stored)
    (hw : u.link.writing = s.link.writing) : ResidueLaw u := by
  obtain ⟨residues, stored, writing⟩ := h
  exact ⟨fun m => Meter.inResidue_of_unspelled (hm m) (residues m), fun i hi => stored i (hs ▸ hi),
    fun i hi => writing i (hw ▸ hi)⟩

theorem ResidueLaw.of_calm {s u : State} (h : ResidueLaw s) (calm : Calm s u) : ResidueLaw u :=
  h.of_same calm.counts (by rw [calm.link]) (by rw [calm.link])

theorem ResidueLaw.modMeter {s : State} (h : ResidueLaw s) (m : Fin 24) {f : Meter → Meter}
    (hf : s.meters[m].InResidue → (f s.meters[m]).InResidue) : ResidueLaw (s.modMeter m f) := by
  obtain ⟨residues, images⟩ := h
  refine ⟨fun j => ?_, images⟩
  rw [modMeter_meters, upd_get]; split
  · exact hf (residues m)
  · exact residues j

/-- The image of the definitions held defines no channel of K-factor 0. -/
theorem imageOf_metersOk {s : State} (h : ResidueLaw s) : (imageOf s).metersOk := fun m d hd => by
  have residue := h.1 m
  simp only [imageOf, updAll_get] at hd
  split at hd
  · cases hd; omega
  · cases hd

theorem ResidueLaw.applyMeterDef {s : State} (h : ResidueLaw s) (m : Fin 24) (d : Option MeterDef)
    (counts : ∀ d', d = some d' → 0 < d'.kFactor) : ResidueLaw (applyMeterDef m d s) :=
  (h.modMeter m fun _ => Meter.fresh_inResidue d _ _ counts).of_calm (handRoles_calm _ _ _)

theorem ResidueLaw.takeCount {s : State} (h : ResidueLaw s) (m : Fin 24) (forward : Bool) :
    ResidueLaw (takeCount m forward s) := by
  unfold Machine.takeCount; split
  · exact h.modMeter m (Meter.count_inResidue forward)
  · rename_i litre _
    exact (h.modMeter m fun hr => Meter.litre_inResidue litre (Meter.count_inResidue forward hr)).of_calm
      (applyLitre_calm m _ _)

theorem ResidueLaw.takeEdge {s : State} (h : ResidueLaw s) (m : Fin 24) (a b : Bool) : ResidueLaw (takeEdge m a b s) := by
  obtain ⟨u, hu, e⟩ := takeEdge_cases m a b s
  have chosen : ResidueLaw u := by obtain rfl | rfl := hu <;> exact h
  have levelled := chosen.modMeter m (f := fun c => c.takeLevels a b) (Meter.takeLevels_inResidue a b)
  obtain e | ⟨forward, e⟩ := e <;> rw [e]
  · exact levelled
  · exact levelled.takeCount m forward

theorem stateFrom_residueLaw {image : Image} (ok : image.metersOk) (defaulted : Bool) (a b : BitVec 24) (loc : Bool)
    (s : State) (stored : ∀ i, s.link.stored = some i → i.metersOk) : ResidueLaw (stateFrom image defaulted a b loc s) := by
  refine ⟨fun m => ?_, stored, fun _ hi => nomatch hi⟩
  have fresh : (Meter.fresh image.meters[m] (a.getLsb m) (b.getLsb m)).InResidue := Meter.fresh_inResidue _ _ _ (ok m)
  simp only [stateFrom, updAll_get]; exact fresh

theorem defaults_metersOk : Image.defaults.metersOk := fun m d hd => by
  simp [Image.defaults] at hd

theorem powerOn_residueLaw {s : State} (h : ResidueLaw s) (good : Bool) (a b : BitVec 24) (loc : Bool) :
    ResidueLaw (powerOn good a b loc s) := by
  obtain ⟨_, stored, _⟩ := h
  obtain ⟨image, held, _, e⟩ | e := powerOn_cases good a b loc s <;> rw [e]
  · exact stateFrom_residueLaw (stored image held) _ _ _ _ s stored
  · exact stateFrom_residueLaw defaults_metersOk _ _ _ _ s stored

theorem ResidueLaw.writeCompletes {s : State} (h : ResidueLaw s) (good : Bool) : ResidueLaw (writeCompletes good s) := by
  obtain ⟨_, e⟩ | ⟨image, held, e⟩ := writeCompletes_cases good s <;> rw [e]
  · exact h
  · obtain ⟨residues, stored, writing⟩ := h
    have written : ResidueLaw (s.modLink fun l => { l with writing := none, stored := some image, lastWrite := .done }) :=
      ⟨residues, fun i hi => by cases hi; exact writing image held, fun _ hi => nomatch hi⟩
    have kept : ResidueLaw (s.modLink fun l => { l with writing := none, lastWrite := .failed }) :=
      ⟨residues, stored, fun _ hi => nomatch hi⟩
    split
    · exact written.of_calm (post_calm _ _)
    · exact kept.of_calm (post_calm _ _)

theorem ResidueLaw.tick {s : State} (h : ResidueLaw s) (contacts : BitVec 16) (proofs : BitVec 2) (loc : Bool) :
    ResidueLaw (tick contacts proofs loc s) := by
  obtain ⟨residues, images⟩ := h
  refine ⟨fun m => ?_, images⟩
  have ticked : s.meters[m].tick.InResidue := residues m
  simp only [Machine.tick, advance, updAll_get]; exact ticked

theorem Act.keeps_residueLaw {s u : State} (act : Act s u) (h : ResidueLaw s) : ResidueLaw u := by
  obtain calm | ⟨maximum, rfl⟩ | ⟨_, rfl⟩ | ⟨_, rfl⟩ | rfl | rfl | ⟨good, rfl⟩ | ⟨m, d, counts, rfl⟩ | ⟨m, a, b, rfl⟩ |
    ⟨good, a, b, loc, rfl⟩ | ⟨contacts, proofs, loc, rfl⟩ := act.calm_or
  · exact h.of_calm calm
  · exact h
  · exact h
  · exact h
  · have held := imageOf_metersOk h
    obtain ⟨residues, stored, _⟩ := h
    exact ⟨residues, stored, fun i hi => by cases hi; exact held⟩
  · exact h
  · exact h.writeCompletes good
  · exact h.applyMeterDef m d counts
  · exact h.takeEdge m a b
  · exact powerOn_residueLaw h good a b loc
  · exact h.tick contacts proofs loc

theorem ResidueLaw.of_meters_link {s u : State} (h : ResidueLaw s) (hm : u.meters = s.meters)
    (hs : u.link.stored = s.link.stored) (hw : u.link.writing = s.link.writing) : ResidueLaw u :=
  h.of_same (fun m => by rw [hm]) hs hw

/-- Settles O27: only the acts of the channels touch a residue, and each leaves it below the K-factor (R30). -/
theorem residueLawIsKept : Obligations.ResidueLawIsKept := fun _ _ h hstep =>
  step_keeps_of_acts (fun _ _ hs => hs) (fun _ hs => hs)
    (fun ln f u hu => hu.of_meters_link (modSerial_meters u ln f) (modSerial_stored u ln f) (modSerial_writing u ln f))
    (fun _ _ hs => hs) (fun _ _ act => act.keeps_residueLaw) h hstep

/-! ### The end of a command -/

theorem Act.keeps_pending {s u : State} (act : Act s u) : u.pending = s.pending := by
  obtain calm | ⟨maximum, rfl⟩ | ⟨_, rfl⟩ | ⟨_, rfl⟩ | rfl | rfl | ⟨good, rfl⟩ | ⟨m, d, _, rfl⟩ | ⟨m, a, b, rfl⟩ |
    ⟨good, a, b, loc, rfl⟩ | ⟨contacts, proofs, loc, rfl⟩ := act.calm_or
  · exact calm.pending
  · rfl
  · rfl
  · rfl
  · rfl
  · rfl
  · obtain ⟨_, e⟩ | ⟨image, _, e⟩ := writeCompletes_cases good s <;> rw [e]
    split
    · exact post_pending _ _
    · exact post_pending _ _
  · exact (applyMeterDef_quiet m d s).pending
  · exact (takeEdge_quiet m a b s).pending
  · obtain ⟨image, _, _, e⟩ | e := powerOn_cases good a b loc s <;> rw [e] <;> rfl
  · rfl

theorem exec_keeps_pending (c : Instr) (s : State) : ∃ u, exec c s = done u ∧ u.pending = s.pending :=
  exec_keeps (P := fun u => u.pending = s.pending) (fun ln f u hu => (modSerial_pending u ln f).trans hu) (fun _ _ hu => hu)
    (fun _ _ act hu => act.keeps_pending.trans hu) c s rfl

/-- The kinds of the notices that assert ATTN by themselves (R177), by their codes (R186). -/
theorem urgent_iff (n : NoticeBody) : n.urgent = true ↔
    n.record.1 = 0x05 ∨ n.record.1 = 0x0A ∨ n.record.1 = 0x0C ∨ n.record.1 = 0x09 := by
  cases n <;> simp [NoticeBody.urgent, NoticeBody.record]

theorem attn_iff (s : State) : attn s = true ↔ s.link.trigger ≤ s.link.queue.length ∨ ∃ n ∈ s.link.queue,
    n.body.record.1 = 0x05 ∨ n.body.record.1 = 0x0A ∨ n.body.record.1 = 0x0C ∨ n.body.record.1 = 0x09 := by
  simp only [attn, Bool.or_eq_true, decide_eq_true_eq, List.any_eq_true, urgent_iff]

/-- Settles O2: a command ends by driving the pins from the state it leaves (R16, R79, R122, R138, R162, R168, R177). -/
theorem everyCommandDrivesTheOutputs : Obligations.EveryCommandDrivesTheOutputs := by
  intro c s
  obtain ⟨u, e, waiting⟩ := exec_keeps_pending c s
  refine ⟨finish u, e, waiting, ?_⟩
  simp only [finish_out, finish_tanks, finish_lines, finish_trains, finish_sets, finish_transfer, finish_shore, finish_link,
    outputsOf, updAll_get, Bool.or_eq_true, beq_iff_eq, List.any_eq_true, Option.isSome_iff_exists, attn_iff, or_assoc,
    implies_true, iff_self, and_self]

/-- Settles O1: the two equations of a step (log 4). -/
theorem stepTakesFrontCommand : Obligations.StepTakesFrontCommand := by
  refine ⟨fun c rest s waiting => ?_, fun s idle => ?_⟩
  · rw [step, waiting]
  · rw [step, idle]

end Sys2Proof.Machine
end


section
/-!
The frames of the trains and of the pressure sets. What a train does when it starts, stops, flushes, rests or faults reaches its own
record, the lists of its tank, the holders and the start order, and the draws of a pass (`SameBesideTrains`); what the sets do reaches
their own record, the Arbiter and the events due (`SameBesideSets`).
-/

namespace Sys2Proof.Machine

/-! ### The sets -/

/-- Two states that differ at most in what the pressure sets and the Arbiter write. -/
structure SameBesideSets (s u : State) : Prop where
  now : u.now = s.now
  tanks : u.tanks = s.tanks
  strayTotal : u.strayTotal = s.strayTotal
  inputs : u.inputs = s.inputs
  eval : u.eval = s.eval
  waters : u.waters = s.waters
  startOrder : u.startOrder = s.startOrder
  transfer : u.transfer = s.transfer
  shore : u.shore = s.shore
  power : u.power = s.power
  choices : u.choices = s.choices
  lines : ∀ k : Fin 16, u.lines[k].undrawn = s.lines[k].undrawn
  groups : ∀ g : Fin 6, u.groups[g].unordered = s.groups[g].unordered
  trains : ∀ n : Fin 3, u.trains[n].offFlush = s.trains[n].offFlush
  mode : u.arb.mode = s.arb.mode
  supplyLossHold : u.arb.supplyLossHold = s.arb.supplyLossHold
  setDefs : ∀ x : Fin 2, u.sets.sets[x].defn = s.sets.sets[x].defn
  settings : u.sets.settings = s.sets.settings
  alternationTimer : u.sets.alternationTimer = s.sets.alternationTimer

theorem SameBesideArbiter.besideSets {s u : State} (h : SameBesideArbiter s u) : SameBesideSets s u where
  now := h.now
  tanks := h.tanks
  strayTotal := h.strayTotal
  inputs := h.inputs
  eval := h.eval
  waters := h.waters
  startOrder := h.startOrder
  transfer := h.transfer
  shore := h.shore
  power := h.power
  choices := h.choices
  lines := h.lines
  groups := h.groups
  trains := h.trains
  mode := h.mode
  supplyLossHold := h.supplyLossHold
  setDefs x := by rw [h.sets]
  settings := by rw [h.sets]
  alternationTimer := by rw [h.sets]

theorem SameBesideSets.refl (s : State) : SameBesideSets s s := (SameBesideArbiter.refl s).besideSets

theorem SameBesideSets.trans {s u v : State} (h : SameBesideSets s u) (g : SameBesideSets u v) : SameBesideSets s v where
  now := g.now.trans h.now
  tanks := g.tanks.trans h.tanks
  strayTotal := g.strayTotal.trans h.strayTotal
  inputs := g.inputs.trans h.inputs
  eval := g.eval.trans h.eval
  waters := g.waters.trans h.waters
  startOrder := g.startOrder.trans h.startOrder
  transfer := g.transfer.trans h.transfer
  shore := g.shore.trans h.shore
  power := g.power.trans h.power
  choices := g.choices.trans h.choices
  lines k := (g.lines k).trans (h.lines k)
  groups i := (g.groups i).trans (h.groups i)
  trains n := (g.trains n).trans (h.trains n)
  mode := g.mode.trans h.mode
  supplyLossHold := g.supplyLossHold.trans h.supplyLossHold
  setDefs x := (g.setDefs x).trans (h.setDefs x)
  settings := g.settings.trans h.settings
  alternationTimer := g.alternationTimer.trans h.alternationTimer

theorem SameBesideSets.train_defn {s u : State} (h : SameBesideSets s u) (n : Fin 3) :
    u.trains[n].defn = s.trains[n].defn := by
  have e := congrArg Train.defn (h.trains n)
  exact e

theorem SameBesideSets.train_target {s u : State} (h : SameBesideSets s u) (n : Fin 3) :
    u.trains[n].target = s.trains[n].target := by
  have e := congrArg Train.target (h.trains n)
  exact e

theorem SameBesideSets.train_running {s u : State} (h : SameBesideSets s u) (n : Fin 3) :
    u.trains[n].state.running = s.trains[n].state.running := by
  have e : u.trains[n].state.offFlush = s.trains[n].state.offFlush := congrArg Train.state (h.trains n)
  rw [← running_offFlush, e, running_offFlush]

theorem SameBesideSets.train_state {s u : State} (h : SameBesideSets s u) (n : Fin 3) {target : TrainState}
    (apart : target.running = true ∨ target = .off) : u.trains[n].state = target ↔ s.trains[n].state = target := by
  have e : u.trains[n].state.offFlush = s.trains[n].state.offFlush := congrArg Train.state (h.trains n)
  rw [← offFlush_eq_iff apart, e, offFlush_eq_iff apart]

theorem post_besideSets (n : NoticeBody) (s : State) : SameBesideSets s (post n s) := by
  obtain ⟨_, e⟩ | ⟨_, e⟩ := post_cases n s <;> rw [e] <;> exact { SameBesideSets.refl s with }

/-- The supply state, the grant capacity and the duty set are written; no set's definition is (R126). -/
theorem withSupply_besideSets (s : State) (supply : SupplyState) (capacity : Nat) (duty : Fin 2) : SameBesideSets s
    { s with sets := { s.sets with supply := supply, grantCapacity := capacity, duty := duty } } :=
  { SameBesideSets.refl s with }

theorem modSet_besideSets (s : State) (x : Fin 2) {f : PressureSet → PressureSet}
    (h : ∀ p, (f p).defn = p.defn := by intro _; rfl) :
    SameBesideSets s (s.modSet x f) :=
  { SameBesideSets.refl s with setDefs := upd_view s.sets.sets x h }

theorem withDue_besideSets (s : State) (due : List Due) : SameBesideSets s { s with due := due } :=
  { SameBesideSets.refl s with }

theorem workOutSupply_besideSets (s : State) : SameBesideSets s (workOutSupply s) :=
  (withSupply_besideSets s _ _ _).trans (takeSupply_besideArbiter _ _ _).besideSets

theorem designate_besideSets (cause : ChangeoverCause) (s : State) : SameBesideSets s (designate cause s) := by
  obtain ⟨_, _, e⟩ | e := designate_cases cause s <;> rw [e]
  · exact (withSupply_besideSets s _ _ _).trans (post_besideSets _ _)
  · exact .refl s

theorem startSet_besideSets (x : Fin 2) (s : State) : SameBesideSets s (startSet x s) :=
  (modSet_besideSets s x).trans (withDue_besideSets _ _)

theorem startDuty_besideSets (s : State) : SameBesideSets s (startDuty s) := by
  obtain ⟨_, _, _, e⟩ | e := startDuty_cases s <;> rw [e]
  · exact startSet_besideSets _ s
  · exact .refl s

theorem settleSets_besideSets (cause : ChangeoverCause) (s : State) : SameBesideSets s (settleSets cause s) :=
  (((workOutSupply_besideSets s).trans (designate_besideSets cause _)).trans (startDuty_besideSets _)).trans
    (workOutSupply_besideSets _)

/-- The sets of a state in which every active set has stopped (R130). -/
def stopActive (p : PressureSet) : PressureSet :=
  if p.state == .starting || p.state == .running then stopSet .idle p else p

theorem stopActive_defn (p : PressureSet) : (stopActive p).defn = p.defn := by
  unfold stopActive; split <;> rfl

theorem dutyTankLost_eq (s : State) :
    dutyTankLost s = workOutSupply { s with sets := { s.sets with sets := updAll s.sets.sets fun _ p => stopActive p } } := rfl

theorem dutyTankLost_besideSets (s : State) : SameBesideSets s (dutyTankLost s) := by
  rw [dutyTankLost_eq]
  refine SameBesideSets.trans ?_ (workOutSupply_besideSets _)
  exact { SameBesideSets.refl s with
    setDefs := fun x => by
      have same : (updAll s.sets.sets fun _ p => stopActive p)[x].defn = s.sets.sets[x].defn := by
        rw [updAll_get, stopActive_defn]
      exact same }

theorem dutyTankAppears_besideSets (s : State) : SameBesideSets s (dutyTankAppears s) :=
  (activateRole_besideDraws _ s).toSameBesideArbiter.besideSets.trans (startDuty_besideSets _)

theorem failSet_besideSets (x : Fin 2) (cause : SetFailCause) (timer : Nat) (s : State) :
    SameBesideSets s (failSet x cause timer s) := (modSet_besideSets s x).trans (post_besideSets _ _)

/-! ### The trains -/

/-- A tank record without its list of trains (R15). -/
def Tank.unfilled (k : Tank) : Tank := { k with fillTrains := [] }

/-- What no start, stop, flush or rest writes of a train: its definition, its mode and its totals (R136). -/
structure TrainAccounts where
  defn : TrainDef
  mode : TrainMode
  runningSeconds : Word32
  produced : Word32
  diverted : Word32

def Train.accounts (w : Train) : TrainAccounts := ⟨w.defn, w.mode, w.runningSeconds, w.produced, w.diverted⟩

/-- Two states that differ at most in what the trains and the draws write. -/
structure SameBesideTrains (s u : State) : Prop where
  now : u.now = s.now
  strayTotal : u.strayTotal = s.strayTotal
  inputs : u.inputs = s.inputs
  eval : u.eval = s.eval
  sets : u.sets = s.sets
  waters : u.waters = s.waters
  transfer : u.transfer = s.transfer
  shore : u.shore = s.shore
  out : u.out = s.out
  due : u.due = s.due
  allowance : u.power.allowance = s.power.allowance
  tanks : ∀ t : Fin 12, u.tanks[t].unfilled = s.tanks[t].unfilled
  lines : ∀ k : Fin 16, u.lines[k].undrawn = s.lines[k].undrawn
  groups : ∀ g : Fin 6, u.groups[g].unordered = s.groups[g].unordered
  trains : ∀ n : Fin 3, u.trains[n].accounts = s.trains[n].accounts
  mode : u.arb.mode = s.arb.mode
  supplyLossHold : u.arb.supplyLossHold = s.arb.supplyLossHold
  levelHeld : u.arb.levelHeld = s.arb.levelHeld
  supplyHeld : u.arb.supplyHeld = s.arb.supplyHeld
  capacityHeld : u.arb.capacityHeld = s.arb.capacityHeld
  hold : u.arb.hold = s.arb.hold

theorem SameBesideDraws.besideTrains {s u : State} (h : SameBesideDraws s u) : SameBesideTrains s u where
  now := h.now
  strayTotal := h.strayTotal
  inputs := h.inputs
  eval := h.eval
  sets := h.sets
  waters := h.waters
  transfer := h.transfer
  shore := h.shore
  out := h.out
  due := h.due
  allowance := by rw [h.power]
  tanks t := by rw [h.tanks]
  lines := h.lines
  groups := h.groups
  trains n := by
    have e := congrArg Train.accounts (h.trains n)
    exact e
  mode := h.mode
  supplyLossHold := h.supplyLossHold
  levelHeld := h.levelHeld
  supplyHeld := h.supplyHeld
  capacityHeld := h.capacityHeld
  hold := h.hold

theorem SameBesideTrains.refl (s : State) : SameBesideTrains s s := (SameBesideDraws.refl s).besideTrains

theorem SameBesideTrains.trans {s u v : State} (h : SameBesideTrains s u) (g : SameBesideTrains u v) :
    SameBesideTrains s v where
  now := g.now.trans h.now
  strayTotal := g.strayTotal.trans h.strayTotal
  inputs := g.inputs.trans h.inputs
  eval := g.eval.trans h.eval
  sets := g.sets.trans h.sets
  waters := g.waters.trans h.waters
  transfer := g.transfer.trans h.transfer
  shore := g.shore.trans h.shore
  out := g.out.trans h.out
  due := g.due.trans h.due
  allowance := g.allowance.trans h.allowance
  tanks t := (g.tanks t).trans (h.tanks t)
  lines k := (g.lines k).trans (h.lines k)
  groups i := (g.groups i).trans (h.groups i)
  trains n := (g.trains n).trans (h.trains n)
  mode := g.mode.trans h.mode
  supplyLossHold := g.supplyLossHold.trans h.supplyLossHold
  levelHeld := g.levelHeld.trans h.levelHeld
  supplyHeld := g.supplyHeld.trans h.supplyHeld
  capacityHeld := g.capacityHeld.trans h.capacityHeld
  hold := g.hold.trans h.hold

theorem SameBesideTrains.ite {s u v : State} (b : Prop) [Decidable b] (hu : SameBesideTrains s u)
    (hv : SameBesideTrains s v) : SameBesideTrains s (if b then u else v) := by
  split
  · exact hu
  · exact hv

theorem modTrain_besideTrains (s : State) (n : Fin 3) {f : Train → Train}
    (h : ∀ w, (f w).accounts = w.accounts := by intro _; rfl) :
    SameBesideTrains s (s.modTrain n f) := { SameBesideTrains.refl s with trains := upd_view s.trains n h }

theorem modFillTrains_besideTrains (s : State) (t : Fin 12) (f : Tank → List (Fin 3)) :
    SameBesideTrains s (s.modTank t fun k => { k with fillTrains := f k }) :=
  { SameBesideTrains.refl s with tanks := upd_view s.tanks t fun _ => rfl }

theorem withHolders_besideTrains (s : State) (holders : List Holder) (order : List (Fin 3)) :
    SameBesideTrains s { s with power := { s.power with holders := holders }, startOrder := order } :=
  { SameBesideTrains.refl s with }

theorem post_besideTrains (n : NoticeBody) (s : State) : SameBesideTrains s (post n s) := by
  obtain ⟨_, e⟩ | ⟨_, e⟩ := post_cases n s <;> rw [e] <;> exact { SameBesideTrains.refl s with }

theorem takeChoice_besideTrains (n : Nat) (s : State) : SameBesideTrains s (takeChoice n s).2 :=
  { SameBesideTrains.refl s with }

theorem askFlush_besideTrains (n : Fin 3) (s : State) : SameBesideTrains s (askFlush n s) := by
  obtain ⟨_, _, _, _, e⟩ | e := askFlush_cases n s <;> rw [e]
  · exact (modTrain_besideTrains s n).trans (register_besideDraws _ _ _ _).besideTrains
  · exact .refl s

theorem beginTrain_besideTrains (n : Fin 3) (s : State) : SameBesideTrains s (beginTrain n s) :=
  (modTrain_besideTrains s n).trans (withHolders_besideTrains _ _ _)

theorem startCheck_besideTrains (s : State) : SameBesideTrains s (startCheck s) := by
  obtain ⟨n, _, _, _, _, _, _, e⟩ | e := startCheck_cases s <;> rw [e]
  · exact beginTrain_besideTrains n s
  · exact .refl s

theorem giveUpTarget_besideTrains (n : Fin 3) (s : State) : SameBesideTrains s (giveUpTarget n s) := by
  unfold giveUpTarget; dsimp only; split
  · exact (modFillTrains_besideTrains s _ _).trans (modTrain_besideTrains _ n)
  · exact modTrain_besideTrains s n

theorem releaseHolder_besideTrains (h : Holder) (s : State) : SameBesideTrains s (releaseHolder h s) :=
  withHolders_besideTrains s (s.power.holders.filter (· != h)) s.startOrder

theorem enterFlushWait_besideTrains (n : Fin 3) (remaining : Nat) (s : State) :
    SameBesideTrains s (enterFlushWait n remaining s) :=
  (modTrain_besideTrains s n).trans (askFlush_besideTrains n _)

theorem haltTrain_besideTrains (n : Fin 3) (cause : StopCause) (s : State) : SameBesideTrains s (haltTrain n cause s) :=
  ((((giveUpTarget_besideTrains n s).trans (modTrain_besideTrains _ n)).trans
    (releaseHolder_besideTrains _ _)).trans (enterFlushWait_besideTrains n _ _)).trans (startCheck_besideTrains _)

theorem stopCheck_besideTrains (s : State) : SameBesideTrains s (stopCheck s) :=
  stopCheck_keeps (fun n u h => h.trans (haltTrain_besideTrains n _ u)) s (.refl s)

theorem faultTrain_besideTrains (n : Fin 3) (cause : FaultCause) (s : State) : SameBesideTrains s (faultTrain n cause s) :=
  ((modTrain_besideTrains s n).trans (post_besideTrains _ _)).trans (startCheck_besideTrains _)

theorem restTrain_besideTrains (n : Fin 3) (s : State) : SameBesideTrains s (restTrain n s) :=
  (modTrain_besideTrains s n).trans (startCheck_besideTrains _)

theorem finishFlush_besideTrains (n : Fin 3) (s : State) : SameBesideTrains s (finishFlush n s) := by
  have finished : SameBesideTrains s (s.modTrain n fun w => { w with flushRemaining := 0, flushPlaced := false }) :=
    modTrain_besideTrains s n
  unfold finishFlush; dsimp only; split
  · exact finished.trans (faultTrain_besideTrains n _ _)
  · exact finished.trans (restTrain_besideTrains n _)

theorem flushEnded_besideTrains (cause : EndCause) (delivered : Nat) (n : Fin 3) (s : State) :
    SameBesideTrains s (flushEnded cause delivered n s) := by
  have left : SameBesideTrains s (s.modTrain n fun w =>
      { w with flushRemaining := s.trains[n].flushRemaining - delivered, flushPlaced := false }) :=
    modTrain_besideTrains s n
  have faulted := left.trans (faultTrain_besideTrains n .unflushed _)
  unfold flushEnded; dsimp only; split
  case h_1 => exact .ite _ (finishFlush_besideTrains n s) (enterFlushWait_besideTrains n _ s)
  case h_2 | h_3 => exact faulted
  case h_4 | h_5 | h_6 | h_7 => exact enterFlushWait_besideTrains n _ s
  case h_8 => exact left
  case h_9 => exact .refl s

theorem enterDiverting_besideTrains (n : Fin 3) (s : State) : SameBesideTrains s (enterDiverting n s) :=
  modTrain_besideTrains s n

theorem enterProducing_besideTrains (n : Fin 3) (t : Fin 12) (s : State) : SameBesideTrains s (enterProducing n t s) := by
  have entered : SameBesideTrains s ((s.modTank t fun k => { k with fillTrains := k.fillTrains ++ [n] }).modTrain n fun w =>
      { w with state := .producing, target := some t, producingSince := some s.now, stage := none,
               qualification := .idle, stall := .start w.defn.productStall }) :=
    (modFillTrains_besideTrains s t _).trans (modTrain_besideTrains _ n)
  exact .ite _ (entered.trans (stopCheck_besideTrains _)) entered

theorem holdComplete_besideTrains (n : Fin 3) (s : State) : SameBesideTrains s (holdComplete n s) := by
  unfold holdComplete; split
  · exact enterProducing_besideTrains n _ s
  · exact haltTrain_besideTrains n _ s

theorem excursion_besideTrains (n : Fin 3) (s : State) : SameBesideTrains s (excursion n s) :=
  (giveUpTarget_besideTrains n s).trans (enterDiverting_besideTrains n _)

theorem takeReading_besideTrains (r : Salinity) (n : Fin 3) (s : State) : SameBesideTrains s (takeReading r n s) := by
  have read : SameBesideTrains s (s.modTrain n fun w => { w with reading := r }) := modTrain_besideTrains s n
  have counted (count : Train → Nat) : SameBesideTrains s ((s.modTrain n fun w => { w with reading := r }).modTrain n fun w =>
      { w with qualification := { w.qualification with count := count w } }) :=
    read.trans (modTrain_besideTrains _ n)
  unfold takeReading; dsimp only; split
  · exact .ite _ (.ite _ ((counted _).trans (holdComplete_besideTrains n _)) (counted _)) (counted _)
  · exact .ite _ read (read.trans (excursion_besideTrains n _))
  · exact read

theorem retarget_besideTrains (s : State) (n : Fin 3) : SameBesideTrains s (retarget s n) := by
  unfold retarget; split
  · dsimp only; split
    · exact ((modFillTrains_besideTrains s _ _).trans (modFillTrains_besideTrains _ _ _)).trans
        (modTrain_besideTrains _ n)
    · exact (modFillTrains_besideTrains s _ _).trans (modTrain_besideTrains _ n)
  · exact haltTrain_besideTrains n _ s

theorem retargetAll_besideTrains (s : State) : SameBesideTrains s (retargetAll s) :=
  retargetAll_keeps (fun u n h => h.trans (retarget_besideTrains u n)) (fun u h => h.trans (takeChoice_besideTrains 0 u)) s
    (.refl s)

theorem trainsTake_besideTrains (oldCall : Nat) (oldCandidates : List (Fin 12)) (s : State) :
    SameBesideTrains s (trainsTake oldCall oldCandidates s) :=
  trainsTake_keeps (fun u h => h.trans (startCheck_besideTrains u)) (fun u h => h.trans (stopCheck_besideTrains u))
    (fun u h => h.trans (retargetAll_besideTrains u)) oldCall oldCandidates s (.refl s)

/-! ### The ends of draws -/

theorem endDraw_besideTrains (k : Fin 16) (cause : EndCause) (s : State) : SameBesideTrains s (endDraw k cause s) :=
  endDraw_keeps (fun k c u h => h.trans (closeLine_besideDraws k c u).besideTrains)
    (fun n u h => h.trans (post_besideTrains n u)) (fun c d n u h => h.trans (flushEnded_besideTrains c d n u))
    (fun u h => h.trans (takeChoice_besideTrains 0 u)) (fun u h => h.trans (grantPass_besideDraws u).besideTrains)
    k cause s (.refl s)

theorem handToTrain_besideTrains {f : Fin 3 → State → State} (hf : ∀ n s, SameBesideTrains s (f n s))
    (origin : Option Source) (s : State) : SameBesideTrains s (handToTrain origin f s) := by
  unfold handToTrain; split
  · exact hf _ s
  · exact .refl s

theorem cancelPending_besideTrains (k : Fin 16) (s : State) : SameBesideTrains s (cancelPending k s) := by
  unfold cancelPending; split
  · exact .refl s
  · exact ((withdraw_besideDraws k s).besideTrains.trans (handToTrain_besideTrains (flushEnded_besideTrains _ _) _ _)).trans
      (grantPass_besideDraws _).besideTrains

theorem endSuspended_besideTrains (s : State) : SameBesideTrains s (endSuspended s) :=
  foldl_keeps (fun u k h => h.trans (endDraw_besideTrains k _ u)) _ s (.refl s)

end Sys2Proof.Machine
end


section
/-!
A law under the acts of the tanks, the channels and the inputs. Each of them writes a tank, a channel, an input or a total and then hands
over a tank change, a reading or a litre (R13, R33, R44). `CascadeLaw loose law` lists what such an act needs of a law: `loose` is what is
left of the law while a tank has been written and the change is not yet taken.
-/

namespace Sys2Proof.Machine

/-- What the acts of the tanks, the channels and the inputs need of a law. -/
structure CascadeLaw (loose law : State → Prop) : Prop where
  loosen : ∀ {s}, law s → loose s
  tank : ∀ {s} (t : Fin 12) {f : Tank → Tank}, (f s.tanks[t]).fillTrains = s.tanks[t].fillTrains → loose s →
    loose (s.modTank t f)
  looseInputs : ∀ {s} (inputs : Vector FrequencyInput 16), loose s → loose { s with inputs := inputs }
  looseTotals : ∀ {s} (n : Fin 3) (stall : Train → Timer) (produced diverted : Train → Word32), loose s →
    loose (s.modTrain n fun w => { w with stall := stall w, produced := produced w, diverted := diverted w })
  looseFilled : ∀ {s} (filled : Int), loose s → loose { s with shore := { s.shore with filled := filled } }
  loosePost : ∀ {s} (n : NoticeBody), loose s → loose (post n s)
  inputs : ∀ {s} (inputs : Vector FrequencyInput 16), law s → law { s with inputs := inputs }
  meter : ∀ {s} (m : Fin 24) (f : Meter → Meter), law s → law (s.modMeter m f)
  choice : ∀ {s} (n : Nat), law s → law (takeChoice n s).2
  post : ∀ {s} (n : NoticeBody), law s → law (post n s)
  strayTotal : ∀ {s} (total : Word32), law s → law { s with strayTotal := total }
  totals : ∀ {s} (n : Fin 3) (stall : Train → Timer) (produced diverted : Train → Word32), law s →
    law (s.modTrain n fun w => { w with stall := stall w, produced := produced w, diverted := diverted w })
  moved : ∀ {s} (moved : Int) (stall : Timer), law s →
    law { s with transfer := { s.transfer with moved := moved, stall := stall } }
  head : ∀ {s} (t : Fin 12) (head : Option Nat), law s → law (s.modTank t fun k => { k with levelHead := head })
  evaluateAndTrains : ∀ {s}, loose s → law (evaluateAndTrains s)
  transferShoreTake : ∀ {s}, law s → law (transferShoreTake s)
  takeReading : ∀ {s} (r : Salinity) (n : Fin 3), law s → law (takeReading r n s)
  lineLitre : ∀ {s} (k : Fin 16) (forward : Bool), isFlowing s k = true → law s → law (lineLitre k forward s)

theorem Tank.credit_fillTrains (k : Tank) : k.credit.fillTrains = k.fillTrains := by unfold Tank.credit; split <;> rfl
theorem Tank.debit_fillTrains (k : Tank) : k.debit.fillTrains = k.fillTrains := by unfold Tank.debit; split <;> rfl

/-- A tank without a role holds no train (R5, R15). -/
theorem Tank.fillTrains_of_free {k : Tank} (free : k.holdsRole = false) : k.fillTrains = [] := by
  simp only [Tank.holdsRole, Bool.or_eq_false_iff, Bool.not_eq_false', List.isEmpty_iff] at free
  obtain ⟨⟨⟨_, empty⟩, _⟩, _⟩ := free
  exact empty

theorem ite_keeps {P : State → Prop} {s u : State} (b : Prop) [Decidable b] (hs : P s) (hu : P u) :
    P (if b then s else u) := by
  split
  · exact hs
  · exact hu

namespace CascadeLaw

variable {loose law : State → Prop} (c : CascadeLaw loose law)
include c

theorem tankChange {s : State} (h : loose s) : law (tankChange s) := c.transferShoreTake (c.evaluateAndTrains h)

/-! ### The Tank Inventory -/

theorem book {s : State} (t : Fin 12) (into : Bool) (h : loose s) : loose (book t into s) := by
  refine c.tank t ?_ h
  cases into
  · exact Tank.debit_fillTrains _
  · exact Tank.credit_fillTrains _

theorem seedWith {s : State} (t : Fin 12) (amount : Nat) (origin : SeedOrigin) (h : loose s) :
    law (seedWith t amount origin s) := c.tankChange (c.loosePost _ (c.tank t rfl h))

theorem changeTankState {s : State} (t : Fin 12) (cause : TankCause) {f : Tank → Tank}
    (hf : (f s.tanks[t]).fillTrains = s.tanks[t].fillTrains) (h : loose s) : law (changeTankState t cause f s) :=
  c.tankChange (c.loosePost _ (c.tank t hf h))

theorem applyTankDef {s : State} (t : Fin 12) (d : TankDef) (free : s.tanks[t].holdsRole = false) (h : law s) :
    law (applyTankDef t d s) :=
  ite_keeps _ (c.changeTankState t _ (Tank.fillTrains_of_free free).symm (c.loosen h))
    (ite_keeps _ (c.changeTankState t _ rfl (c.loosen h)) (c.tankChange (c.tank t rfl (c.loosen h))))

theorem removeTankDef {s : State} (t : Fin 12) (free : s.tanks[t].holdsRole = false) (h : law s) :
    law (removeTankDef t s) :=
  ite_keeps _ (c.changeTankState t _ (Tank.fillTrains_of_free free).symm (c.loosen h)) h

theorem levelLost {s : State} (t : Fin 12) (h : loose s) : law (levelLost t s) := c.tankChange (c.tank t rfl h)

theorem loadStrapping {s : State} (t : Fin 12) (points : List StrapPoint) (h : law s) : law (loadStrapping t points s) :=
  c.levelLost t (c.looseInputs _ (c.tank t (f := fun k => { k with strapping := points }) rfl (c.loosen h)))

theorem reconcile {s : State} (t : Fin 12) (lv : Nat) (h : loose s) : loose (reconcile t lv s) := by
  have checked : loose (s.modTank t fun k => { k with agreement := checkedAgreement s.tanks[t] lv }) := c.tank t rfl h
  exact ite_keeps _ (ite_keeps _ (c.loosePost _ checked) (ite_keeps _ (c.loosePost _ checked) checked)) h

theorem takeHead {s : State} (t : Fin 12) (head : Nat) (h : law s) : law (takeHead t head s) := by
  have headed := c.head t (some head) h
  unfold Machine.takeHead; refine ite_keeps _ ?_ h
  split
  · exact headed
  · rename_i lv _
    have levelled : loose ((s.modTank t fun k => { k with levelHead := some head }).modTank t fun k =>
      { k with levelVolume := some lv }) := c.tank t rfl (c.loosen headed)
    exact ite_keeps _ (c.tankChange (c.reconcile t lv levelled)) (c.seedWith t lv _ levelled)

/-! ### The channels -/

theorem strayLitre {s : State} (m : Fin 24) (cause : StrayCause) (forward : Bool) (h : law s) :
    law (strayLitre m cause forward s) :=
  ite_keeps _ (c.strayTotal _ h) (c.post _ (c.meter m _ (c.strayTotal _ h)))

theorem productLitre {s : State} (n : Fin 3) (forward : Bool) (h : law s) : law (productLitre n forward s) := by
  unfold Machine.productLitre; dsimp only; split
  · exact c.tankChange (c.book _ _ (c.looseTotals n _ _ _ (c.loosen h)))
  · exact c.totals n _ _ _ h

theorem transferLitre {s : State} (r : TransferRun) (forward : Bool) (h : law s) : law (transferLitre r forward s) := by
  have drawn := c.evaluateAndTrains (c.book r.source (!forward) (c.loosen h))
  have filled := c.evaluateAndTrains (c.book r.dest forward (c.loosen drawn))
  exact c.transferShoreTake (c.moved _ _ filled)

theorem shoreLitre {s : State} (r : ShoreRun) (forward : Bool) (h : law s) : law (shoreLitre r forward s) :=
  c.tankChange (c.book _ _ (c.looseFilled _ (c.loosen h)))

/-- A litre goes to its role (R33). -/
theorem applyLitre {s : State} (m : Fin 24) (forward : Bool) (h : law s) : law (applyLitre m forward s) := by
  cases role : s.meters[m].defn.role with simp only [Machine.applyLitre, role]
  | none => exact h
  | supply =>
    split
    · exact c.tankChange (c.book _ _ (c.loosen h))
    · exact c.strayLitre m _ forward h
  | product n => exact c.productLitre n forward h
  | transfer =>
    split
    · exact c.transferLitre _ forward h
    · exact c.strayLitre m _ forward h
  | shore =>
    split
    · exact c.shoreLitre _ forward h
    · exact c.strayLitre m _ forward h
  | line k =>
    split
    · rename_i flows
      exact c.lineLitre k forward flows h
    · exact c.strayLitre m _ forward h

theorem takeCount {s : State} (m : Fin 24) (forward : Bool) (h : law s) : law (takeCount m forward s) := by
  unfold Machine.takeCount; split
  · exact c.meter m _ h
  · exact c.applyLitre m _ (c.meter m _ h)

theorem takeEdge {s : State} (m : Fin 24) (a b : Bool) (h : law s) : law (takeEdge m a b s) := by
  obtain ⟨u, hu, e⟩ := takeEdge_cases m a b s
  have chosen : law u := by
    obtain rfl | rfl := hu
    · exact h
    · exact c.choice 2 h
  obtain e | ⟨forward, e⟩ := e <;> rw [e]
  · exact c.meter m _ chosen
  · exact c.takeCount m forward (c.meter m _ chosen)

/-! ### The inputs -/

theorem takeValue {s : State} (i : Fin 16) (u : Nat) (h : law s) : law (takeValue i u s) := by
  unfold Machine.takeValue; dsimp only; split
  · exact h
  · exact c.takeReading _ _ h
  · split
    · exact c.takeHead _ _ (c.inputs _ h)
    · exact c.inputs _ h

theorem handFault {s : State} (i : Fin 16) (h : law s) : law (handFault i s) := by
  unfold Machine.handFault; split
  · exact c.takeReading _ _ h
  · exact h

theorem handFaultEntry {s : State} (i : Fin 16) (h : law s) : law (handFaultEntry i s) := by
  unfold Machine.handFaultEntry; split
  · exact h
  · exact c.levelLost _ (c.loosen h)
  · exact c.takeReading _ _ h

theorem gateEnd {s : State} (i : Fin 16) (f : Nat) (h : law s) : law (gateEnd i f s) := by
  have gated : law (s.modInput i fun x => x.gate f) := c.inputs _ h
  unfold Machine.gateEnd; dsimp only
  refine ite_keeps _ gated (ite_keeps _ (c.handFaultEntry i (c.post _ (c.inputs _ gated)))
    (ite_keeps _ (c.takeValue i _ (c.post _ (c.inputs _ gated))) ?_))
  split
  · exact c.takeValue i _ (c.inputs _ gated)
  · exact c.inputs _ gated
  · exact c.handFault i (c.inputs _ gated)
  · exact c.handFault i (c.inputs _ gated)

theorem applyInputDef {s : State} (i : Fin 16) (d : Option InputRole) (h : law s) : law (applyInputDef i d s) := by
  have givenUp (r : InputRole) (u : State) (hu : law u) : law (giveUpInput r u) := by
    cases r with
    | none => exact hu
    | level t => exact c.levelLost t (c.loosen hu)
    | salinity n => exact c.takeReading _ n hu
  have takenUp (changed : Bool) (st : FaultState) (r : InputRole) (u : State) (hu : law u) :
      law (takeUpInput changed st r u) := by
    cases r with
    | none => exact hu
    | level t => exact c.levelLost t (c.loosen hu)
    | salinity n => exact ite_keeps _ (c.takeReading _ n hu) hu
  have defined : law (s.modInput i fun x => x.define d) := c.inputs _ h
  exact takenUp _ _ _ _ (ite_keeps _ (givenUp _ _ defined) defined)

end CascadeLaw

end Sys2Proof.Machine
end


section
/-!
The law of the pressure sets (R125, R126). Only the sets' own operations write a set or hand a supply to the Arbiter; each of them ends by
working the supply out, which makes the law from what is left of it (`SetsReady`).
-/

namespace Sys2Proof.Machine

/-! ### The supply handed over -/

/-- What the law of the sets looks at is the same: the sets, and the supply and capacity the Arbiter holds. -/
structure SameSupply (s u : State) : Prop where
  sets : u.sets = s.sets
  supplyHeld : u.arb.supplyHeld = s.arb.supplyHeld
  capacityHeld : u.arb.capacityHeld = s.arb.capacityHeld

theorem SameSupply.trans {s u v : State} (h : SameSupply s u) (g : SameSupply u v) : SameSupply s v :=
  ⟨g.sets.trans h.sets, g.supplyHeld.trans h.supplyHeld, g.capacityHeld.trans h.capacityHeld⟩

theorem SameBesideDraws.sameSupply {s u : State} (h : SameBesideDraws s u) : SameSupply s u :=
  ⟨h.sets, h.supplyHeld, h.capacityHeld⟩

theorem SameBesideTrains.sameSupply {s u : State} (h : SameBesideTrains s u) : SameSupply s u :=
  ⟨h.sets, h.supplyHeld, h.capacityHeld⟩

theorem post_sameSupply (n : NoticeBody) (s : State) : SameSupply s (post n s) :=
  ⟨post_sets n s, by rw [post_arb], by rw [post_arb]⟩

theorem takeLevel_sameSupply (level : Nat) (s : State) : SameSupply s (takeLevel level s) := by
  obtain ⟨_, e⟩ | ⟨_, e⟩ := takeLevel_cases level s <;> rw [e]
  · have pass := (grantPass_besideDraws (s.modArb fun a => { a with levelHeld := level })).sameSupply
    exact ⟨pass.sets, pass.supplyHeld, pass.capacityHeld⟩
  · exact ⟨rfl, rfl, rfl⟩

theorem dutySet_congr {s u : State} (h : u.sets = s.sets) : dutySet u = dutySet s :=
  congrArg (fun p : PressureSets => p.sets[p.duty]) h

theorem supplyNow_congr {s u : State} (h : dutySet u = dutySet s) : supplyNow u = supplyNow s := by
  rw [supplyNow, supplyNow, h]

theorem capacityNow_congr {s u : State} (h : dutySet u = dutySet s) (r : u.sets.settings = s.sets.settings) :
    capacityNow u = capacityNow s := by
  rw [capacityNow, capacityNow, supplyNow_congr h, h, r]

theorem supplyNow_eq_up_iff (s : State) : supplyNow s = .up ↔ s.sets.sets[s.sets.duty].state = .running := by
  simp only [supplyNow, dutySet, beq_iff_eq]; split <;> simp_all

theorem capacityNow_of_down {s : State} (h : supplyNow s = .down) : capacityNow s = 0 := by rw [capacityNow, h]

theorem capacityNow_of_up {s : State} (h : supplyNow s = .up) :
    capacityNow s = s.sets.sets[s.sets.duty].defn.capacity - s.sets.settings.reserve := by rw [capacityNow, h]; rfl

/-- After a hand-over the Arbiter holds what was handed over (R117, R119, R120). -/
theorem takeSupply_held {supply : SupplyState} {capacity : Nat} {s : State} (none : supply = .down → capacity = 0)
    (held : s.arb.supplyHeld = .down → s.arb.capacityHeld = 0) :
    (takeSupply supply capacity s).arb.supplyHeld = supply ∧ (takeSupply supply capacity s).arb.capacityHeld = capacity := by
  cases hs : s.arb.supplyHeld with
  | up =>
    cases supply with
    | down =>
      have pass := grantPass_besideDraws ((s.arb.inService.filter (isFlowing s)).foldl (fun st k => suspend k st) s |>.modArb
        fun a => { a with supplyHeld := .down, capacityHeld := 0,
                          hold := if (s.arb.inService.filter (isFlowing s)).isEmpty then a.hold
                            else some (.start a.supplyLossHold) })
      simp only [takeSupply, hs, supplyLost]
      exact ⟨pass.supplyHeld, pass.capacityHeld.trans (none rfl).symm⟩
    | up =>
      simp only [takeSupply, hs]; split
      · exact ⟨hs, ‹_›⟩
      · have made := (preemptUntil_besideDraws (fun s' => flowingFlow s' ≤ s'.arb.capacityHeld)
          (flowingLowestFirst (s.modArb fun a => { a with capacityHeld := capacity }))
          (s.modArb fun a => { a with capacityHeld := capacity })).trans (grantPass_besideDraws _)
        exact ⟨made.supplyHeld.trans hs, made.capacityHeld⟩
  | down =>
    cases supply with
    | down => simp only [takeSupply, hs]; exact ⟨trivial, (held hs).trans (none rfl).symm⟩
    | up =>
      have made := (foldl_besideDraws restoreOne_besideDraws
        ((rankOrder (s.modArb fun a => { a with supplyHeld := .up, capacityHeld := capacity, hold := .none })).filter fun k =>
          (s.modArb fun a => { a with supplyHeld := .up, capacityHeld := capacity, hold := .none }).lines[k].state == .suspended)
        (s.modArb fun a => { a with supplyHeld := .up, capacityHeld := capacity, hold := .none })).trans
        (grantPass_besideDraws _)
      simp only [takeSupply, hs, supplyRestored]
      exact ⟨made.supplyHeld, made.capacityHeld⟩

/-- The sets after the supply has been worked out (R126). -/
theorem workOutSupply_sets (s : State) :
    (workOutSupply s).sets = { s.sets with supply := supplyNow s, grantCapacity := capacityNow s } :=
  (takeSupply_besideArbiter _ _ _).sets

theorem workOutSupply_dutySet (s : State) : dutySet (workOutSupply s) = dutySet s := by
  have e := congrArg (fun p : PressureSets => p.sets[p.duty]) (workOutSupply_sets s)
  exact e

theorem workOutSupply_held {s : State} (held : s.arb.supplyHeld = .down → s.arb.capacityHeld = 0) :
    (workOutSupply s).arb.supplyHeld = supplyNow s ∧ (workOutSupply s).arb.capacityHeld = capacityNow s :=
  takeSupply_held capacityNow_of_down held

/-! ### What is left of the law while a set changes -/

/-- The law of the sets but for the supply state and the grant capacity, which are still to be worked out. -/
structure SetsReady (s : State) : Prop where
  running : ∀ x : Fin 2, s.sets.sets[x].state = .running → x = s.sets.duty
  active : ∀ x : Fin 2, s.sets.sets[x].state = .running ∨ s.sets.sets[x].state = .starting →
    0 < s.sets.sets[x].defn.capacity
  held : s.arb.supplyHeld = .down → s.arb.capacityHeld = 0

theorem SetsLaw.ready {s : State} (h : SetsLaw s) : SetsReady s := by
  obtain ⟨running, active, supply, capacity, supplyHeld, capacityHeld⟩ := h
  exact ⟨running, active, fun down => by
    rw [capacityHeld, capacity, capacityNow_of_down (supply ▸ supplyHeld ▸ down)]⟩

theorem SetsLaw.of_same {s u : State} (h : SetsLaw s) (same : SameSupply s u) : SetsLaw u := by
  obtain ⟨running, active, supply, capacity, supplyHeld, capacityHeld⟩ := h
  refine ⟨?_, ?_, ?_, ?_, ?_, ?_⟩
  · rw [same.sets]; exact running
  · rw [same.sets]; exact active
  · rw [supplyNow_congr (dutySet_congr same.sets), same.sets]; exact supply
  · rw [capacityNow_congr (dutySet_congr same.sets) (by rw [same.sets]), same.sets]; exact capacity
  · rw [same.supplyHeld, same.sets]; exact supplyHeld
  · rw [same.capacityHeld, same.sets]; exact capacityHeld

theorem SetsReady.of_same {s u : State} (h : SetsReady s) (same : SameSupply s u) : SetsReady u := by
  obtain ⟨running, active, held⟩ := h
  refine ⟨?_, ?_, ?_⟩
  · rw [same.sets]; exact running
  · rw [same.sets]; exact active
  · rw [same.supplyHeld, same.capacityHeld]; exact held

/-- Working the supply out completes the law (R126). -/
theorem SetsReady.workOutSupply {s : State} (h : SetsReady s) : SetsLaw (workOutSupply s) := by
  obtain ⟨running, active, held⟩ := h
  obtain ⟨supplyHeld, capacityHeld⟩ := workOutSupply_held held
  have duty := workOutSupply_dutySet s
  have now := supplyNow_congr duty
  have cap := capacityNow_congr duty (by rw [workOutSupply_sets])
  refine ⟨?_, ?_, ?_, ?_, ?_, ?_⟩
  · rw [workOutSupply_sets]; exact running
  · rw [workOutSupply_sets]; exact active
  · rw [now, workOutSupply_sets]
  · rw [cap, workOutSupply_sets]
  · rw [supplyHeld, workOutSupply_sets]
  · rw [capacityHeld, workOutSupply_sets]

theorem eq_otherSet {x y : Fin 2} (h : x ≠ y) : x = otherSet y := by
  revert x y; decide

theorem otherSet_ne (x : Fin 2) : otherSet x ≠ x := by revert x; decide

/-- A set that runs or starts with a capacity is usable (R124). -/
theorem usable_of_active {p : PressureSet} (active : p.state = .running ∨ p.state = .starting) (capacity : 0 < p.defn.capacity) :
    p.usable = true := by
  obtain e | e := active <;> simp [PressureSet.usable, e, capacity]

/-- The designation leaves no duty to a set that runs: the set it takes the duty from is not usable (R124). -/
theorem SetsReady.designate {s : State} (h : SetsReady s) (cause : ChangeoverCause) : SetsReady (designate cause s) := by
  obtain ⟨unusable, _, e⟩ | e := designate_cases cause s <;> rw [e]
  · obtain ⟨running, active, held⟩ := h
    refine SetsReady.of_same (s := { s with sets := { s.sets with duty := otherSet s.sets.duty } }) ⟨fun x runs => ?_, active, held⟩
      (post_sameSupply _ _)
    have duty : x = s.sets.duty := running x runs
    subst duty
    exact absurd (usable_of_active (.inl runs) (active _ (.inl runs))) (by rw [unusable]; simp)
  · exact h

theorem modSet_get (s : State) (x y : Fin 2) (f : PressureSet → PressureSet) :
    (s.modSet x f).sets.sets[y] = if y = x then f s.sets.sets[x] else s.sets.sets[y] := upd_get s.sets.sets x y f

/-- A set changes to a state in which it does not run, and starts only with a capacity. -/
theorem SetsReady.modSet {s : State} (h : SetsReady s) (x : Fin 2) {f : PressureSet → PressureSet}
    (stopped : (f s.sets.sets[x]).state ≠ .running)
    (starts : (f s.sets.sets[x]).state = .starting → 0 < (f s.sets.sets[x]).defn.capacity) : SetsReady (s.modSet x f) := by
  obtain ⟨running, active, held⟩ := h
  refine ⟨fun y runs => ?_, fun y acts => ?_, held⟩
  · rw [modSet_get] at runs; split at runs
    · exact absurd runs stopped
    · exact running y runs
  · rw [modSet_get] at acts ⊢; split at acts
    · obtain runs | starting := acts
      · exact absurd runs stopped
      · rw [if_pos ‹_›]; exact starts starting
    · rw [if_neg ‹_›]; exact active y acts

theorem SetsReady.startSet {s : State} (h : SetsReady s) (x : Fin 2) (usable : s.sets.sets[x].usable = true) :
    SetsReady (startSet x s) := by
  have capacity : 0 < s.sets.sets[x].defn.capacity := by
    simp only [PressureSet.usable, Bool.and_eq_true, decide_eq_true_eq] at usable; exact usable.1
  exact (h.modSet x (f := fun p => { p with state := .starting, startTimer := .start s.sets.settings.startProof })
    (by simp) fun _ => capacity).of_same ⟨rfl, rfl, rfl⟩

theorem startSet_dutySet (x : Fin 2) (s : State) : dutySet (startSet x s) =
    if s.sets.duty = x then { s.sets.sets[x] with state := .starting, startTimer := .start s.sets.settings.startProof }
    else dutySet s :=
  modSet_get s x s.sets.duty _

/-- An idle set that starts has not proved; the supply stands (R125). -/
theorem startSet_supplyNow {x : Fin 2} {s : State} (idle : s.sets.sets[x].state = .idle) :
    supplyNow (startSet x s) = supplyNow s ∧ capacityNow (startSet x s) = capacityNow s := by
  simp only [capacityNow, supplyNow, startSet_dutySet]
  split
  · subst x
    have stands : (dutySet s).state = .idle := idle
    simp [stands]
  · exact ⟨rfl, rfl⟩

theorem SetsLaw.startSet {s : State} (h : SetsLaw s) (x : Fin 2) (idle : s.sets.sets[x].state = .idle)
    (usable : s.sets.sets[x].usable = true) : SetsLaw (startSet x s) := by
  have ready := h.ready.startSet x usable
  obtain ⟨supplied, capacity⟩ := startSet_supplyNow idle
  obtain ⟨_, _, supply, cap, supplyHeld, capacityHeld⟩ := h
  exact ⟨ready.running, ready.active, supply.trans supplied.symm, cap.trans capacity.symm, supplyHeld, capacityHeld⟩

theorem SetsLaw.startDuty {s : State} (h : SetsLaw s) : SetsLaw (startDuty s) := by
  obtain ⟨_, idle, usable, e⟩ | e := startDuty_cases s <;> rw [e]
  · exact h.startSet _ idle usable
  · exact h

theorem SetsReady.startDuty {s : State} (h : SetsReady s) : SetsReady (startDuty s) := by
  obtain ⟨_, _, usable, e⟩ | e := startDuty_cases s <;> rw [e]
  · exact h.startSet _ usable
  · exact h

theorem SetsReady.settleSets {s : State} (h : SetsReady s) (cause : ChangeoverCause) : SetsLaw (settleSets cause s) :=
  (h.workOutSupply.ready.designate cause).startDuty.workOutSupply

theorem SetsReady.dutyTankLost {s : State} (h : SetsReady s) : SetsLaw (dutyTankLost s) := by
  rw [dutyTankLost_eq]
  refine SetsReady.workOutSupply ⟨fun x runs => ?_, fun x acts => ?_, h.held⟩
  · exact absurd runs (by
      rw [updAll_get]; unfold stopActive; split
      · simp [stopSet]
      · simp_all)
  · exact absurd acts (by
      rw [updAll_get]; unfold stopActive; split
      · simp [stopSet]
      · simp_all)

theorem SetsLaw.dutyTankAppears {s : State} (h : SetsLaw s) : SetsLaw (dutyTankAppears s) :=
  (h.of_same (activateRole_besideDraws _ s).sameSupply).startDuty

end Sys2Proof.Machine
end


section
/-!
The law of the pressure sets is kept by every act (R125, R126).
-/

namespace Sys2Proof.Machine

/-! ### Duty selections -/

/-- What a duty flag, a figure of the Evaluator, a notice and the two hand-overs to the sets keep, a duty selection keeps (R69). -/
theorem applyDuty_keeps {P : State → Prop} (hflag : ∀ t on s, P s → P (setDutyFlag t on s))
    (heval : ∀ (duty : Option (Fin 12)) s, P s → P (s.modEval fun e => { e with dutyTank := duty }))
    (hpost : ∀ n s, P s → P (post n s)) (happears : ∀ s, P s → P (dutyTankAppears s)) (hlost : ∀ s, P s → P (dutyTankLost s))
    (cause : DutyCause) (chosen : Option (Fin 12)) (s : State) (h : P s) : P (applyDuty cause chosen s) := by
  have cleared (old : Option (Fin 12)) : P (clearOldDuty old s) := by
    cases old with
    | none => exact h
    | some t => exact hflag t false s h
  unfold applyDuty; dsimp only; split
  · have duty (t : Fin 12) : P (post (.dutyChanged t cause s.eval.dutyTank) ((setDutyFlag t true
        (clearOldDuty s.eval.dutyTank s)).modEval fun e => { e with dutyTank := some t })) :=
      hpost _ _ (heval _ _ (hflag _ _ _ (cleared _)))
    exact ite_keeps _ h (ite_keeps _ (happears _ (duty _)) (duty _))
  · split
    · exact h
    · exact hlost _ (hpost _ _ (heval _ _ (hflag _ _ _ h)))

theorem setDutyFlag_sameSupply (t : Fin 12) (on : Bool) (s : State) : SameSupply s (setDutyFlag t on s) := ⟨rfl, rfl, rfl⟩

theorem workOutLevel_sameSupply (cause : LevelCause) (s : State) : SameSupply s (workOutLevel cause s) := by
  obtain ⟨_, e⟩ | ⟨_, e⟩ := workOutLevel_cases cause s <;> rw [e]
  · exact ⟨rfl, rfl, rfl⟩
  · exact SameSupply.trans (u := s.modEval fun e => { e with level := max s.eval.computed s.eval.floor }) ⟨rfl, rfl, rfl⟩
      ((post_sameSupply _ _).trans (takeLevel_sameSupply _ _))

theorem modEval_sameSupply (s : State) (f : Evaluator → Evaluator) : SameSupply s (s.modEval f) := ⟨rfl, rfl, rfl⟩

theorem workOutComputed_sameSupply (cause : LevelCause) (s : State) : SameSupply s (workOutComputed cause s) :=
  (modEval_sameSupply s _).trans (workOutLevel_sameSupply cause _)

theorem SetsLaw.applyDuty {s : State} (h : SetsLaw s) (cause : DutyCause) (chosen : Option (Fin 12)) :
    SetsLaw (applyDuty cause chosen s) :=
  applyDuty_keeps (fun t on u hu => hu.of_same (setDutyFlag_sameSupply t on u)) (fun _ _ hu => hu.of_same ⟨rfl, rfl, rfl⟩)
    (fun n u hu => hu.of_same (post_sameSupply n u)) (fun _ hu => hu.dutyTankAppears) (fun _ hu => hu.ready.dutyTankLost)
    cause chosen s h

theorem SetsLaw.evaluate {s : State} (h : SetsLaw s) : SetsLaw (evaluate s) :=
  evaluate_keeps (fun _ _ hu => hu.of_same ⟨rfl, rfl, rfl⟩) (fun u hu => hu.of_same (workOutLevel_sameSupply _ u))
    (fun cause _ _ hu => hu.applyDuty cause _) s h

/-! ### The Transfer and Shore Unit -/

theorem beginTransfer_sameSupply (origin : TransferOrigin) (src dst : Fin 12) (litres : Nat) (s : State) :
    SameSupply s (beginTransfer origin src dst litres s) := ⟨rfl, rfl, rfl⟩

theorem startCheck_sameSupply (s : State) : SameSupply s (startCheck s) := (startCheck_besideTrains s).sameSupply

theorem endTransfer_sameSupply (cause : TransferCause) (s : State) : SameSupply s (endTransfer cause s) := by
  unfold endTransfer; split
  · exact ⟨rfl, rfl, rfl⟩
  · rename_i r _
    refine SameSupply.trans (u := { releaseHolder .pump ((s.modTank r.source fun k => { k with transferRole := .none }).modTank
      r.dest fun k => { k with transferRole := .none }) with
        transfer := { s.transfer with run := none, lastEnd := some ⟨cause, r.source, r.dest, s.transfer.moved⟩ } })
      ⟨rfl, rfl, rfl⟩ ((post_sameSupply _ _).trans (startCheck_sameSupply _))

theorem endShore_sameSupply (cause : ShoreCause) (s : State) : SameSupply s (endShore cause s) := by
  unfold endShore; split
  · exact ⟨rfl, rfl, rfl⟩
  · rename_i r _
    exact SameSupply.trans (u := { s.modTank r.target fun k => { k with shoreTarget := false } with
      shore := { run := none, filled := s.shore.filled, lastEnd := some ⟨cause, r.target, s.shore.filled⟩ } })
      ⟨rfl, rfl, rfl⟩ (post_sameSupply _ _)

theorem balanceReview_sameSupply (s : State) : SameSupply s (balanceReview s) := by
  unfold balanceReview; split
  · split
    · split
      · exact beginTransfer_sameSupply _ _ _ _ s
      · exact ⟨rfl, rfl, rfl⟩
    · exact ⟨rfl, rfl, rfl⟩
  · exact ⟨rfl, rfl, rfl⟩

theorem allowanceChanged_sameSupply (cause : ShedCause) (old : Nat) (s : State) : SameSupply s (allowanceChanged cause old s) :=
  allowanceChanged_keeps (P := SameSupply s) (fun n u hu => hu.trans (post_sameSupply n u))
    (fun u hu => hu.trans (endTransfer_sameSupply _ u)) (fun n u hu => hu.trans (haltTrain_besideTrains n _ u).sameSupply)
    (fun u hu => hu.trans (startCheck_sameSupply u)) cause old s ⟨rfl, rfl, rfl⟩

theorem lineLitre_sameSupply (k : Fin 16) (forward : Bool) (s : State) : SameSupply s (lineLitre k forward s) := by
  have counted : SameSupply s (s.modDraw k fun d => { d with delivered := deliveredAfter d.delivered forward, stall := 0 }) :=
    ⟨rfl, rfl, rfl⟩
  unfold lineLitre; dsimp only; split
  · split
    · exact counted.trans (endDraw_besideTrains k _ _).sameSupply
    · exact counted
  · exact counted

/-- The law of the sets under the acts of the tanks, the channels and the inputs. -/
theorem setsCascade : CascadeLaw SetsLaw SetsLaw where
  loosen h := h
  tank _ _ _ h := h.of_same ⟨rfl, rfl, rfl⟩
  looseInputs _ h := h.of_same ⟨rfl, rfl, rfl⟩
  looseTotals _ _ _ _ h := h.of_same ⟨rfl, rfl, rfl⟩
  looseFilled _ h := h.of_same ⟨rfl, rfl, rfl⟩
  loosePost n h := h.of_same (post_sameSupply n _)
  inputs _ h := h.of_same ⟨rfl, rfl, rfl⟩
  meter _ _ h := h.of_same ⟨rfl, rfl, rfl⟩
  choice _ h := h.of_same ⟨rfl, rfl, rfl⟩
  post n h := h.of_same (post_sameSupply n _)
  strayTotal _ h := h.of_same ⟨rfl, rfl, rfl⟩
  totals _ _ _ _ h := h.of_same ⟨rfl, rfl, rfl⟩
  moved _ _ h := h.of_same ⟨rfl, rfl, rfl⟩
  head _ _ h := h.of_same ⟨rfl, rfl, rfl⟩
  evaluateAndTrains h := h.evaluate.of_same (trainsTake_besideTrains _ _ _).sameSupply
  transferShoreTake h := transferShoreTake_keeps (fun cause u hu => hu.of_same (endTransfer_sameSupply cause u))
    (fun cause u hu => hu.of_same (endShore_sameSupply cause u)) (fun _ hu => hu.of_same ⟨rfl, rfl, rfl⟩) _ h
  takeReading r n h := h.of_same (takeReading_besideTrains r n _).sameSupply
  lineLitre k forward _ h := h.of_same (lineLitre_sameSupply k forward _)

/-! ### The sets' own events and requests -/

theorem SetsReady.failSet {s : State} (h : SetsReady s) (x : Fin 2) (cause : SetFailCause) (timer : Nat) :
    SetsReady (failSet x cause timer s) :=
  (h.modSet x (f := fun p => { p with state := .failed }) (by simp) (by simp)).of_same (post_sameSupply _ _)

theorem SetsReady.stopSet {s : State} (h : SetsReady s) (x : Fin 2) {stopped : SetState} (still : stopped ≠ .running)
    (rests : stopped ≠ .starting) : SetsReady (s.modSet x (stopSet stopped)) :=
  h.modSet x still fun starts => absurd starts rests

/-- A starting set is proved: it runs as the duty set, the old one stopped (R125, R129). -/
theorem SetsLaw.setProves {s : State} (h : SetsLaw s) (x : Fin 2) (starts : s.sets.sets[x].state = .starting) :
    SetsLaw (setProves x s) := by
  obtain ⟨running, active, held⟩ := h.ready
  have capacity : 0 < s.sets.sets[x].defn.capacity := active x (.inr starts)
  unfold Machine.setProves; dsimp only; split
  · rename_i duty
    refine SetsReady.workOutSupply ⟨fun y runs => ?_, fun y acts => ?_, held⟩
    · rw [modSet_get] at runs; split at runs
      · rename_i same; rw [same]; exact duty
      · exact running y runs
    · rw [modSet_get] at acts ⊢; split
      · exact capacity
      · rename_i other
        rw [if_neg other] at acts; exact active y acts
  · rename_i standby
    refine SetsReady.workOutSupply (SetsReady.of_same (s := { (s.modSet x fun p => { p with state := .running, lossTimer := 0 }).modSet
      s.sets.duty (fun p => { p with state := .idle, lossTimer := 0 }) with sets := { ((s.modSet x fun p =>
        { p with state := .running, lossTimer := 0 }).modSet s.sets.duty fun p => { p with state := .idle, lossTimer := 0 }).sets
          with duty := x } }) ⟨fun y runs => ?_, fun y acts => ?_, held⟩ (post_sameSupply _ _))
    · have get := modSet_get (s.modSet x fun p => { p with state := .running, lossTimer := 0 }) s.sets.duty y
        fun p => { p with state := .idle, lossTimer := 0 }
      refine Decidable.byContradiction fun other => ?_
      have duty : y = s.sets.duty := by rw [eq_otherSet other, eq_otherSet (Ne.symm standby)]
      rw [if_pos duty] at get
      exact absurd runs (by dsimp only; rw [get]; simp)
    · have get := modSet_get (s.modSet x fun p => { p with state := .running, lossTimer := 0 }) s.sets.duty y
        fun p => { p with state := .idle, lossTimer := 0 }
      rw [modSet_get s x y] at get
      dsimp only at acts ⊢; rw [get] at acts ⊢
      split
      · rename_i duty; rw [if_pos duty] at acts; simp at acts
      · split
        · exact capacity
        · rename_i other duty
          rw [if_neg other, if_neg duty] at acts; exact active y acts

theorem SetsLaw.alternates {s : State} (h : SetsLaw s) : SetsLaw (alternates s) := by
  unfold Machine.alternates; dsimp only
  have renewed (timer : Option Timer) : SetsLaw { s with sets := { s.sets with alternationTimer := timer } } := h
  unfold tryAlternation; dsimp only; split
  · rename_i free
    simp only [Bool.and_eq_true, beq_iff_eq] at free
    exact (renewed _).startSet _ free.1.2 free.2
  · exact renewed _

/-- A DEFINE SETS leaves an active set its capacity (R133). -/
theorem SetsReady.writeSets {s : State} (h : SetsReady s) {body : List Byte} (keeps : zeroesActive s body = false) :
    SetsReady (writeSets body s) := by
  obtain ⟨running, active, held⟩ := h
  refine ⟨fun x runs => ?_, fun x acts => ?_, held⟩
  · simp only [Machine.writeSets, updAll_get] at runs; exact running x runs
  · simp only [Machine.writeSets, updAll_get] at acts ⊢
    simp only [zeroesActive, List.any_eq_false, Bool.and_eq_true, Bool.or_eq_true, beq_iff_eq, not_and] at keeps
    exact Nat.pos_of_ne_zero (keeps x (List.mem_finRange x) acts.symm)

theorem SetsLaw.applySets {s : State} (h : SetsLaw s) {body : List Byte} (keeps : zeroesActive s body = false) :
    SetsLaw (applySets body s) :=
  ((h.ready.writeSets keeps).settleSets _).of_same (allowanceChanged_sameSupply _ _ _)

theorem PressureSet.tick_state (closed waits : Bool) (p : PressureSet) : (p.tick closed waits).state = p.state := by
  unfold PressureSet.tick; split <;> simp_all

theorem PressureSet.tick_defn (closed waits : Bool) (p : PressureSet) : (p.tick closed waits).defn = p.defn := by
  unfold PressureSet.tick; split <;> rfl

/-- A tick moves a set's timers and its sample alone (R125, R127). -/
theorem SetsLaw.tick {s : State} (h : SetsLaw s) (contacts : BitVec 16) (proofs : BitVec 2) (loc : Bool) :
    SetsLaw (tick contacts proofs loc s) := by
  have get (x : Fin 2) : (Machine.tick contacts proofs loc s).sets.sets[x] =
      s.sets.sets[x].tick (proofs.getLsb x) (lossWaits s x) := by
    simp only [Machine.tick, advance, updAll_get]
  have duty : dutySet (Machine.tick contacts proofs loc s) = (dutySet s).tick (proofs.getLsb s.sets.duty) (lossWaits s s.sets.duty) :=
    get s.sets.duty
  have supplied : supplyNow (Machine.tick contacts proofs loc s) = supplyNow s := by
    simp only [supplyNow, duty, PressureSet.tick_state]
  have capacity : capacityNow (Machine.tick contacts proofs loc s) = capacityNow s := by
    simp only [capacityNow, supplied, duty, PressureSet.tick_defn]; rfl
  obtain ⟨running, active, supply, cap, supplyHeld, capacityHeld⟩ := h
  refine ⟨fun x => ?_, fun x => ?_, supply.trans supplied.symm, cap.trans capacity.symm, supplyHeld, capacityHeld⟩
  · rw [get, PressureSet.tick_state]; exact running x
  · rw [get, PressureSet.tick_state, PressureSet.tick_defn]; exact active x

theorem stateFrom_setsLaw (image : Image) (defaulted : Bool) (a b : BitVec 24) (loc : Bool) (s : State) :
    SetsLaw (stateFrom image defaulted a b loc s) := by
  have idle (x : Fin 2) : (stateFrom image defaulted a b loc s).sets.sets[x].state = .idle := by
    match x with
    | 0 => rfl
    | 1 => rfl
  have down : supplyNow (stateFrom image defaulted a b loc s) = .down := by rw [supplyNow, dutySet, idle]; rfl
  refine ⟨fun x runs => ?_, fun x acts => ?_, down.symm, (capacityNow_of_down down).symm, rfl, rfl⟩
  · rw [idle] at runs; cases runs
  · rw [idle] at acts; simp at acts

/-! ### Every act -/

theorem modLink_sameSupply (s : State) (f : Link → Link) : SameSupply s (s.modLink f) := ⟨rfl, rfl, rfl⟩

theorem modLine_sameSupply (s : State) (k : Fin 16) (f : DrawLine → DrawLine) : SameSupply s (s.modLine k f) := ⟨rfl, rfl, rfl⟩

theorem modGroup_sameSupply (s : State) (g : Fin 6) (f : Group → Group) : SameSupply s (s.modGroup g f) := ⟨rfl, rfl, rfl⟩

theorem modTrain_sameSupply (s : State) (n : Fin 3) (f : Train → Train) : SameSupply s (s.modTrain n f) := ⟨rfl, rfl, rfl⟩

theorem SameSupply.refl (s : State) : SameSupply s s := ⟨rfl, rfl, rfl⟩

theorem SameSupply.ite {s u v : State} (b : Prop) [Decidable b] (hu : SameSupply s u) (hv : SameSupply s v) :
    SameSupply s (if b then u else v) := ite_keeps b hu hv

theorem grantPass_sameSupply (s : State) : SameSupply s (grantPass s) := (grantPass_besideDraws s).sameSupply

theorem register_sameSupply (k : Fin 16) (q : Option Nat) (o : Source) (s : State) : SameSupply s (register k q o s) :=
  (register_besideDraws k q o s).sameSupply

theorem haltTrain_sameSupply (n : Fin 3) (cause : StopCause) (s : State) : SameSupply s (haltTrain n cause s) :=
  (haltTrain_besideTrains n cause s).sameSupply

theorem stopCheck_sameSupply (s : State) : SameSupply s (stopCheck s) := (stopCheck_besideTrains s).sameSupply

theorem endDraw_sameSupply (k : Fin 16) (cause : EndCause) (s : State) : SameSupply s (endDraw k cause s) :=
  (endDraw_besideTrains k cause s).sameSupply

theorem foldl_sameSupply {α : Type} {f : State → α → State} (hf : ∀ s a, SameSupply s (f s a)) (l : List α) (s : State) :
    SameSupply s (l.foldl f s) := foldl_keeps (P := SameSupply s) (fun u a hu => hu.trans (hf u a)) l s (.refl s)

theorem applyMeterDef_sameSupply (m : Fin 24) (d : Option MeterDef) (s : State) : SameSupply s (applyMeterDef m d s) := by
  have fresh : SameSupply s (s.modMeter m fun c => .fresh d c.phaseA c.phaseB) := ⟨rfl, rfl, rfl⟩
  refine fresh.trans (.ite _ (.refl _) ?_)
  cases lineOfRole s.meters[m].defn.role with
  | none =>
    cases lineOfRole (d.getD .default).role with
    | none => exact .refl _
    | some k => exact modLine_sameSupply _ k _
  | some j =>
    cases lineOfRole (d.getD .default).role with
    | none => exact modLine_sameSupply _ j _
    | some k => exact (modLine_sameSupply _ j _).trans (modLine_sameSupply _ k _)

theorem defineLine_sameSupply (d : LineDef) (s : State) (k : Fin 16) : SameSupply s (defineLine d s k) :=
  .ite _ (.trans (modLine_sameSupply s k _) (.ite _ (.refl _) ⟨rfl, rfl, rfl⟩)) ⟨rfl, rfl, rfl⟩

theorem removeLine_sameSupply (s : State) (k : Fin 16) : SameSupply s (removeLine s k) := .ite _ ⟨rfl, rfl, rfl⟩ (.refl s)

theorem applyTrainMode_sameSupply (n : Fin 3) (mode : TrainMode) (s : State) : SameSupply s (applyTrainMode n mode s) := by
  have written := modTrain_sameSupply s n fun w => { w with mode := mode }
  have halted := SameSupply.ite (mode = .disabled && s.trains[n].state.running)
    (written.trans (haltTrain_sameSupply n .modeDisabled _)) written
  exact .ite _ halted ((halted.trans (startCheck_sameSupply _)).trans (stopCheck_sameSupply _))

theorem changeWaters_sameSupply (w : Waters) (s : State) : SameSupply s (changeWaters w s) := by
  have written : SameSupply s { s with waters := w } := ⟨rfl, rfl, rfl⟩
  have halted (u : State) (n : Fin 3) : SameSupply u (haltRunning .restricted u n) :=
    .ite _ (haltTrain_sameSupply n _ u) (.refl u)
  cases w with
  | restricted => exact written.trans (foldl_sameSupply halted _ _)
  | opened => exact written.trans (startCheck_sameSupply _)

theorem applyProductionBands_sameSupply (bands : List Nat) (hysteresis : Nat) (s : State) :
    SameSupply s (applyProductionBands bands hysteresis s) := by
  have worked := (modEval_sameSupply s fun e =>
    { e with settings := { e.settings with productionBands := bands, productionHysteresis := hysteresis } }).trans
    (modEval_sameSupply _ _ : SameSupply _ (workOutCall _))
  exact .ite _ worked ((worked.trans (startCheck_sameSupply _)).trans (stopCheck_sameSupply _))

theorem applyMask_sameSupply (ks : List (Fin 16)) (setting : Bool) (s : State) : SameSupply s (applyMask ks setting s) := by
  have masked : SameSupply s { s with lines := updAll s.lines fun k l => if ks.contains k then { l with masked := setting } else l } :=
    ⟨rfl, rfl, rfl⟩
  exact .ite _ (masked.trans (grantPass_sameSupply _)) masked

theorem applyMode_sameSupply (mode : ArbiterMode) (s : State) : SameSupply s (applyMode mode s) := by
  have set : SameSupply s (s.modArb fun a => { a with mode := mode }) := ⟨rfl, rfl, rfl⟩
  exact .ite _ (.refl s) (set.trans (grantPass_sameSupply _))

theorem applyAllowance_sameSupply (allowance : Nat) (s : State) : SameSupply s (applyAllowance allowance s) := by
  have written : SameSupply s { s with power := { s.power with allowance := allowance } } := ⟨rfl, rfl, rfl⟩
  exact written.trans (allowanceChanged_sameSupply _ _ _)

theorem ageDraw_sameSupply (k : Fin 16) (s : State) : SameSupply s (ageDraw k s) :=
  (((modLine_sameSupply s k _).trans (modGroup_sameSupply _ _ _)).trans (refreshPending_besideDraws _).sameSupply).trans
    (post_sameSupply _ _)

theorem contactReleased_sameSupply (k : Fin 16) (s : State) : SameSupply s (contactReleased k s) := by
  have opened := modLine_sameSupply s k fun l => { l with asserted := false }
  exact .ite _ (.ite _ ((opened.trans (withdraw_besideDraws k _).sameSupply).trans (grantPass_sameSupply _))
    (.ite _ (opened.trans (modLine_sameSupply _ k _)) opened)) opened

theorem holdExpires_sameSupply (s : State) : SameSupply s (holdExpires s) :=
  (SameSupply.ite _ (endSuspended_besideTrains s).sameSupply (.refl s)).trans ⟨rfl, rfl, rfl⟩

theorem writeCompletes_sameSupply (good : Bool) (s : State) : SameSupply s (writeCompletes good s) := by
  obtain ⟨_, e⟩ | ⟨image, _, e⟩ := writeCompletes_cases good s <;> rw [e]
  · exact .refl s
  · split
    · exact (modLink_sameSupply s _).trans (post_sameSupply _ _)
    · exact (modLink_sameSupply s _).trans (post_sameSupply _ _)

theorem Act.keeps_setsLaw {s u : State} (act : Act s u) (h : SetsLaw s) : SetsLaw u := by
  have c := setsCascade
  cases act with
  | tankRemoved t free => exact c.removeTankDef t free h
  | tankDefined t d free => exact c.applyTankDef t d free h
  | strappingLoaded t points => exact c.loadStrapping t points h
  | inputDefined i d => exact c.applyInputDef i d h
  | tankSeeded t amount origin => exact c.seedWith t amount origin h
  | tankServed t wanted => exact c.changeTankState t .service rfl h
  | edgeTaken m a b => exact c.takeEdge m a b h
  | gateEnded i f => exact c.gateEnd i f h
  | setsDefined body keeps => exact h.applySets keeps
  | setServedIn x =>
    exact ite_keeps _ ((h.ready.stopSet x (by simp) (by simp)).settleSets _) h
  | setServedOut x =>
    exact ite_keeps _ h ((h.ready.stopSet x (by simp) (by simp)).settleSets _)
  | setReset x failed => exact (h.ready.stopSet x (by simp) (by simp)).settleSets _
  | setProved x starts => exact h.setProves x starts
  | setStartFailed x => exact (h.ready.failSet x _ _).settleSets _
  | setProofLost x => exact (h.ready.failSet x _ _).settleSets _
  | alternated => exact h.alternates
  | poweredOn good a b loc =>
    obtain ⟨image, _, _, e⟩ | e := powerOn_cases good a b loc s <;> rw [e] <;> exact stateFrom_setsLaw _ _ _ _ _ s
  | ticked contacts proofs loc => exact h.tick contacts proofs loc
  | balanceIsReviewed =>
    refine SetsLaw.of_same ?_ (balanceReview_sameSupply _)
    have reset : SetsLaw (s.modEval fun e => { e with reviewTimer := 0 }) := h.of_same (modEval_sameSupply s _)
    exact ite_keeps _ (reset.applyDuty _ _) reset
  | unchanged => exact h
  | noticesFetched | snapshotSet | triggerSet | saveStarted | authorityChanged => exact h.of_same (modLink_sameSupply s _)
  | meterRemoved m | meterDefined m => exact h.of_same (applyMeterDef_sameSupply m _ s)
  | linesRemoved ks => exact h.of_same (foldl_sameSupply removeLine_sameSupply ks s)
  | linesDefined ks d => exact h.of_same (foldl_sameSupply (defineLine_sameSupply d) ks s)
  | groupDefined g =>
    exact h.of_same (.ite _ (modGroup_sameSupply s g _) ((modGroup_sameSupply s g _).trans (grantPass_sameSupply _)))
  | supplyBandsSet => exact h.of_same ((modEval_sameSupply s _).trans (workOutComputed_sameSupply _ _))
  | productionBandsSet =>
    exact h.of_same (applyProductionBands_sameSupply _ _ s)
  | balanceSet => exact h.of_same (modEval_sameSupply s _)
  | trainDefined n => exact h.of_same ((modTrain_sameSupply s n _).trans (startCheck_sameSupply _))
  | pumpDefined => exact h
  | drawn k => exact h.of_same (register_sameSupply k _ _ s)
  | pendingCancelled k => exact h.of_same (cancelPending_besideTrains k s).sameSupply
  | drawEnded k | openDrawEnded k => exact h.of_same (endDraw_sameSupply k _ s)
  | linesMasked => exact h.of_same (applyMask_sameSupply _ _ s)
  | rotationSet => exact h
  | modeSet mode => exact h.of_same (applyMode_sameSupply mode s)
  | dispatched k => exact h.of_same (grant_besideDraws k s).sameSupply
  | lineReset k => exact h.of_same (modLine_sameSupply s k _)
  | trainModeSet n mode => exact h.of_same (applyTrainMode_sameSupply n mode s)
  | trainStarted n => exact h.of_same (beginTrain_besideTrains n s).sameSupply
  | trainStopped n cause => exact h.of_same (haltTrain_sameSupply n cause s)
  | trainFlushed n => exact h.of_same ((modTrain_sameSupply s n _).trans (enterFlushWait_besideTrains n _ _).sameSupply)
  | faultFlushed n => exact h.of_same ((modTrain_sameSupply s n _).trans (askFlush_besideTrains n _).sameSupply)
  | trainReset n => exact h.of_same ((modTrain_sameSupply s n _).trans (restTrain_besideTrains n _).sameSupply)
  | watersChanged w => exact h.of_same (changeWaters_sameSupply w s)
  | floorSet => exact h.of_same ((modEval_sameSupply s _).trans (workOutLevel_sameSupply _ _))
  | allowanceSet => exact h.of_same (applyAllowance_sameSupply _ s)
  | transferStarted src dst litres => exact h.of_same (beginTransfer_sameSupply _ src dst litres s)
  | transferEnded cause => exact h.of_same (endTransfer_sameSupply cause s)
  | shoreStarted => exact h
  | shoreEnded => exact h.of_same (endShore_sameSupply _ s)
  | writeCompleted good => exact h.of_same (writeCompletes_sameSupply good s)
  | contactAsserts k =>
    exact h.of_same (.ite _ ((modLine_sameSupply s k _).trans (register_sameSupply k _ _ _)) (modLine_sameSupply s k _))
  | contactReleases k => exact h.of_same (contactReleased_sameSupply k s)
  | drawAges k => exact h.of_same (ageDraw_sameSupply k s)
  | holdExpired => exact h.of_same (holdExpires_sameSupply s)
  | trainPrimed n | trainRamped n => exact h.of_same ((modTrain_sameSupply s n _).trans (startCheck_sameSupply _))
  | stopsChecked => exact h.of_same (stopCheck_sameSupply s)
  | flushAsked n => exact h.of_same (askFlush_besideTrains n s).sameSupply
  | flushWaitOver n => exact h.of_same (faultTrain_besideTrains n _ s).sameSupply
  | trainRested n => exact h.of_same ((modTrain_sameSupply s n _).trans (startCheck_sameSupply _))

theorem SetsLaw.step {s t : State} (h : SetsLaw s) (hstep : step s = .next t) : SetsLaw t :=
  step_keeps_of_acts (fun _ _ hs => hs) (fun _ hs => hs)
    (fun ln f u hu => hu.of_same ⟨modSerial_sets u ln f, by rw [modSerial_arb], by rw [modSerial_arb]⟩)
    (fun _ _ hs => hs) (fun _ _ act hu => act.keeps_setsLaw hu) h hstep

end Sys2Proof.Machine
end


section
/-!
What the laws of the trains, the power and the fill targets look at: which trains run, start and produce, what they and the pump are rated,
who holds power (`SameRunning`), and the fill targets and candidates (`SamePlant`). Each operation that leaves them is shown to do so here.
-/

namespace Sys2Proof.Machine

/-- What the laws of the trains and the power look at is the same; a train that is starting was starting. -/
structure SameRunning (s u : State) : Prop where
  running : ∀ n : Fin 3, u.trains[n].state.running = s.trains[n].state.running
  starting : ∀ n : Fin 3, Starting u n → Starting s n
  rated : ∀ n : Fin 3, u.trains[n].defn.ratedPower = s.trains[n].defn.ratedPower
  power : u.power = s.power
  startOrder : u.startOrder = s.startOrder
  setRated : ∀ x : Fin 2, u.sets.sets[x].defn.ratedPower = s.sets.sets[x].defn.ratedPower
  run : u.transfer.run.isSome = s.transfer.run.isSome
  pump : u.transfer.pump = s.transfer.pump

theorem SameRunning.refl (s : State) : SameRunning s s :=
  ⟨fun _ => rfl, fun _ h => h, fun _ => rfl, rfl, rfl, fun _ => rfl, rfl, rfl⟩

theorem SameRunning.trans {s u v : State} (h : SameRunning s u) (g : SameRunning u v) : SameRunning s v where
  running n := (g.running n).trans (h.running n)
  starting n starts := h.starting n (g.starting n starts)
  rated n := (g.rated n).trans (h.rated n)
  power := g.power.trans h.power
  startOrder := g.startOrder.trans h.startOrder
  setRated x := (g.setRated x).trans (h.setRated x)
  run := g.run.trans h.run
  pump := g.pump.trans h.pump

theorem SameRunning.ite {s u v : State} (b : Prop) [Decidable b] (hu : SameRunning s u) (hv : SameRunning s v) :
    SameRunning s (if b then u else v) := ite_keeps b hu hv

/-- The fill targets and the fill-target lists are the same (R15, R141). -/
structure SameTargets (s u : State) : Prop where
  producing : ∀ n : Fin 3, u.trains[n].state = .producing ↔ s.trains[n].state = .producing
  target : ∀ n : Fin 3, u.trains[n].target = s.trains[n].target
  fillTrains : ∀ t : Fin 12, u.tanks[t].fillTrains = s.tanks[t].fillTrains

/-- The fill targets and the fill candidates are the same (R59). -/
structure SameFills (s u : State) : Prop extends SameTargets s u where
  candidates : u.eval.fillCandidates = s.eval.fillCandidates
  candidate : ∀ t : Fin 12, u.tanks[t].fillCandidate = s.tanks[t].fillCandidate

/-- What the laws of the trains, the power and the fill targets look at is the same. -/
structure SamePlant (s u : State) : Prop extends SameRunning s u, SameFills s u

theorem SameTargets.trans {s u v : State} (h : SameTargets s u) (g : SameTargets u v) : SameTargets s v where
  producing n := (g.producing n).trans (h.producing n)
  target n := (g.target n).trans (h.target n)
  fillTrains t := (g.fillTrains t).trans (h.fillTrains t)

theorem SameFills.trans {s u v : State} (h : SameFills s u) (g : SameFills u v) : SameFills s v where
  toSameTargets := h.toSameTargets.trans g.toSameTargets
  candidates := g.candidates.trans h.candidates
  candidate t := (g.candidate t).trans (h.candidate t)

theorem SamePlant.trans {s u v : State} (h : SamePlant s u) (g : SamePlant u v) : SamePlant s v where
  toSameRunning := h.toSameRunning.trans g.toSameRunning
  toSameFills := h.toSameFills.trans g.toSameFills

/-- Two states with the same sets and start order, that differ in nothing the laws look at elsewhere. -/
theorem SamePlant.of_same {s u : State} (tanks : u.tanks = s.tanks) (candidates : u.eval.fillCandidates = s.eval.fillCandidates)
    (sets : u.sets.sets = s.sets.sets) (trains : u.trains = s.trains) (order : u.startOrder = s.startOrder)
    (run : u.transfer.run = s.transfer.run) (pump : u.transfer.pump = s.transfer.pump) (power : u.power = s.power) :
    SamePlant s u where
  running n := by rw [trains]
  starting n h := by rw [Starting, trains] at h; exact h
  rated n := by rw [trains]
  power := power
  startOrder := order
  setRated x := by rw [sets]
  run := by rw [run]
  pump := pump
  producing n := by rw [trains]
  target n := by rw [trains]
  fillTrains t := by rw [tanks]
  candidates := candidates
  candidate t := by rw [tanks]

theorem SamePlant.refl (s : State) : SamePlant s s := .of_same rfl rfl rfl rfl rfl rfl rfl rfl

theorem SameBesideSets.samePlant {s u : State} (h : SameBesideSets s u) : SamePlant s u where
  running := h.train_running
  starting n := Or.imp (h.train_state n (.inl rfl)).mp (h.train_state n (.inl rfl)).mp
  rated n := by rw [h.train_defn]
  power := h.power
  startOrder := h.startOrder
  setRated x := by rw [h.setDefs]
  run := by rw [h.transfer]
  pump := by rw [h.transfer]
  producing n := h.train_state n (.inl rfl)
  target := h.train_target
  fillTrains t := by rw [h.tanks]
  candidates := by rw [h.eval]
  candidate t := by rw [h.tanks]

theorem SameBesideArbiter.samePlant {s u : State} (h : SameBesideArbiter s u) : SamePlant s u := h.besideSets.samePlant

theorem SameBesideDraws.samePlant {s u : State} (h : SameBesideDraws s u) : SamePlant s u := h.toSameBesideArbiter.samePlant

/-! ### Writes of one record -/

theorem modTrain_sameRunning (s : State) (n : Fin 3) {f : Train → Train}
    (running : (f s.trains[n]).state.running = s.trains[n].state.running)
    (starting : (f s.trains[n]).state = .priming ∨ (f s.trains[n]).state = .ramping → Starting s n)
    (rated : (f s.trains[n]).defn = s.trains[n].defn) : SameRunning s (s.modTrain n f) where
  running m := by
    rw [modTrain_trains, upd_get]; split
    · subst m; exact running
    · rfl
  starting m h := by
    rw [Starting, modTrain_trains, upd_get] at h; split at h
    · subst m; exact starting h
    · exact h
  rated m := by
    rw [modTrain_trains, upd_get]; split
    · subst m; rw [rated]
    · rfl
  power := rfl
  startOrder := rfl
  setRated _ := rfl
  run := rfl
  pump := rfl

theorem modTrain_samePlant (s : State) (n : Fin 3) {f : Train → Train}
    (running : (f s.trains[n]).state.running = s.trains[n].state.running)
    (starting : (f s.trains[n]).state = .priming ∨ (f s.trains[n]).state = .ramping → Starting s n)
    (producing : (f s.trains[n]).state = .producing ↔ s.trains[n].state = .producing)
    (rated : (f s.trains[n]).defn = s.trains[n].defn := by rfl) (target : (f s.trains[n]).target = s.trains[n].target := by rfl) :
    SamePlant s (s.modTrain n f) where
  toSameRunning := modTrain_sameRunning s n running starting rated
  producing m := by
    rw [modTrain_trains, upd_get]; split
    · subst m; exact producing
    · rfl
  target m := by
    rw [modTrain_trains, upd_get]; split
    · subst m; exact target
    · rfl
  fillTrains _ := rfl
  candidates := rfl
  candidate _ := rfl

/-- A train's record changes beside its state, its target and its definition. -/
theorem modTrain_samePlant_of_state (s : State) (n : Fin 3) {f : Train → Train}
    (state : (f s.trains[n]).state = s.trains[n].state := by rfl) (defn : (f s.trains[n]).defn = s.trains[n].defn := by rfl)
    (target : (f s.trains[n]).target = s.trains[n].target := by rfl) : SamePlant s (s.modTrain n f) :=
  modTrain_samePlant s n (by rw [state]) (by rw [state]; exact id) (by rw [state]) defn target

theorem not_producing_of_rests {st : TrainState} (rests : st.running = false) : st ≠ .producing := by
  rintro rfl; cases rests

/-- A train that does not run takes another state in which it does not. -/
theorem modTrain_samePlant_of_rests (s : State) (n : Fin 3) {f : Train → Train} (before : s.trains[n].state.running = false)
    (after : (f s.trains[n]).state.running = false := by rfl) (defn : (f s.trains[n]).defn = s.trains[n].defn := by rfl)
    (target : (f s.trains[n]).target = s.trains[n].target := by rfl) : SamePlant s (s.modTrain n f) := by
  refine modTrain_samePlant s n (after.trans before.symm) ?_ ?_ defn target
  · rintro (e | e) <;> rw [e] at after <;> cases after
  · exact ⟨fun e => absurd e (not_producing_of_rests after), fun e => absurd e (not_producing_of_rests before)⟩

theorem modTank_sameRunning (s : State) (t : Fin 12) (f : Tank → Tank) : SameRunning s (s.modTank t f) :=
  ⟨fun _ => rfl, fun _ starts => starts, fun _ => rfl, rfl, rfl, fun _ => rfl, rfl, rfl⟩

theorem modTank_samePlant (s : State) (t : Fin 12) {f : Tank → Tank} (fills : ∀ k, (f k).fillTrains = k.fillTrains := by intro _; rfl)
    (candidate : ∀ k, (f k).fillCandidate = k.fillCandidate := by intro _; rfl) : SamePlant s (s.modTank t f) where
  toSameRunning := modTank_sameRunning s t f
  producing _ := Iff.rfl
  target _ := rfl
  fillTrains := upd_view s.tanks t fills
  candidates := rfl
  candidate := upd_view s.tanks t candidate

theorem post_samePlant (n : NoticeBody) (s : State) : SamePlant s (post n s) := (post_besideSets n s).samePlant

theorem modEval_sameRunning (s : State) (f : Evaluator → Evaluator) : SameRunning s (s.modEval f) :=
  ⟨fun _ => rfl, fun _ starts => starts, fun _ => rfl, rfl, rfl, fun _ => rfl, rfl, rfl⟩

theorem modEval_samePlant (s : State) {f : Evaluator → Evaluator} (h : (f s.eval).fillCandidates = s.eval.fillCandidates := by rfl) :
    SamePlant s (s.modEval f) := .of_same rfl h rfl rfl rfl rfl rfl rfl

/-! ### The Evaluator -/

theorem workOutLevel_samePlant (cause : LevelCause) (s : State) : SamePlant s (workOutLevel cause s) := by
  obtain ⟨_, e⟩ | ⟨_, e⟩ := workOutLevel_cases cause s <;> rw [e]
  · exact .refl s
  · exact ((modEval_samePlant s).trans (post_samePlant _ _)).trans (takeLevel_besideArbiter _ _).samePlant

theorem applyDuty_samePlant (cause : DutyCause) (chosen : Option (Fin 12)) (s : State) : SamePlant s (applyDuty cause chosen s) :=
  applyDuty_keeps (P := SamePlant s) (fun t _ u hu => hu.trans (modTank_samePlant u t))
    (fun _ u hu => hu.trans (modEval_samePlant u)) (fun n u hu => hu.trans (post_samePlant n u))
    (fun u hu => hu.trans (dutyTankAppears_besideSets u).samePlant)
    (fun u hu => hu.trans (dutyTankLost_besideSets u).samePlant) cause chosen s (.refl s)

theorem checkDuty_samePlant (s : State) : SamePlant s (checkDuty s) := by
  obtain ⟨cause, _, e⟩ | e := checkDuty_cases s <;> rw [e]
  · exact applyDuty_samePlant cause _ s
  · exact .refl s

theorem modEval_sameTargets (s : State) (f : Evaluator → Evaluator) : SameTargets s (s.modEval f) :=
  ⟨fun _ => Iff.rfl, fun _ => rfl, fun _ => rfl⟩

theorem evaluate_sameTargets (s : State) : SameTargets s (evaluate s) :=
  evaluate_keeps (P := SameTargets s) (fun _ u hu => hu.trans (modEval_sameTargets u _))
    (fun u hu => hu.trans (workOutLevel_samePlant _ u).toSameTargets)
    (fun cause u _ hu => hu.trans (applyDuty_samePlant cause _ u).toSameTargets) s ⟨fun _ => Iff.rfl, fun _ => rfl, fun _ => rfl⟩

theorem evaluate_sameRunning (s : State) : SameRunning s (evaluate s) :=
  evaluate_keeps (P := SameRunning s) (fun _ u hu => hu.trans (modEval_sameRunning u _))
    (fun u hu => hu.trans (workOutLevel_samePlant _ u).toSameRunning)
    (fun cause u _ hu => hu.trans (applyDuty_samePlant cause _ u).toSameRunning) s (.refl s)

/-! ### The trains -/

theorem giveUpTarget_trains (n : Fin 3) (s : State) (m : Fin 3) : (giveUpTarget n s).trains[m] =
    if m = n then { s.trains[n] with target := none, producingSince := none } else s.trains[m] := by
  unfold giveUpTarget; dsimp only; split <;> exact upd_get s.trains n m _

theorem giveUpTarget_sameRunning (n : Fin 3) (s : State) : SameRunning s (giveUpTarget n s) := by
  unfold giveUpTarget; dsimp only; split
  · exact (modTank_sameRunning s _ _).trans (modTrain_sameRunning _ n rfl id rfl)
  · exact modTrain_sameRunning s n rfl id rfl

theorem askFlush_samePlant (n : Fin 3) (s : State) : SamePlant s (askFlush n s) := by
  obtain ⟨_, _, _, _, e⟩ | e := askFlush_cases n s <;> rw [e]
  · exact (modTrain_samePlant_of_state s n).trans (register_besideDraws _ _ _ _).samePlant
  · exact .refl s

/-- A train that does not run enters FLUSH_WAIT. -/
theorem enterFlushWait_samePlant {n : Fin 3} {s : State} (rests : s.trains[n].state.running = false) (remaining : Nat) :
    SamePlant s (enterFlushWait n remaining s) :=
  (modTrain_samePlant_of_rests s n rests).trans (askFlush_samePlant n _)

theorem releaseHolder_trains (h : Holder) (s : State) : (releaseHolder h s).trains = s.trains := rfl

/-- A running train has given up its target and stopped, and its holder is gone (R143, R158). -/
def stopped (n : Fin 3) (s : State) : State :=
  releaseHolder (.train n) ((giveUpTarget n s).modTrain n fun w => { w with state := .flushWait })

theorem stopped_trains (n : Fin 3) (s : State) (m : Fin 3) : (stopped n s).trains[m] =
    if m = n then { s.trains[n] with state := .flushWait, target := none, producingSince := none } else s.trains[m] := by
  rw [stopped, releaseHolder_trains, modTrain_trains, upd_get, giveUpTarget_trains, giveUpTarget_trains, if_pos rfl]
  split <;> rfl

/-- A stop is the train's own stop with its flush request, then the start check (R143). -/
theorem haltTrain_eq (n : Fin 3) (cause : StopCause) (s : State) :
    ∃ v, SamePlant (stopped n s) v ∧ haltTrain n cause s = startCheck v := by
  obtain ⟨g, hg⟩ : ∃ g, g = giveUpTarget n s := ⟨_, rfl⟩
  obtain ⟨u, hu⟩ : ∃ u, u = (releaseHolder (.train n) (g.modTrain n fun w =>
    { w with stopCause := some cause, faultCause := none, stage := none, qualification := .idle, stall := .idle })).modTrain n fun w =>
    { w with state := .flushWait, flushRemaining := g.trains[n].defn.flushVolume, flushPlaced := false,
             flushWait := .start w.defn.flushWaitMax } := ⟨_, rfl⟩
  have trains (m : Fin 3) : u.trains[m].state = (stopped n s).trains[m].state ∧ u.trains[m].defn = (stopped n s).trains[m].defn ∧
      u.trains[m].target = (stopped n s).trains[m].target := by
    simp only [hu, stopped, ← hg, modTrain_trains, releaseHolder_trains, upd_get]
    split <;> simp
  have same : SamePlant (stopped n s) u := by
    refine ⟨⟨fun m => ?_, fun m starts => ?_, fun m => ?_, ?_, ?_, fun _ => ?_, ?_, ?_⟩, ⟨fun m => ?_, fun m => ?_, fun _ => ?_⟩,
      ?_, fun _ => ?_⟩
    · rw [(trains m).1]
    · rw [Starting, (trains m).1] at starts; exact starts
    · rw [(trains m).2.1]
    case refine_9 => rw [(trains m).1]
    case refine_10 => exact (trains m).2.2
    all_goals rw [hu, stopped, ← hg]; rfl
  refine ⟨askFlush n u, same.trans (askFlush_samePlant n u), ?_⟩
  rw [hu, hg, haltTrain, modTrain_trains, upd_get_same]
  rfl

/-- A transfer has ended and the pump's holder is gone (R158, R166). -/
def pumpStopped (s : State) : State :=
  releaseHolder .pump { s with transfer := { s.transfer with run := none } }

/-- The end of a running transfer is the stop of the pump with its notice, then the start check (R166). -/
theorem endTransfer_eq (cause : TransferCause) (s : State) :
    endTransfer cause s = s ∨ ∃ v, SamePlant (pumpStopped s) v ∧ endTransfer cause s = startCheck v := by
  unfold endTransfer; split
  · exact .inl rfl
  · rename_i r _
    refine .inr ⟨_, SamePlant.trans ?_ (post_samePlant _ _), rfl⟩
    have roles := (modTank_samePlant (pumpStopped s) r.source (f := fun k => { k with transferRole := .none })).trans
      (modTank_samePlant _ r.dest (f := fun k => { k with transferRole := .none }))
    exact { roles with }

end Sys2Proof.Machine
end


section
/-!
Laws of the running trains under every act. `TrainLaw` lists what a law of the trains, the power or the fill targets needs of the starts,
the stops and the production; the trains', the transfer's and the draws' operations keep it then.
-/

namespace Sys2Proof.Machine

/-- The best of a list is one of it. -/
theorem bestOf_mem {α : Type} {better : α → α → Bool} : ∀ {l : List α} {a : α}, bestOf better l = some a → a ∈ l
  | x :: xs, a, h => by
    have walk (ys : List α) (x : α) : ys.foldl (fun best y => if better y best then y else best) x ∈ x :: ys := by
      induction ys generalizing x with
      | nil => simp
      | cons y ys ih =>
        rw [List.foldl_cons]
        have mem := ih (if better y x then y else x)
        rw [List.mem_cons] at mem ⊢
        obtain same | later := mem
        · rw [same]; split
          · exact .inr List.mem_cons_self
          · exact .inl rfl
        · exact .inr (List.mem_cons_of_mem _ later)
    cases h; exact walk xs x

theorem preferSide_subset {s : State} {side : Option Side} {cands : List (Fin 12)} {t : Fin 12}
    (h : t ∈ preferSide s side cands) : t ∈ cands := by
  unfold preferSide at h; split at h
  · exact h
  · dsimp only at h; split at h
    · exact h
    · exact List.mem_of_mem_filter h

theorem selectFill_mem {s : State} {t : Fin 12} (h : selectFill s = some t) : t ∈ s.eval.fillCandidates :=
  preferSide_subset (bestOf_mem h)

/-- A train has entered PRODUCING with a fill target (R141). -/
def produced (n : Fin 3) (t : Fin 12) (s : State) : State :=
  (s.modTank t fun k => { k with fillTrains := k.fillTrains ++ [n] }).modTrain n fun w =>
    { w with state := .producing, target := some t, producingSince := some s.now, stage := none, qualification := .idle,
             stall := .start w.defn.productStall }

theorem enterProducing_eq (n : Fin 3) (t : Fin 12) (s : State) :
    enterProducing n t s = if isAuto (produced n t s) n then stopCheck (produced n t s) else produced n t s := rfl

/-- The pump has started and holds its power (R158, R164). -/
def pumpStarted (run : TransferRun) (s : State) : State :=
  { s with transfer := { s.transfer with run := some run }, power := { s.power with holders := s.power.holders ++ [.pump] } }

/-- What a law of the trains, the power or the fill targets needs of the starts, the stops, the production and the definitions. -/
structure TrainLaw (law : State → Prop) : Prop where
  same : ∀ {s u}, SamePlant s u → law s → law u
  begins : ∀ {s} (n : Fin 3), s.trains[n].state = .off → someTrainStarting s = false →
    headroomGranted s s.trains[n].defn.ratedPower = true → law s → law (beginTrain n s)
  stops : ∀ {s} (n : Fin 3), law s → law (stopped n s)
  produces : ∀ {s} (n : Fin 3) (t : Fin 12), s.trains[n].state = .diverting → t ∈ s.eval.fillCandidates → law s → law (produced n t s)
  diverts : ∀ {s} (n : Fin 3), s.trains[n].state = .producing → law s → law (excursion n s)
  redefined : ∀ {s} (n : Fin 3) (d : TrainDef), s.trains[n].free = true → law s → law (s.modTrain n (Train.define d))
  pumpStarts : ∀ {s} (run : TransferRun), s.transfer.run = none →
    headroomGranted s s.transfer.pump.ratedPower = true → law s →
    law (pumpStarted run s)
  pumpStops : ∀ {s}, law s → law (pumpStopped s)
  pumpDefined : ∀ {s} (pump : PumpDef), s.transfer.run = none → law s →
    law { s with transfer := { s.transfer with pump := pump } }
  fresh : ∀ (image : Image) (defaulted : Bool) (a b : BitVec 24) (loc : Bool) (s : State),
    law (stateFrom image defaulted a b loc s)

namespace TrainLaw

variable {law : State → Prop} (c : TrainLaw law)
include c

theorem of_same {s u : State} (h : law s) (tanks : u.tanks = s.tanks) (candidates : u.eval.fillCandidates = s.eval.fillCandidates)
    (sets : u.sets.sets = s.sets.sets) (trains : u.trains = s.trains) (order : u.startOrder = s.startOrder)
    (run : u.transfer.run = s.transfer.run) (pump : u.transfer.pump = s.transfer.pump) (power : u.power = s.power) : law u :=
  c.same (.of_same tanks candidates sets trains order run pump power) h

theorem startCheck {s : State} (h : law s) : law (startCheck s) := by
  obtain ⟨n, may, alone, _, _, _, room, e⟩ | e := startCheck_cases s <;> rw [e]
  · simp only [startable, Bool.and_eq_true, beq_iff_eq] at may
    exact c.begins n may.1.1.1 alone room h
  · exact h

theorem haltTrain {s : State} (n : Fin 3) (cause : StopCause) (h : law s) : law (haltTrain n cause s) := by
  obtain ⟨v, halted, e⟩ := haltTrain_eq n cause s
  rw [e]
  exact c.startCheck (c.same halted (c.stops n h))

theorem stopCheck {s : State} (h : law s) : law (stopCheck s) := stopCheck_keeps (fun n _ hu => c.haltTrain n _ hu) s h

theorem faultTrain {s : State} (n : Fin 3) (cause : FaultCause) (rests : s.trains[n].state.running = false) (h : law s) :
    law (faultTrain n cause s) :=
  c.startCheck (c.same ((modTrain_samePlant_of_rests s n rests).trans (post_samePlant _ _)) h)

theorem restTrain {s : State} (n : Fin 3) (rests : s.trains[n].state.running = false) (h : law s) : law (restTrain n s) :=
  c.startCheck (c.same (modTrain_samePlant_of_rests s n rests) h)

theorem finishFlush {s : State} (n : Fin 3) (rests : s.trains[n].state.running = false) (h : law s) : law (finishFlush n s) := by
  have left := c.same (modTrain_samePlant_of_state s n (f := fun w => { w with flushRemaining := 0, flushPlaced := false })) h
  have still : (s.modTrain n fun w => { w with flushRemaining := 0, flushPlaced := false }).trains[n].state.running = false := by
    rw [modTrain_trains, upd_get_same]; exact rests
  unfold Machine.finishFlush; dsimp only; split
  · exact c.faultTrain n _ still left
  · exact c.restTrain n still left

theorem flushEnded {s : State} (cause : EndCause) (delivered : Nat) (n : Fin 3) (h : law s) :
    law (flushEnded cause delivered n s) := by
  have left (remainder : Nat) := modTrain_samePlant_of_state s n
    (f := fun w => { w with flushRemaining := remainder, flushPlaced := false })
  have faulted (flushing : s.trains[n].state = .flushing) (remainder : Nat) :
      law (Machine.faultTrain n .unflushed (s.modTrain n fun w => { w with flushRemaining := remainder, flushPlaced := false })) := by
    refine c.faultTrain n _ ?_ (c.same (left _) h)
    rw [modTrain_trains, upd_get_same]; dsimp only; rw [flushing]; rfl
  have waits (rests : s.trains[n].state.running = false) (remainder : Nat) : law (enterFlushWait n remainder s) :=
    c.same (enterFlushWait_samePlant rests remainder) h
  unfold Machine.flushEnded; dsimp only; split
  case h_1 =>
    have flushing : s.trains[n].state = .flushing := ‹_›
    have rests : s.trains[n].state.running = false := by rw [flushing]; rfl
    exact ite_keeps _ (c.finishFlush n rests h) (waits rests _)
  case h_2 | h_3 => exact faulted ‹_› _
  case h_4 =>
    have flushing : s.trains[n].state = .flushing := ‹_›
    exact waits (by rw [flushing]; rfl) _
  case h_5 | h_6 | h_7 =>
    have waiting : s.trains[n].state = .flushWait := ‹_›
    exact waits (by rw [waiting]; rfl) _
  case h_8 => exact c.same (left _) h
  case h_9 => exact h

theorem holdComplete {s : State} (n : Fin 3) (diverting : s.trains[n].state = .diverting) (h : law s) :
    law (holdComplete n s) := by
  unfold Machine.holdComplete; split
  · rename_i t found
    have entered := c.produces n t diverting (selectFill_mem found) h
    rw [enterProducing_eq]
    exact ite_keeps _ (c.stopCheck entered) entered
  · exact c.haltTrain n _ h

theorem takeReading {s : State} (r : Salinity) (n : Fin 3) (h : law s) : law (takeReading r n s) := by
  have read : law (s.modTrain n fun w => { w with reading := r }) := c.same (modTrain_samePlant_of_state s n) h
  have counted (count : Train → Nat) : law ((s.modTrain n fun w => { w with reading := r }).modTrain n fun w =>
      { w with qualification := { w.qualification with count := count w } }) :=
    c.same (modTrain_samePlant_of_state _ n) read
  unfold Machine.takeReading; dsimp only; split
  · have diverting : (s.modTrain n fun w => { w with reading := r }).trains[n].state = .diverting := ‹_›
    refine ite_keeps _ (ite_keeps _ (c.holdComplete n ?_ (counted _)) (counted _)) (counted _)
    rw [modTrain_trains, upd_get_same]; exact diverting
  · exact ite_keeps _ read (c.diverts n ‹_› read)
  · exact read

theorem choice {s : State} (h : law s) : law { s with choices := s.choices + 1 } := c.of_same h rfl rfl rfl rfl rfl rfl rfl rfl

theorem endTransfer {s : State} (cause : TransferCause) (h : law s) : law (endTransfer cause s) := by
  obtain e | ⟨v, ended, e⟩ := endTransfer_eq cause s <;> rw [e]
  · exact h
  · exact c.startCheck (c.same ended (c.pumpStops h))

theorem endShore {s : State} (cause : ShoreCause) (h : law s) : law (endShore cause s) := by
  unfold Machine.endShore; split
  · exact h
  · rename_i r _
    have target := modTank_samePlant s r.target (f := fun k => { k with shoreTarget := false })
    exact c.same (post_samePlant _ _) (c.same (s := s) { target with } h)

theorem transferShoreTake {s : State} (h : law s) : law (transferShoreTake s) :=
  transferShoreTake_keeps (fun cause _ hu => c.endTransfer cause hu) (fun cause _ hu => c.endShore cause hu)
    (fun _ hu => c.choice hu) s h

theorem grantPass {s : State} (h : law s) : law (grantPass s) := c.same (grantPass_besideDraws s).samePlant h

theorem endDraw {s : State} (k : Fin 16) (cause : EndCause) (h : law s) : law (endDraw k cause s) :=
  endDraw_keeps (fun k e u hu => c.same (closeLine_besideDraws k e u).samePlant hu)
    (fun n u hu => c.same (post_samePlant n u) hu) (fun e d n _ hu => c.flushEnded e d n hu) (fun _ hu => c.choice hu)
    (fun _ hu => c.grantPass hu) k cause s h

theorem cancelPending {s : State} (k : Fin 16) (h : law s) : law (cancelPending k s) := by
  have withdrawn := c.same (withdraw_besideDraws k s).samePlant h
  unfold Machine.cancelPending; split
  · exact h
  · refine c.grantPass ?_
    unfold handToTrain; split
    · exact c.flushEnded _ _ _ withdrawn
    · exact withdrawn

theorem beginTransfer {s : State} (origin : TransferOrigin) (src dst : Fin 12) (litres : Nat) (idle : s.transfer.run = none)
    (room : headroomGranted s s.transfer.pump.ratedPower = true) (h : law s) : law (beginTransfer origin src dst litres s) := by
  have roles := (modTank_samePlant (pumpStarted ⟨origin, src, dst, litres⟩ s) src (f := fun k => { k with transferRole := .source })).trans
    (modTank_samePlant _ dst (f := fun k => { k with transferRole := .dest }))
  exact c.same (activateRole_besideDraws _ _).samePlant (c.same (s := pumpStarted ⟨origin, src, dst, litres⟩ s) { roles with } (c.pumpStarts _ idle room h))

theorem balanceReview {s : State} (h : law s) : law (balanceReview s) := by
  unfold Machine.balanceReview; split
  · rename_i may
    simp only [Bool.and_eq_true, Option.isNone_iff_eq_none] at may
    split
    · split
      · rename_i room
        simp only [Bool.and_eq_true] at room
        exact c.beginTransfer _ _ _ _ may.1.2 room.2 h
      · exact h
    · exact h
  · exact h

theorem lineLitre {s : State} (k : Fin 16) (forward : Bool) (h : law s) : law (lineLitre k forward s) := by
  have counted : law (s.modDraw k fun d => { d with delivered := deliveredAfter d.delivered forward, stall := 0 }) :=
    c.of_same h rfl rfl rfl rfl rfl rfl rfl rfl
  unfold Machine.lineLitre; dsimp only; split
  · exact ite_keeps _ (c.endDraw k _ counted) counted
  · exact counted

/-- A law of the trains, the power or the fill targets under the acts of the tanks, the channels and the inputs. -/
theorem cascade {loose : State → Prop} (loosen : ∀ {s}, law s → loose s) (looseSame : ∀ {s u}, SamePlant s u → loose s → loose u)
    (tank : ∀ {s} (t : Fin 12) {f : Tank → Tank}, (f s.tanks[t]).fillTrains = s.tanks[t].fillTrains → loose s → loose (s.modTank t f))
    (evaluateAndTrains : ∀ {s}, loose s → law (evaluateAndTrains s)) : CascadeLaw loose law where
  loosen := loosen
  tank := tank
  looseInputs {s} _ h := looseSame (s := s) (.of_same rfl rfl rfl rfl rfl rfl rfl rfl) h
  looseTotals n _ _ _ h := looseSame (modTrain_samePlant_of_state _ n) h
  looseFilled {s} _ h := looseSame (s := s) (.of_same rfl rfl rfl rfl rfl rfl rfl rfl) h
  loosePost n h := looseSame (post_samePlant n _) h
  inputs _ h := c.of_same h rfl rfl rfl rfl rfl rfl rfl rfl
  meter _ _ h := c.of_same h rfl rfl rfl rfl rfl rfl rfl rfl
  choice _ h := c.choice h
  post n h := c.same (post_samePlant n _) h
  strayTotal _ h := c.of_same h rfl rfl rfl rfl rfl rfl rfl rfl
  totals n _ _ _ h := c.same (modTrain_samePlant_of_state _ n) h
  moved _ _ h := c.of_same h rfl rfl rfl rfl rfl rfl rfl rfl
  head t _ h := c.same (modTank_samePlant _ t) h
  evaluateAndTrains := evaluateAndTrains
  transferShoreTake h := c.transferShoreTake h
  takeReading r n h := c.takeReading r n h
  lineLitre k forward _ h := c.lineLitre k forward h

end TrainLaw

end Sys2Proof.Machine
end


section
/-!
Every act keeps a law of the trains, the power or the fill targets (`TrainLaw`), when the cascade of a tank change, the two changes of the
allowance and the tick keep it.
-/

namespace Sys2Proof.Machine

theorem Tank.tick_fillTrains (k : Tank) : k.tick.fillTrains = k.fillTrains := by unfold Tank.tick; split <;> rfl

theorem Tank.tick_fillCandidate (k : Tank) : k.tick.fillCandidate = k.fillCandidate := by unfold Tank.tick; split <;> rfl

namespace TrainLaw

variable {law : State → Prop} (c : TrainLaw law)
include c

theorem applyMeterDef {s : State} (m : Fin 24) (d : Option MeterDef) (h : law s) : law (applyMeterDef m d s) := by
  have fresh : law (s.modMeter m fun c => .fresh d c.phaseA c.phaseB) := c.of_same h rfl rfl rfl rfl rfl rfl rfl rfl
  have metered (k : Fin 16) (on : Bool) {u : State} (hu : law u) : law (setMetered k on u) := c.of_same hu rfl rfl rfl rfl rfl rfl rfl rfl
  refine ite_keeps _ fresh ?_
  cases lineOfRole s.meters[m].defn.role with
  | none =>
    cases lineOfRole (d.getD .default).role with
    | none => exact fresh
    | some k => exact metered k true fresh
  | some j =>
    cases lineOfRole (d.getD .default).role with
    | none => exact metered j false fresh
    | some k => exact metered k true (metered j false fresh)

theorem defineLine {s : State} (d : LineDef) (k : Fin 16) (h : law s) : law (defineLine d s k) := by
  have written (f : DrawLine → DrawLine) : law (s.modLine k f) := c.of_same h rfl rfl rfl rfl rfl rfl rfl rfl
  have moved (old new : Fin 6) {u : State} (hu : law u) : law (moveGroup k old new u) :=
    ite_keeps _ hu (c.of_same hu rfl rfl rfl rfl rfl rfl rfl rfl)
  exact ite_keeps _ (moved _ _ (written _)) (c.of_same h rfl rfl rfl rfl rfl rfl rfl rfl)

theorem removeLine {s : State} (k : Fin 16) (h : law s) : law (removeLine s k) :=
  ite_keeps _ (c.of_same h rfl rfl rfl rfl rfl rfl rfl rfl) h

theorem applyTrainMode {s : State} (n : Fin 3) (mode : TrainMode) (h : law s) : law (applyTrainMode n mode s) := by
  have written : law (s.modTrain n fun w => { w with mode := mode }) := c.same (modTrain_samePlant_of_state s n) h
  have halted := ite_keeps (P := law) (mode = .disabled && s.trains[n].state.running) (c.haltTrain n .modeDisabled written) written
  exact ite_keeps _ halted (c.stopCheck (c.startCheck halted))

theorem changeWaters {s : State} (w : Waters) (h : law s) : law (changeWaters w s) := by
  have written : law { s with waters := w } := c.of_same h rfl rfl rfl rfl rfl rfl rfl rfl
  cases w with
  | restricted => exact foldl_keeps (fun u n hu => ite_keeps _ (c.haltTrain n _ hu) hu) _ _ written
  | opened => exact c.startCheck written

theorem register {s : State} (k : Fin 16) (q : Option Nat) (o : Source) (h : law s) : law (register k q o s) :=
  c.same (register_besideDraws k q o s).samePlant h

theorem contactReleased {s : State} (k : Fin 16) (h : law s) : law (contactReleased k s) := by
  have opened : law (s.modLine k fun l => { l with asserted := false }) := c.of_same h rfl rfl rfl rfl rfl rfl rfl rfl
  exact ite_keeps _ (ite_keeps _ (c.grantPass (c.same (withdraw_besideDraws k _).samePlant opened))
    (ite_keeps _ (c.of_same opened rfl rfl rfl rfl rfl rfl rfl rfl) opened)) opened

theorem ageDraw {s : State} (k : Fin 16) (h : law s) : law (ageDraw k s) :=
  c.same (post_samePlant _ _) (c.same (refreshPending_besideDraws _).samePlant (c.of_same h rfl rfl rfl rfl rfl rfl rfl rfl))

theorem holdExpires {s : State} (h : law s) : law (holdExpires s) := by
  have ended : law (if s.arb.supplyHeld == .down then endSuspended s else s) :=
    ite_keeps _ (endSuspended_keeps (fun k _ hu => c.endDraw k _ hu) s h) h
  exact c.of_same ended rfl rfl rfl rfl rfl rfl rfl rfl

theorem applyProductionBands {s : State} (bands : List Nat) (hysteresis : Nat) (h : law s) :
    law (applyProductionBands bands hysteresis s) := by
  have worked := c.same ((modEval_samePlant s (f := fun e =>
    { e with settings := { e.settings with productionBands := bands, productionHysteresis := hysteresis } })).trans
    (modEval_samePlant _ : SamePlant _ (workOutCall _))) h
  exact ite_keeps _ worked (c.stopCheck (c.startCheck worked))

theorem applyMask {s : State} (ks : List (Fin 16)) (setting : Bool) (h : law s) : law (applyMask ks setting s) := by
  have masked : law { s with lines := updAll s.lines fun k l => if ks.contains k then { l with masked := setting } else l } :=
    c.of_same h rfl rfl rfl rfl rfl rfl rfl rfl
  exact ite_keeps _ (c.grantPass masked) masked

theorem applyMode {s : State} (mode : ArbiterMode) (h : law s) : law (applyMode mode s) := by
  have set : law (s.modArb fun a => { a with mode := mode }) := c.of_same h rfl rfl rfl rfl rfl rfl rfl rfl
  exact ite_keeps _ h (c.grantPass set)

theorem writeCompletes {s : State} (good : Bool) (h : law s) : law (writeCompletes good s) := by
  have written (f : Link → Link) : law (s.modLink f) := c.of_same h rfl rfl rfl rfl rfl rfl rfl rfl
  obtain ⟨_, e⟩ | ⟨image, _, e⟩ := writeCompletes_cases good s <;> rw [e]
  · exact h
  · exact ite_keeps _ (c.same (post_samePlant _ _) (written _)) (c.same (post_samePlant _ _) (written _))

theorem tick {s : State} (contacts : BitVec 16) (proofs : BitVec 2) (loc : Bool) (h : law s) : law (tick contacts proofs loc s) := by
  have get (n : Fin 3) : (Machine.tick contacts proofs loc s).trains[n] = s.trains[n].tick := by
    simp only [Machine.tick, advance, updAll_get]
  have set (x : Fin 2) : (Machine.tick contacts proofs loc s).sets.sets[x].defn = s.sets.sets[x].defn := by
    simp only [Machine.tick, advance, updAll_get, PressureSet.tick_defn]
  have tank (t : Fin 12) : (Machine.tick contacts proofs loc s).tanks[t] = s.tanks[t].tick := by
    simp only [Machine.tick, advance, updAll_get]
  have same : SamePlant s (Machine.tick contacts proofs loc s) := by
    refine ⟨⟨fun n => ?_, fun n starts => ?_, fun n => ?_, rfl, rfl, fun x => ?_, rfl, rfl⟩, ⟨fun n => ?_, fun n => ?_, fun t => ?_⟩,
      rfl, fun t => ?_⟩
    · rw [get]; rfl
    · rw [Starting, get] at starts; exact starts
    · rw [get]; rfl
    · rw [set]
    · rw [get]; rfl
    · rw [get]; rfl
    · rw [tank, Tank.tick_fillTrains]
    · rw [tank, Tank.tick_fillCandidate]
  exact c.same same h

theorem setProves {s : State} (x : Fin 2) (h : law s) : law (setProves x s) := by
  have proved (y : Fin 2) (st : SetState) {u : State} : SamePlant u (u.modSet y fun p => { p with state := st, lossTimer := 0 }) :=
    (modSet_besideSets u y).samePlant
  have duty (y : Fin 2) {u : State} (hu : law u) : law { u with sets := { u.sets with duty := y } } :=
    c.of_same hu rfl rfl rfl rfl rfl rfl rfl rfl
  refine ite_keeps _ (c.same ((proved x .running).trans (workOutSupply_besideSets _).samePlant) h) ?_
  exact c.same ((post_samePlant _ _).trans (workOutSupply_besideSets _).samePlant)
    (duty x (c.same ((proved x .running).trans (proved _ .idle)) h))

theorem alternates {s : State} (h : law s) : law (alternates s) := by
  have renewed (timer : Option Timer) : law { s with sets := { s.sets with alternationTimer := timer } } :=
    c.of_same h rfl rfl rfl rfl rfl rfl rfl rfl
  exact ite_keeps _ (c.same (startSet_besideSets _ _).samePlant (renewed _)) (renewed _)

/-- Every act but those that change the allowance keeps a law of the trains and the power. -/
theorem act {loose : State → Prop} (casc : CascadeLaw loose law) {s u : State} (act : Act s u) (hallowance : ∀ allowance, law (applyAllowance allowance s))
    (hsets : ∀ body, law (applySets body s)) (h : law s) : law u := by
  have link (f : Link → Link) : law (s.modLink f) := c.of_same h rfl rfl rfl rfl rfl rfl rfl rfl
  have settled (cause : ChangeoverCause) {v : State} (hv : SamePlant s v) : law (settleSets cause v) :=
    c.same (hv.trans (settleSets_besideSets cause v).samePlant) h
  have set (x : Fin 2) (st : SetState) : SamePlant s (s.modSet x (stopSet st)) := (modSet_besideSets s x).samePlant
  cases act with
  | unchanged => exact h
  | tankRemoved t free => exact casc.removeTankDef t free h
  | tankDefined t d free => exact casc.applyTankDef t d free h
  | strappingLoaded t points => exact casc.loadStrapping t points h
  | inputDefined i d => exact casc.applyInputDef i d h
  | tankSeeded t amount origin => exact casc.seedWith t amount origin (casc.loosen h)
  | tankServed t wanted => exact casc.changeTankState t .service rfl (casc.loosen h)
  | edgeTaken m a b => exact casc.takeEdge m a b h
  | gateEnded i f => exact casc.gateEnd i f h
  | setsDefined body => exact hsets body
  | allowanceSet allowance => exact hallowance allowance
  | noticesFetched | snapshotSet | triggerSet | saveStarted | authorityChanged => exact link _
  | meterRemoved m | meterDefined m => exact c.applyMeterDef m _ h
  | linesRemoved ks => exact foldl_keeps (fun _ k hu => c.removeLine k hu) ks s h
  | linesDefined ks d => exact foldl_keeps (fun _ k hu => c.defineLine d k hu) ks s h
  | groupDefined g =>
    have written (f : Group → Group) : law (s.modGroup g f) := c.of_same h rfl rfl rfl rfl rfl rfl rfl rfl
    exact ite_keeps _ (written _) (c.grantPass (written _))
  | supplyBandsSet =>
    exact c.same (((modEval_samePlant s).trans (modEval_samePlant _)).trans (workOutLevel_samePlant _ _)) h
  | productionBandsSet => exact c.applyProductionBands _ _ h
  | balanceSet => exact c.same (modEval_samePlant s) h
  | trainDefined n d free => exact c.startCheck (c.redefined n d free h)
  | pumpDefined pump idle => exact c.pumpDefined pump idle h
  | drawn k => exact c.register k _ _ h
  | pendingCancelled k => exact c.cancelPending k h
  | drawEnded k | openDrawEnded k => exact c.endDraw k _ h
  | linesMasked => exact c.applyMask _ _ h
  | rotationSet => exact c.of_same h rfl rfl rfl rfl rfl rfl rfl rfl
  | modeSet mode => exact c.applyMode mode h
  | dispatched k => exact c.same (grant_besideDraws k s).samePlant h
  | lineReset k => exact c.of_same h rfl rfl rfl rfl rfl rfl rfl rfl
  | trainModeSet n mode => exact c.applyTrainMode n mode h
  | trainStarted n off alone room => exact c.begins n off alone room h
  | trainStopped n cause => exact c.haltTrain n cause h
  | trainFlushed n off =>
    have left := modTrain_samePlant_of_state s n (f := fun w => { w with stopCause := some .manualFlush, faultCause := none, retry := false })
    have rests : (s.modTrain n fun w => { w with stopCause := some .manualFlush, faultCause := none, retry := false }).trains[n].state.running
        = false := by rw [modTrain_trains, upd_get_same]; dsimp only; rw [off]; rfl
    exact c.same (left.trans (enterFlushWait_samePlant rests _)) h
  | faultFlushed n faulted =>
    exact c.same ((modTrain_samePlant_of_rests s n (by rw [faulted]; rfl)).trans (askFlush_samePlant n _)) h
  | trainReset n faulted =>
    refine c.restTrain n ?_ (c.same (modTrain_samePlant_of_state s n) h)
    rw [modTrain_trains, upd_get_same]; dsimp only; rw [faulted]; rfl
  | watersChanged w => exact c.changeWaters w h
  | floorSet => exact c.same ((modEval_samePlant s).trans (workOutLevel_samePlant _ _)) h
  | transferStarted src dst litres idle room => exact c.beginTransfer _ src dst litres idle room h
  | transferEnded cause => exact c.endTransfer cause h
  | shoreStarted t =>
    have filled : law (s.modTank t fun k => { k with shoreTarget := true }) := c.same (modTank_samePlant s t) h
    exact c.same (activateRole_besideDraws _ _).samePlant (c.of_same filled rfl rfl rfl rfl rfl rfl rfl rfl)
  | shoreEnded => exact c.endShore _ h
  | setServedIn x => exact ite_keeps _ (settled _ (set x _)) h
  | setServedOut x => exact ite_keeps _ h (settled _ (set x _))
  | setReset x => exact settled _ (set x _)
  | poweredOn good a b loc =>
    obtain ⟨image, _, _, e⟩ | e := powerOn_cases good a b loc s <;> rw [e] <;> exact c.fresh _ _ _ _ _ s
  | ticked contacts proofs loc => exact c.tick contacts proofs loc h
  | writeCompleted good => exact c.writeCompletes good h
  | contactAsserts k =>
    have asserted : law (s.modLine k fun l => { l with asserted := true }) := c.of_same h rfl rfl rfl rfl rfl rfl rfl rfl
    exact ite_keeps _ (c.register k _ _ asserted) asserted
  | contactReleases k => exact c.contactReleased k h
  | drawAges k => exact c.ageDraw k h
  | holdExpired => exact c.holdExpires h
  | setProved x => exact c.setProves x h
  | setStartFailed x => exact settled _ (failSet_besideSets x _ _ s).samePlant
  | setProofLost x => exact settled _ (failSet_besideSets x _ _ s).samePlant
  | alternated => exact c.alternates h
  | trainPrimed n primes =>
    refine c.startCheck (c.same (modTrain_samePlant s n (by rw [primes]; rfl) (fun _ => .inl primes) (by rw [primes]; simp)) h)
  | trainRamped n ramps =>
    refine c.startCheck (c.same (modTrain_samePlant s n (by rw [ramps]; rfl) (by simp) (by rw [ramps]; simp)) h)
  | stopsChecked => exact c.stopCheck h
  | flushAsked n => exact c.same (askFlush_samePlant n s) h
  | flushWaitOver n waits => exact c.faultTrain n _ (by rw [waits]; rfl) h
  | trainRested n => exact c.startCheck (c.same (modTrain_samePlant_of_state s n) h)
  | balanceIsReviewed =>
    have reset : law (s.modEval fun e => { e with reviewTimer := 0 }) := c.same (modEval_samePlant s) h
    exact c.balanceReview (ite_keeps _ (c.same (applyDuty_samePlant _ _ _) reset) reset)

end TrainLaw

end Sys2Proof.Machine
end


section
/-!
The law of the one starting train and the law of the committed load, as instances of `TrainLaw`, and shedding (R147, R158, R159, R161).
-/

namespace Sys2Proof.Machine

/-! ### The one starting train -/

theorem StartLaw.of_starting {s u : State} (h : StartLaw s) (starting : ∀ n : Fin 3, Starting u n → Starting s n) : StartLaw u :=
  fun n m hn hm => h n m (starting n hn) (starting m hm)

theorem someTrainStarting_eq_false_iff (s : State) : someTrainStarting s = false ↔ ∀ n : Fin 3, ¬ Starting s n := by
  simp [someTrainStarting, Starting, allTrains]

theorem stopped_starting {n m : Fin 3} {s : State} (h : Starting (stopped n s) m) : Starting s m := by
  rw [Starting, stopped_trains] at h
  split at h
  · simp at h
  · exact h

/-- A law that only looks at what `SameRunning` keeps, with its starts and stops, is a `TrainLaw`. -/
theorem TrainLaw.of_running {law : State → Prop} (same : ∀ {s u}, SameRunning s u → law s → law u)
    (begins : ∀ {s} (n : Fin 3), s.trains[n].state = .off → someTrainStarting s = false →
      headroomGranted s s.trains[n].defn.ratedPower = true → law s → law (beginTrain n s))
    (stops : ∀ {s} (n : Fin 3), law s → law (stopped n s))
    (redefined : ∀ {s} (n : Fin 3) (d : TrainDef), s.trains[n].free = true → law s → law (s.modTrain n (Train.define d)))
    (pumpStarts : ∀ {s} (run : TransferRun), s.transfer.run = none → headroomGranted s s.transfer.pump.ratedPower = true → law s →
      law (pumpStarted run s))
    (pumpStops : ∀ {s}, law s → law (pumpStopped s))
    (pumpDefined : ∀ {s} (pump : PumpDef), s.transfer.run = none → law s →
      law { s with transfer := { s.transfer with pump := pump } })
    (fresh : ∀ (image : Image) (defaulted : Bool) (a b : BitVec 24) (loc : Bool) (s : State),
      law (stateFrom image defaulted a b loc s)) : TrainLaw law where
  same h := same h.toSameRunning
  begins := begins
  stops := stops
  produces {s} n t diverting _ h :=
    same ((modTank_sameRunning s t _).trans (modTrain_sameRunning _ n (by rw [modTank_trains, diverting]; rfl) (by simp) rfl)) h
  diverts {s} n producing h := by
    have left := giveUpTarget_sameRunning n s
    refine same (left.trans (modTrain_sameRunning _ n ?_ (by simp) rfl)) h
    rw [left.running n, producing]; rfl
  redefined := redefined
  pumpStarts := pumpStarts
  pumpStops := pumpStops
  pumpDefined := pumpDefined
  fresh := fresh

/-- Such a law needs nothing of a tank that was written. -/
theorem TrainLaw.cascade_of_running {law : State → Prop} (c : TrainLaw law) (same : ∀ {s u}, SameRunning s u → law s → law u) :
    CascadeLaw law law := by
  have retargeted {s : State} (n : Fin 3) (h : law s) : law (retarget s n) := by
    unfold retarget; split
    · dsimp only; split
      · exact same (((modTank_sameRunning s _ _).trans (modTank_sameRunning _ _ _)).trans (modTrain_sameRunning _ n rfl id rfl)) h
      · exact same ((modTank_sameRunning s _ _).trans (modTrain_sameRunning _ n rfl id rfl)) h
    · exact c.haltTrain n _ h
  refine c.cascade id (fun h => same h.toSameRunning) (fun t _ _ h => same (modTank_sameRunning _ t _) h) fun {s} h => ?_
  exact trainsTake_keeps (fun _ hu => c.startCheck hu) (fun _ hu => c.stopCheck hu)
    (retargetAll_keeps (fun _ n hu => retargeted n hu) (fun _ hu => c.choice hu)) _ _ _ (same (evaluate_sameRunning s) h)

theorem StartLaw.of_running {s u : State} (same : SameRunning s u) (h : StartLaw s) : StartLaw u := h.of_starting same.starting

theorem StartLaw.beginTrain {s : State} (n : Fin 3) (alone : someTrainStarting s = false) : StartLaw (beginTrain n s) := by
  have none := (someTrainStarting_eq_false_iff s).mp alone
  have only (m : Fin 3) (starts : Starting (Machine.beginTrain n s) m) : m = n := by
    refine Decidable.byContradiction fun other => none m ?_
    have get : (Machine.beginTrain n s).trains[m] = s.trains[m] := upd_get_ne s.trains _ other
    rw [Starting, get] at starts; exact starts
  exact fun m k hm hk => (only m hm).trans (only k hk).symm

theorem redefined_starting {s : State} {n m : Fin 3} {d : TrainDef} (starts : Starting (s.modTrain n (Train.define d)) m) :
    Starting s m := by
  rw [Starting, modTrain_trains, upd_get] at starts; split at starts
  · subst m
    unfold Train.define at starts; split at starts
    · simp at starts
    · exact starts
  · exact starts

theorem stateFrom_startLaw (image : Image) (defaulted : Bool) (a b : BitVec 24) (loc : Bool) (s : State) :
    StartLaw (stateFrom image defaulted a b loc s) := fun n m starts => by
  have get : (stateFrom image defaulted a b loc s).trains[n].state = .off := by simp only [stateFrom, updAll_get]; rfl
  rw [Starting, get] at starts; simp at starts

theorem startTrainLaw : TrainLaw StartLaw :=
  .of_running StartLaw.of_running (fun n _ alone _ _ => .beginTrain n alone) (fun _ h => h.of_starting fun _ => stopped_starting)
    (fun _ _ _ h => h.of_starting fun _ => redefined_starting) (fun {s} _ _ _ h => h.of_starting (s := s) fun _ starts => starts)
    (fun {s} h => h.of_starting (s := s) fun _ starts => starts) (fun {s} _ _ h => h.of_starting (s := s) fun _ starts => starts)
    stateFrom_startLaw

/-! ### The committed load -/

/-- The law of the committed load without the load: what a lowered allowance leaves of it (R158). -/
def PowerShape (s : State) : Prop :=
  s.power.holders.Nodup ∧ (∀ n : Fin 3, Holder.train n ∈ s.power.holders ↔ s.trains[n].state.running = true) ∧
  (Holder.pump ∈ s.power.holders ↔ s.transfer.run.isSome = true) ∧ ∀ n : Fin 3, n ∈ s.startOrder

theorem PowerLaw.shape {s : State} (h : PowerLaw s) : PowerShape s := h.2

theorem holderPower_congr {s u : State} (rated : ∀ n : Fin 3, u.trains[n].defn.ratedPower = s.trains[n].defn.ratedPower)
    (pump : u.transfer.pump = s.transfer.pump) (h : Holder) : holderPower u h = holderPower s h := by
  cases h with
  | train n => exact rated n
  | pump => exact congrArg PumpDef.ratedPower pump

theorem SameRunning.load {s u : State} (h : SameRunning s u) : committedLoad u = committedLoad s := by
  rw [committedLoad, committedLoad, h.power, funext (holderPower_congr h.rated h.pump)]

theorem SameRunning.allowance {s u : State} (h : SameRunning s u) : effectiveAllowance u = effectiveAllowance s := by
  have reserve : setReserve u = setReserve s := congrArg₂ max (h.setRated 0) (h.setRated 1)
  rw [effectiveAllowance, effectiveAllowance, reserve, h.power]

theorem SameRunning.powerShape {s u : State} (h : SameRunning s u) (shape : PowerShape s) : PowerShape u := by
  obtain ⟨once, trains, pump, order⟩ := shape
  exact ⟨by rw [h.power]; exact once, fun n => by rw [h.power, h.running]; exact trains n,
    by rw [h.power, h.run]; exact pump, by rw [h.startOrder]; exact order⟩

theorem SameRunning.powerLaw {s u : State} (h : SameRunning s u) (law : PowerLaw s) : PowerLaw u :=
  ⟨by rw [h.load, h.allowance]; exact law.1, h.powerShape law.2⟩

theorem committedLoad_append {s u : State} (holder : Holder) (rated : ∀ h, holderPower u h = holderPower s h)
    (holders : u.power.holders = s.power.holders ++ [holder]) : committedLoad u = committedLoad s + holderPower s holder := by
  rw [committedLoad, committedLoad, holders, funext rated, List.map_append, List.sum_append, List.map_singleton, List.sum_singleton]

theorem committedLoad_filter_le {s u : State} (keep : Holder → Bool) (rated : ∀ h, holderPower u h = holderPower s h)
    (holders : u.power.holders = s.power.holders.filter keep) : committedLoad u ≤ committedLoad s := by
  rw [committedLoad, committedLoad, holders, funext rated]
  exact (List.filter_sublist.map _).sum_le_sum fun _ _ => Nat.zero_le _

theorem headroomGranted_iff (s : State) (p : Nat) : headroomGranted s p = true ↔ committedLoad s + p ≤ effectiveAllowance s :=
  decide_eq_true_iff

theorem beginTrain_trains (n : Fin 3) (s : State) (m : Fin 3) : (beginTrain n s).trains[m] = if m = n then
    { s.trains[n] with state := .priming, stopCause := none, retry := false, runTimer := 0, startedAt := s.now,
                       stage := some (.start s.trains[n].defn.primeTime) } else s.trains[m] :=
  upd_get s.trains n m _

theorem beginTrain_load (n : Fin 3) (s : State) :
    committedLoad (beginTrain n s) = committedLoad s + s.trains[n].defn.ratedPower := by
  refine committedLoad_append (.train n) (holderPower_congr (fun m => ?_) rfl) rfl
  rw [beginTrain_trains]; split
  · subst m; rfl
  · rfl

/-- A train that is OFF takes its place among the holders (R147, R158). -/
theorem PowerShape.beginTrain {s : State} (h : PowerShape s) (n : Fin 3) (off : s.trains[n].state = .off) :
    PowerShape (beginTrain n s) := by
  obtain ⟨once, trains, pump, order⟩ := h
  have holders : (Machine.beginTrain n s).power.holders = s.power.holders ++ [.train n] := rfl
  have absent : Holder.train n ∉ s.power.holders := by rw [trains, off]; simp [TrainState.running]
  refine ⟨?_, fun m => ?_, ?_, fun m => ?_⟩
  · rw [holders]; exact once.append (List.nodup_singleton _) (by simpa using absent)
  · rw [holders, List.mem_append, List.mem_singleton, trains, beginTrain_trains, Holder.train.injEq]; split
    · simp_all [TrainState.running]
    · simp_all
  · rw [holders, List.mem_append, List.mem_singleton, pump]
    have run : (Machine.beginTrain n s).transfer = s.transfer := rfl
    rw [run]; simp
  · have order' : (Machine.beginTrain n s).startOrder = s.startOrder.filter (· != n) ++ [n] := rfl
    rw [order', List.mem_append, List.mem_filter, List.mem_singleton]
    by_cases same : m = n
    · exact .inr same
    · exact .inl ⟨order m, by simpa using same⟩

theorem stopped_holders (n : Fin 3) (s : State) : (stopped n s).power.holders = s.power.holders.filter (· != .train n) := by
  rw [stopped, releaseHolder, modTrain_power, (giveUpTarget_sameRunning n s).power]

theorem stopped_startOrder (n : Fin 3) (s : State) : (stopped n s).startOrder = s.startOrder :=
  (giveUpTarget_sameRunning n s).startOrder

theorem stopped_allowance (n : Fin 3) (s : State) : effectiveAllowance (stopped n s) = effectiveAllowance s := by
  have left := giveUpTarget_sameRunning n s
  have reserve : setReserve (stopped n s) = setReserve s := congrArg₂ max (left.setRated 0) (left.setRated 1)
  have allowance : (stopped n s).power.allowance = s.power.allowance := by
    have e := congrArg PowerRecord.allowance left.power
    exact e
  rw [effectiveAllowance, effectiveAllowance, reserve, allowance]

theorem stopped_holderPower (n : Fin 3) (s : State) (h : Holder) : holderPower (stopped n s) h = holderPower s h := by
  refine holderPower_congr (s := s) (u := stopped n s) (fun m => ?_) (giveUpTarget_sameRunning n s).pump h
  rw [stopped_trains]; split
  · subst m; rfl
  · rfl

theorem PowerShape.stopped {s : State} (h : PowerShape s) (n : Fin 3) : PowerShape (stopped n s) := by
  obtain ⟨once, trains, pump, order⟩ := h
  refine ⟨?_, fun m => ?_, ?_, by rw [stopped_startOrder]; exact order⟩
  · rw [stopped_holders]; exact once.filter _
  · rw [stopped_holders, List.mem_filter, trains, stopped_trains]; split
    · simp_all [TrainState.running]
    · simp_all
  · rw [stopped_holders, List.mem_filter, pump]
    have run : (Machine.stopped n s).transfer.run.isSome = s.transfer.run.isSome := (giveUpTarget_sameRunning n s).run
    rw [run]; simp

theorem pumpStopped_holders (s : State) : (pumpStopped s).power.holders = s.power.holders.filter (· != .pump) := rfl

theorem PowerShape.pumpStopped {s : State} (h : PowerShape s) : PowerShape (pumpStopped s) := by
  obtain ⟨once, trains, pump, order⟩ := h
  have run : (Machine.pumpStopped s).transfer.run = none := rfl
  refine ⟨?_, fun m => ?_, ?_, order⟩
  · rw [pumpStopped_holders]; exact once.filter _
  · rw [pumpStopped_holders, List.mem_filter, trains]
    have same : (Machine.pumpStopped s).trains = s.trains := rfl
    rw [same]; simp
  · rw [pumpStopped_holders, List.mem_filter, run]; simp

theorem Train.not_running_of_free {w : Train} (free : w.free = true) : w.state.running = false := by
  simp only [Train.free, Bool.and_eq_true, Bool.or_eq_true, beq_iff_eq] at free
  obtain ⟨off | faulted, _⟩ := free
  · rw [off]; rfl
  · rw [faulted]; rfl

theorem Train.define_running {w : Train} (d : TrainDef) (free : w.free = true) : (w.define d).state.running = false := by
  unfold Train.define; split
  · rfl
  · exact Train.not_running_of_free free

/-- The rated power of a train that holds none changes no load (R155, R158). -/
theorem redefined_power {s : State} (n : Fin 3) (d : TrainDef) (free : s.trains[n].free = true) (shape : PowerShape s) :
    committedLoad (s.modTrain n (Train.define d)) = committedLoad s ∧ PowerShape (s.modTrain n (Train.define d)) := by
  obtain ⟨once, trains, pump, order⟩ := shape
  have rests := Train.not_running_of_free free
  have absent : Holder.train n ∉ s.power.holders := by rw [trains, rests]; simp
  refine ⟨?_, once, fun m => ?_, pump, order⟩
  · rw [committedLoad, committedLoad]
    refine congrArg List.sum (List.map_congr_left fun h hh => ?_)
    cases h with
    | pump => rfl
    | train m =>
      have other : m ≠ n := fun e => absent (e ▸ hh)
      exact congrArg (fun w : Train => w.defn.ratedPower) (upd_get_ne s.trains _ other)
  · rw [modTrain_trains, upd_get]; split
    · subst m; rw [Train.define_running d free]; exact ⟨fun hh => absurd hh absent, by simp⟩
    · exact trains m

/-- The pump takes its place among the holders (R158, R164). -/
theorem PowerShape.pumpStarts {s : State} (h : PowerShape s) (run : TransferRun) (idle : s.transfer.run = none) :
    PowerShape (pumpStarted run s) := by
  obtain ⟨once, trains, pump, order⟩ := h
  have absent : Holder.pump ∉ s.power.holders := by rw [pump, idle]; simp
  have holders : (pumpStarted run s).power.holders = s.power.holders ++ [.pump] := rfl
  have runs : (pumpStarted run s).transfer.run = some run := rfl
  refine ⟨once.append (List.nodup_singleton _) (by simpa using absent), fun m => ?_, ?_, order⟩
  · rw [holders, List.mem_append, List.mem_singleton]; simp only [reduceCtorEq, or_false]; exact trains m
  · rw [holders, runs]; simp

theorem stateFrom_powerLaw (image : Image) (defaulted : Bool) (a b : BitVec 24) (loc : Bool) (s : State) :
    PowerLaw (stateFrom image defaulted a b loc s) := by
  have holders : (stateFrom image defaulted a b loc s).power.holders = [] := rfl
  have idle : (stateFrom image defaulted a b loc s).transfer.run = none := rfl
  refine ⟨Nat.zero_le _, List.nodup_nil, fun n => ?_, by rw [holders, idle]; simp, fun n => ?_⟩
  · have off : (stateFrom image defaulted a b loc s).trains[n].state = .off := by simp only [stateFrom, updAll_get]; rfl
    rw [off, holders]; simp [TrainState.running]
  · have order : (stateFrom image defaulted a b loc s).startOrder = [0, 1, 2] := rfl
    rw [order]; revert n; decide

theorem powerShapeTrainLaw : TrainLaw PowerShape :=
  .of_running SameRunning.powerShape (fun n off _ _ h => h.beginTrain n off) (fun n h => h.stopped n)
    (fun n d free h => (redefined_power n d free h).2) (fun run idle _ h => h.pumpStarts run idle) (fun h => h.pumpStopped)
    (fun _ _ h => h) fun image defaulted a b loc s => (stateFrom_powerLaw image defaulted a b loc s).shape

theorem PowerLaw.redefined {s : State} (n : Fin 3) (d : TrainDef) (free : s.trains[n].free = true) (h : PowerLaw s) :
    PowerLaw (s.modTrain n (Train.define d)) := by
  obtain ⟨load, shape⟩ := redefined_power n d free h.shape
  exact ⟨load.trans_le h.1, shape⟩

theorem PowerLaw.pumpStarts {s : State} (run : TransferRun) (idle : s.transfer.run = none)
    (room : headroomGranted s s.transfer.pump.ratedPower = true) (h : PowerLaw s) : PowerLaw (pumpStarted run s) := by
  refine ⟨?_, h.shape.pumpStarts run idle⟩
  rw [committedLoad_append (s := s) (u := pumpStarted run s) .pump (holderPower_congr (fun _ => rfl) rfl) rfl]
  exact (headroomGranted_iff s _).mp room

/-- The rated power of a pump that does not run changes no load (R158, R163). -/
theorem PowerLaw.pumpDefined {s : State} (pump : PumpDef) (idle : s.transfer.run = none) (h : PowerLaw s) :
    PowerLaw { s with transfer := { s.transfer with pump := pump } } := by
  refine ⟨le_of_eq_of_le ?_ h.1, h.2⟩
  rw [committedLoad, committedLoad]
  refine congrArg List.sum (List.map_congr_left fun holder hh => ?_)
  cases holder with
  | train n => rfl
  | pump =>
    obtain ⟨_, _, held, _⟩ := h.shape
    have runs := held.mp hh
    rw [idle] at runs; cases runs

theorem powerTrainLaw : TrainLaw PowerLaw :=
  .of_running SameRunning.powerLaw
    (fun n off _ room h => ⟨by rw [beginTrain_load]; exact (headroomGranted_iff _ _).mp room, h.shape.beginTrain n off⟩)
    (fun {s} n h => ⟨(committedLoad_filter_le _ (stopped_holderPower n s) (stopped_holders n s)).trans (by
      rw [stopped_allowance]; exact h.1), h.shape.stopped n⟩)
    PowerLaw.redefined PowerLaw.pumpStarts
    (fun {s} h => ⟨(committedLoad_filter_le (s := s) (u := pumpStopped s) _ (holderPower_congr (fun _ => rfl) rfl)
      (pumpStopped_holders s)).trans h.1, h.shape.pumpStopped⟩)
    PowerLaw.pumpDefined stateFrom_powerLaw

/-! ### Shedding (R161) -/

/-- A start check leaves the state as it is, or starts a train within the allowance. -/
theorem PowerShape.startCheck {s : State} (h : PowerShape s) : startCheck s = s ∨ PowerLaw (startCheck s) := by
  obtain ⟨n, may, _, _, _, _, room, e⟩ | e := startCheck_cases s
  · right
    simp only [startable, Bool.and_eq_true, beq_iff_eq] at may
    rw [e]
    exact ⟨by rw [beginTrain_load]; exact (headroomGranted_iff s _).mp room, h.beginTrain n may.1.1.1⟩
  · exact .inl e

theorem SameRunning.holders {s u : State} (h : SameRunning s u) : u.power.holders = s.power.holders := by rw [h.power]

theorem filter_ne_length_lt {l : List Holder} {h : Holder} (mem : h ∈ l) : (l.filter (· != h)).length < l.length :=
  List.length_filter_lt_length_iff_exists.mpr ⟨h, mem, by simp⟩

/-- One stop takes a holder off the list, or the start check behind it has put the load in order. -/
theorem haltTrain_sheds {s : State} (h : PowerShape s) (n : Fin 3) (cause : StopCause) (holds : .train n ∈ s.power.holders) :
    PowerLaw (haltTrain n cause s) ∨ (haltTrain n cause s).power.holders.length < s.power.holders.length := by
  obtain ⟨v, halted, e⟩ := haltTrain_eq n cause s
  rw [e]
  obtain same | law := (halted.powerShape (h.stopped n)).startCheck
  · right; rw [same, halted.holders, stopped_holders]; exact filter_ne_length_lt holds
  · exact .inl law

theorem endTransfer_sheds {s : State} (h : PowerShape s) (cause : TransferCause) (holds : .pump ∈ s.power.holders) :
    PowerLaw (endTransfer cause s) ∨ (endTransfer cause s).power.holders.length < s.power.holders.length := by
  obtain ⟨_, _, pump, _⟩ := id h
  obtain ⟨r, run⟩ := Option.isSome_iff_exists.mp (pump.mp holds)
  obtain ⟨v, ended, e⟩ : ∃ v, SamePlant (pumpStopped s) v ∧ endTransfer cause s = Machine.startCheck v := by
    obtain e | ended := endTransfer_eq cause s
    · have idle : (endTransfer cause s).transfer.run = none := by
        simp only [endTransfer, run]
        rw [(startCheck_besideTrains _).transfer, post_transfer]
      rw [e, run] at idle; cases idle
    · exact ended
  rw [e]
  obtain same | law := (ended.powerShape h.pumpStopped).startCheck
  · right; rw [same, ended.holders, pumpStopped_holders]; exact filter_ne_length_lt holds
  · exact .inl law

/-- With the pump stopped and no running train in the start order nobody holds power. -/
theorem PowerShape.no_holders {s : State} (h : PowerShape s) (pump : .pump ∉ s.power.holders) (none : newestRunning s = none) :
    s.power.holders = [] := by
  obtain ⟨_, trains, _, order⟩ := h
  refine List.eq_nil_iff_forall_not_mem.mpr fun holder hh => ?_
  cases holder with
  | pump => exact pump hh
  | train n =>
    have rests := List.find?_eq_none.mp none n (List.mem_reverse.mpr (order n))
    exact rests ((trains n).mp hh)

theorem newestRunning_holds {s : State} (h : PowerShape s) {n : Fin 3} (found : newestRunning s = some n) :
    .train n ∈ s.power.holders := by
  obtain ⟨_, trains, _, _⟩ := h
  have runs : s.trains[n].state.running = true := by
    have held := List.find?_some (p := fun m : Fin 3 => s.trains[m].state.running) found
    exact held
  exact (trains n).mpr runs

/-- Shedding ends with a load within the allowance: with a round for each holder, or with the load in order before (R161). -/
theorem shedRounds_powerLaw (cause : ShedCause) : ∀ (fuel : Nat) (s : State), PowerShape s →
    PowerLaw s ∨ s.power.holders.length ≤ fuel → PowerLaw (shedRounds cause fuel s)
  | 0, s, h, enough => by
    obtain law | none := enough
    · exact law
    · rw [shedRounds]
      refine ⟨?_, h⟩
      rw [committedLoad, List.length_eq_zero_iff.mp (Nat.le_zero.mp none)]; exact Nat.zero_le _
  | fuel + 1, s, h, enough => by
    rw [shedRounds]
    by_cases fits : committedLoad s ≤ effectiveAllowance s
    · rw [if_pos fits]; exact ⟨fits, h⟩
    · have few : s.power.holders.length ≤ fuel + 1 := enough.resolve_left fun law => fits law.1
      have posted (n : NoticeBody) : PowerShape (post n s) := (post_samePlant n s).powerShape h
      have holders (n : NoticeBody) : (post n s).power.holders = s.power.holders := (post_samePlant n s).holders
      rw [if_neg fits]
      split
      · rename_i holds
        rw [List.contains_iff_mem] at holds
        refine shedRounds_powerLaw cause fuel _ (powerShapeTrainLaw.endTransfer _ (posted _)) ?_
        refine (endTransfer_sheds (posted _) .shed (by rw [holders]; exact holds)).imp_right fun less => ?_
        rw [holders] at less; omega
      · rename_i released
        rw [List.contains_iff_mem] at released
        split
        · rename_i none
          refine ⟨?_, h⟩
          rw [committedLoad, h.no_holders released none]; exact Nat.zero_le _
        · rename_i n found
          refine shedRounds_powerLaw cause fuel _ (powerShapeTrainLaw.haltTrain n _ (posted _)) ?_
          refine (haltTrain_sheds (posted _) n .shed (by rw [holders]; exact newestRunning_holds h found)).imp_right fun less => ?_
          rw [holders] at less; omega

/-- The trains and the pump, numbered: there are four holders at most (R158). -/
def Holder.number : Holder → Fin 4
  | .train n => n.castSucc
  | .pump => 3

theorem Holder.number_injective : Function.Injective Holder.number := by
  intro a b e
  cases a with
  | train n =>
    cases b with
    | train m => exact congrArg Holder.train (Fin.castSucc_injective 3 e)
    | pump => exact absurd (congrArg Fin.val e) (by simp only [number, Fin.val_castSucc]; exact Nat.ne_of_lt n.isLt)
  | pump =>
    cases b with
    | train m => exact absurd (congrArg Fin.val e) (by simp only [number, Fin.val_castSucc]; exact Nat.ne_of_gt m.isLt)
    | pump => rfl

theorem PowerShape.holders_length {s : State} (h : PowerShape s) : s.power.holders.length ≤ 4 := by
  obtain ⟨once, _⟩ := h
  have numbered := (once.map Holder.number_injective).length_le_card
  rwa [List.length_map, Fintype.card_fin] at numbered

/-- A new effective allowance is taken: what was lost of the law is restored (R160, R161). -/
theorem PowerShape.allowanceChanged {s : State} (h : PowerShape s) (cause : ShedCause) (old : Nat) :
    PowerLaw (allowanceChanged cause old s) := by
  unfold Machine.allowanceChanged; split
  · exact shedRounds_powerLaw cause 4 s h (.inr h.holders_length)
  · rename_i fits
    have law : PowerLaw s := ⟨Nat.le_of_not_lt fits, h⟩
    exact ite_keeps _ (powerTrainLaw.startCheck law) law

/-! ### Every act -/

theorem StartLaw.allowanceChanged {s : State} (h : StartLaw s) (cause : ShedCause) (old : Nat) :
    StartLaw (allowanceChanged cause old s) := by
  have c := startTrainLaw
  exact allowanceChanged_keeps (fun n u hu => c.same (post_samePlant n u) hu) (fun u hu => c.endTransfer _ hu)
    (fun n u hu => c.haltTrain n _ hu) (fun u hu => c.startCheck hu) cause old s h

theorem writeSets_trains (body : List Byte) (s : State) : (writeSets body s).trains = s.trains := by simp only [writeSets]
theorem writeSets_power (body : List Byte) (s : State) : (writeSets body s).power = s.power := by simp only [writeSets]
theorem writeSets_transfer (body : List Byte) (s : State) : (writeSets body s).transfer = s.transfer := by simp only [writeSets]
theorem writeSets_startOrder (body : List Byte) (s : State) : (writeSets body s).startOrder = s.startOrder := by
  simp only [writeSets]

theorem PowerShape.of_same {s u : State} (h : PowerShape s) (trains : u.trains = s.trains)
    (holders : u.power.holders = s.power.holders) (transfer : u.transfer = s.transfer) (order : u.startOrder = s.startOrder) :
    PowerShape u := by
  unfold PowerShape at h ⊢; rw [trains, holders, transfer, order]; exact h

theorem PowerShape.writeSets {s : State} (h : PowerShape s) (body : List Byte) : PowerShape (writeSets body s) :=
  h.of_same (writeSets_trains body s) (by rw [writeSets_power]) (writeSets_transfer body s) (writeSets_startOrder body s)

theorem StartLaw.writeSets {s : State} (h : StartLaw s) (body : List Byte) : StartLaw (writeSets body s) :=
  h.of_starting fun n starts => by rw [Starting, writeSets_trains] at starts; exact starts

theorem StartLaw.applyAllowance {s : State} (h : StartLaw s) (allowance : Nat) : StartLaw (applyAllowance allowance s) := by
  have written : StartLaw { s with power := { s.power with allowance := allowance } } := h
  exact written.allowanceChanged _ _

theorem PowerShape.applyAllowance {s : State} (h : PowerShape s) (allowance : Nat) : PowerLaw (applyAllowance allowance s) := by
  have written : PowerShape { s with power := { s.power with allowance := allowance } } := h.of_same rfl rfl rfl rfl
  exact written.allowanceChanged _ _

theorem StartLaw.applySets {s : State} (h : StartLaw s) (body : List Byte) : StartLaw (applySets body s) := by
  have settled := startTrainLaw.same (settleSets_besideSets (defineCause s) _).samePlant (h.writeSets body)
  exact settled.allowanceChanged _ _

theorem PowerShape.applySets {s : State} (h : PowerShape s) (body : List Byte) : PowerLaw (applySets body s) := by
  have settled := powerShapeTrainLaw.same (settleSets_besideSets (defineCause s) _).samePlant (h.writeSets body)
  exact settled.allowanceChanged _ _

theorem Act.keeps_startLaw {s u : State} (act : Act s u) (h : StartLaw s) : StartLaw u :=
  startTrainLaw.act (startTrainLaw.cascade_of_running StartLaw.of_running) act h.applyAllowance h.applySets h

theorem Act.keeps_powerLaw {s u : State} (act : Act s u) (h : PowerLaw s) : PowerLaw u :=
  powerTrainLaw.act (powerTrainLaw.cascade_of_running SameRunning.powerLaw) act h.shape.applyAllowance h.shape.applySets h

theorem modSerial_samePlant (s : State) (ln : LinkLine) (f : SerialLine → SerialLine) : SamePlant s (s.modSerial ln f) := by
  cases ln <;> exact .of_same rfl rfl rfl rfl rfl rfl rfl rfl

theorem TrainLaw.step {law : State → Prop} (c : TrainLaw law) (hact : ∀ s u, Act s u → law s → law u) {s t : State} (h : law s)
    (hstep : step s = .next t) : law t :=
  step_keeps_of_acts (fun _ _ hs => c.of_same hs rfl rfl rfl rfl rfl rfl rfl rfl)
    (fun _ hs => c.of_same hs rfl rfl rfl rfl rfl rfl rfl rfl) (fun ln f u hu => c.same (modSerial_samePlant u ln f) hu)
    (fun _ _ hs => c.of_same hs rfl rfl rfl rfl rfl rfl rfl rfl) hact h hstep

/-- Settles O51: the sets' law by what each change of a set leaves ready to be worked out, the laws of the trains and the power by their
starts, stops and sheddings. -/
theorem setsStartAndPowerLawsAreKept : Obligations.SetsStartAndPowerLawsAreKept :=
  ⟨fun _ _ h hstep => h.step hstep, fun _ _ hstep =>
    ⟨fun h => startTrainLaw.step (fun _ _ act hu => act.keeps_startLaw hu) h hstep,
      fun h => powerTrainLaw.step (fun _ _ act hu => act.keeps_powerLaw hu) h hstep⟩⟩

end Sys2Proof.Machine
end


section
/-!
The law of the fill targets (R15, R59, R72, R141, R142): the lists agree with the targets, the candidates are those of the tanks, and every
target is a candidate. Each of the three is a `TrainLaw`; the first alone is left while a tank has been written, and the Evaluator and the
retargeting restore the other two.
-/

namespace Sys2Proof.Machine

/-! ### Laws that look at the targets and the candidates -/

theorem modTrain_sameFills (s : State) (n : Fin 3) {f : Train → Train}
    (producing : (f s.trains[n]).state = .producing ↔ s.trains[n].state = .producing)
    (target : (f s.trains[n]).target = s.trains[n].target := by rfl) : SameFills s (s.modTrain n f) where
  producing m := by
    rw [modTrain_trains, upd_get]; split
    · subst m; exact producing
    · rfl
  target m := by
    rw [modTrain_trains, upd_get]; split
    · subst m; exact target
    · rfl
  fillTrains _ := rfl
  candidates := rfl
  candidate _ := rfl

theorem beginTrain_sameFills {n : Fin 3} {s : State} (off : s.trains[n].state = .off) : SameFills s (beginTrain n s) := by
  have begun := modTrain_sameFills s n (f := fun w =>
    { w with state := .priming, stopCause := none, retry := false, runTimer := 0, startedAt := s.now,
             stage := some (.start w.defn.primeTime) }) (by rw [off]; simp)
  exact { begun with }

theorem redefined_sameFills {n : Fin 3} {s : State} (d : TrainDef) (free : s.trains[n].free = true) :
    SameFills s (s.modTrain n (Train.define d)) := by
  refine modTrain_sameFills s n ?_ ?_
  · exact ⟨fun e => absurd e (not_producing_of_rests (Train.define_running d free)),
      fun e => absurd e (not_producing_of_rests (Train.not_running_of_free free))⟩
  · unfold Train.define; split <;> rfl

/-- A law of the targets and the candidates that the end and the start of a production keep is a `TrainLaw`. -/
theorem TrainLaw.of_fills {law : State → Prop} (same : ∀ {s u}, SameFills s u → law s → law u)
    (stops : ∀ {s} (n : Fin 3), law s → law (stopped n s))
    (produces : ∀ {s} (n : Fin 3) (t : Fin 12), s.trains[n].state = .diverting → t ∈ s.eval.fillCandidates → law s → law (produced n t s))
    (diverts : ∀ {s} (n : Fin 3), s.trains[n].state = .producing → law s → law (excursion n s))
    (fresh : ∀ (image : Image) (defaulted : Bool) (a b : BitVec 24) (loc : Bool) (s : State),
      law (stateFrom image defaulted a b loc s)) : TrainLaw law where
  same h := same h.toSameFills
  begins _ off _ _ h := same (beginTrain_sameFills off) h
  stops := stops
  produces := produces
  diverts := diverts
  redefined _ d free h := same (redefined_sameFills d free) h
  pumpStarts {s} _ _ _ h := same (s := s) ⟨⟨fun _ => Iff.rfl, fun _ => rfl, fun _ => rfl⟩, rfl, fun _ => rfl⟩ h
  pumpStops {s} h := same (s := s) ⟨⟨fun _ => Iff.rfl, fun _ => rfl, fun _ => rfl⟩, rfl, fun _ => rfl⟩ h
  pumpDefined {s} _ _ h := same (s := s) ⟨⟨fun _ => Iff.rfl, fun _ => rfl, fun _ => rfl⟩, rfl, fun _ => rfl⟩ h
  fresh := fresh

theorem TrainLaw.and {p q : State → Prop} (c : TrainLaw p) (d : TrainLaw q) : TrainLaw fun s => p s ∧ q s where
  same hs h := ⟨c.same hs h.1, d.same hs h.2⟩
  begins n off alone room h := ⟨c.begins n off alone room h.1, d.begins n off alone room h.2⟩
  stops n h := ⟨c.stops n h.1, d.stops n h.2⟩
  produces n t diverting cand h := ⟨c.produces n t diverting cand h.1, d.produces n t diverting cand h.2⟩
  diverts n producing h := ⟨c.diverts n producing h.1, d.diverts n producing h.2⟩
  redefined n d' free h := ⟨c.redefined n d' free h.1, d.redefined n d' free h.2⟩
  pumpStarts run idle room h := ⟨c.pumpStarts run idle room h.1, d.pumpStarts run idle room h.2⟩
  pumpStops h := ⟨c.pumpStops h.1, d.pumpStops h.2⟩
  pumpDefined pump idle h := ⟨c.pumpDefined pump idle h.1, d.pumpDefined pump idle h.2⟩
  fresh image defaulted a b loc s := ⟨c.fresh image defaulted a b loc s, d.fresh image defaulted a b loc s⟩

/-! ### The lists and the targets -/

theorem FillLists.of_same {s u : State} (h : FillLists s) (same : SameTargets s u) : FillLists u := by
  obtain ⟨lists, once, producing⟩ := h
  exact ⟨fun n t => by rw [same.fillTrains, same.target]; exact lists n t, fun t => by rw [same.fillTrains]; exact once t,
    fun n => by rw [same.target, same.producing]; exact producing n⟩

/-- A train that does not produce stands in no list. -/
theorem FillLists.not_mem {s : State} (h : FillLists s) {n : Fin 3} (idle : s.trains[n].state ≠ .producing) (t : Fin 12) :
    n ∉ s.tanks[t].fillTrains := by
  obtain ⟨lists, _, producing⟩ := h
  intro mem
  exact idle ((producing n).mp (by rw [(lists n t).mp mem]; rfl))

theorem filter_ne_of_not_mem {n : Fin 3} {l : List (Fin 3)} (h : n ∉ l) : l.filter (· != n) = l :=
  List.filter_eq_self.mpr fun _ hm => bne_iff_ne.mpr fun e => h (e ▸ hm)

/-- A train that gives its target up leaves every list (R143). -/
theorem giveUpTarget_fillTrains {s : State} (h : FillLists s) (n : Fin 3) (t : Fin 12) :
    (giveUpTarget n s).tanks[t].fillTrains = s.tanks[t].fillTrains.filter (· != n) := by
  obtain ⟨lists, _, _⟩ := h
  unfold giveUpTarget; dsimp only; split
  · rename_i old target
    rw [modTrain_tanks, modTank_tanks, upd_get]; split
    · subst t; rfl
    · rename_i other
      refine (filter_ne_of_not_mem fun mem => other ?_).symm
      rw [(lists n t).mp mem] at target; cases target; rfl
  · rename_i none
    refine (filter_ne_of_not_mem fun mem => ?_).symm
    rw [(lists n t).mp mem] at none; cases none

theorem giveUpTarget_candidates (n : Fin 3) (s : State) : (giveUpTarget n s).eval = s.eval ∧
    ∀ t : Fin 12, (giveUpTarget n s).tanks[t].fillCandidate = s.tanks[t].fillCandidate := by
  unfold giveUpTarget; dsimp only; split
  · exact ⟨rfl, upd_view s.tanks _ fun _ => rfl⟩
  · exact ⟨rfl, fun _ => rfl⟩

/-- A train leaves every list and has no target; the others keep theirs. -/
theorem FillLists.left {s u : State} (h : FillLists s) (n : Fin 3)
    (lists : ∀ t : Fin 12, u.tanks[t].fillTrains = s.tanks[t].fillTrains.filter (· != n))
    (idle : u.trains[n].target = none ∧ u.trains[n].state ≠ .producing)
    (others : ∀ m : Fin 3, m ≠ n → u.trains[m] = s.trains[m]) : FillLists u := by
  obtain ⟨before, once, producing⟩ := h
  refine ⟨fun m t => ?_, fun t => ?_, fun m => ?_⟩
  · rw [lists, List.mem_filter, before, bne_iff_ne]
    by_cases same : m = n
    · subst m; rw [idle.1]; simp
    · rw [others m same]; simp [same]
  · rw [lists]; exact (once t).filter _
  · by_cases same : m = n
    · subst m; simp only [idle.1, idle.2, Option.isSome_none, Bool.false_eq_true]
    · rw [others m same]; exact producing m

theorem FillLists.stopped {s : State} (h : FillLists s) (n : Fin 3) : FillLists (stopped n s) := by
  refine h.left n (giveUpTarget_fillTrains h n) ?_ fun m other => ?_
  · rw [stopped_trains, if_pos rfl]; simp
  · rw [stopped_trains, if_neg other]

theorem excursion_trains (n : Fin 3) (s : State) (m : Fin 3) : (excursion n s).trains[m] =
    if m = n then
      { s.trains[n] with
        state := .diverting, target := none, producingSince := none, stage := some (.start s.trains[n].defn.divertMax),
        qualification := .start s.trains[n].defn.qualificationHold, stall := .idle }
    else s.trains[m] := by
  rw [excursion, enterDiverting, modTrain_trains, upd_get, giveUpTarget_trains, giveUpTarget_trains, if_pos rfl]
  split <;> rfl

theorem FillLists.excursion {s : State} (h : FillLists s) (n : Fin 3) : FillLists (excursion n s) := by
  refine h.left n (giveUpTarget_fillTrains h n) ?_ fun m other => ?_
  · rw [excursion_trains, if_pos rfl]; simp
  · rw [excursion_trains, if_neg other]

theorem produced_trains (n : Fin 3) (t : Fin 12) (s : State) (m : Fin 3) : (produced n t s).trains[m] =
    if m = n then
      { s.trains[n] with
        state := .producing, target := some t, producingSince := some s.now, stage := none, qualification := .idle,
        stall := .start s.trains[n].defn.productStall }
    else s.trains[m] := upd_get s.trains n m _

theorem produced_fillTrains (n : Fin 3) (t : Fin 12) (s : State) (u : Fin 12) : (produced n t s).tanks[u].fillTrains =
    if u = t then s.tanks[u].fillTrains ++ [n] else s.tanks[u].fillTrains := by
  rw [produced, modTrain_tanks, modTank_tanks, upd_get]; split
  · subst u; rfl
  · rfl

theorem FillLists.produced {s : State} (h : FillLists s) (n : Fin 3) (t : Fin 12) (diverting : s.trains[n].state = .diverting) :
    FillLists (produced n t s) := by
  have absent (u : Fin 12) : n ∉ s.tanks[u].fillTrains := h.not_mem (by rw [diverting]; simp) u
  obtain ⟨lists, once, producing⟩ := h
  refine ⟨fun m u => ?_, fun u => ?_, fun m => ?_⟩
  · rw [produced_fillTrains, produced_trains]
    by_cases same : m = n
    · subst m
      rw [if_pos rfl]; split
      · subst u; simp
      · rename_i other
        simp only [absent u, false_iff, Option.some.injEq]
        exact fun e => other e.symm
    · rw [if_neg same]; split
      · rw [← lists m u]; simp [same]
      · exact lists m u
  · rw [produced_fillTrains]; split
    · exact (once u).append (List.nodup_singleton _) (by simpa using absent u)
    · exact once u
  · rw [produced_trains]; split
    · simp
    · exact producing m

theorem stateFrom_trains (image : Image) (defaulted : Bool) (a b : BitVec 24) (loc : Bool) (s : State) (n : Fin 3) :
    (stateFrom image defaulted a b loc s).trains[n] = .fresh image.trains[n] := by simp only [stateFrom, updAll_get]

theorem stateFrom_tanks (image : Image) (defaulted : Bool) (a b : BitVec 24) (loc : Bool) (s : State) (t : Fin 12) :
    (stateFrom image defaulted a b loc s).tanks[t] = tankFrom image.tanks[t] := by simp only [stateFrom, updAll_get]

theorem tankFrom_fillTrains (k : Option SavedTank) : (tankFrom k).fillTrains = [] := by cases k <;> rfl

theorem tankFrom_not_inService (k : Option SavedTank) : (tankFrom k).state ≠ .inService := by
  cases k <;> simp [tankFrom, Tank.fresh, Tank.unconfigured]

theorem fillListsTrainLaw : TrainLaw FillLists :=
  .of_fills (fun same h => h.of_same same.toSameTargets) (fun n h => h.stopped n) (fun n t diverting _ h => h.produced n t diverting)
    (fun n _ h => h.excursion n) fun image defaulted a b loc s => by
      refine ⟨fun n t => ?_, fun t => ?_, fun n => ?_⟩
      · rw [stateFrom_trains, stateFrom_tanks, tankFrom_fillTrains]; simp [Train.fresh]
      · rw [stateFrom_tanks, tankFrom_fillTrains]; exact List.nodup_nil
      · rw [stateFrom_trains]; simp [Train.fresh]

/-! ### The candidates -/

/-- The fill candidates held are those of the tanks (R59). -/
def CandidatesLaw (s : State) : Prop := ∀ t : Fin 12, t ∈ s.eval.fillCandidates ↔ s.tanks[t].fillCandidate = true

theorem Tank.fillCandidate_iff (k : Tank) : k.fillCandidate = true ↔ k.state = .inService ∧ k.fillMeasure < k.defn.fillStop := by
  simp only [Tank.fillCandidate, Bool.and_eq_true, beq_iff_eq, Bool.not_eq_true', Tank.full, Tank.defined]
  constructor
  · rintro ⟨served, notFull⟩
    simp only [served] at notFull
    exact ⟨served, by simpa using notFull⟩
  · rintro ⟨served, room⟩
    exact ⟨served, by simp [served, room]⟩

theorem candidatesTrainLaw : TrainLaw CandidatesLaw :=
  .of_fills (fun same h t => by rw [same.candidates, same.candidate]; exact h t)
    (fun {s} n h t => by
      obtain ⟨eval, candidate⟩ := giveUpTarget_candidates n s
      have kept : (stopped n s).eval.fillCandidates = s.eval.fillCandidates := congrArg Evaluator.fillCandidates eval
      have same : (stopped n s).tanks[t].fillCandidate = s.tanks[t].fillCandidate := candidate t
      rw [kept, same]; exact h t)
    (fun {s} n d _ _ h t => by
      have same : (produced n d s).tanks[t].fillCandidate = s.tanks[t].fillCandidate :=
        upd_view s.tanks d (f := fun k => { k with fillTrains := k.fillTrains ++ [n] }) (fun _ => rfl) t
      rw [same]; exact h t)
    (fun {s} n _ h t => by
      obtain ⟨eval, candidate⟩ := giveUpTarget_candidates n s
      have kept : (excursion n s).eval.fillCandidates = s.eval.fillCandidates := congrArg Evaluator.fillCandidates eval
      have same : (excursion n s).tanks[t].fillCandidate = s.tanks[t].fillCandidate := candidate t
      rw [kept, same]; exact h t)
    fun image defaulted a b loc s t => by
      have none : (stateFrom image defaulted a b loc s).eval.fillCandidates = [] := rfl
      rw [none, Tank.fillCandidate_iff, stateFrom_tanks]
      simp [tankFrom_not_inService]

theorem evaluate_candidatesLaw (s : State) : CandidatesLaw (evaluate s) := by
  refine candidatesTrainLaw.same (checkDuty_samePlant _) fun t => ?_
  simp [workOutCandidates, allTanks]

/-- Every target is a fill candidate (R72, R142). -/
def TargetsLaw (s : State) : Prop := ∀ (n : Fin 3) (t : Fin 12), s.trains[n].target = some t → t ∈ s.eval.fillCandidates

theorem targetsTrainLaw : TrainLaw TargetsLaw :=
  .of_fills (fun same h n t target => by rw [same.target] at target; rw [same.candidates]; exact h n t target)
    (fun {s} n h m t target => by
      have kept : (stopped n s).eval.fillCandidates = s.eval.fillCandidates :=
        congrArg Evaluator.fillCandidates (giveUpTarget_candidates n s).1
      rw [stopped_trains] at target
      rw [kept]; split at target
      · cases target
      · exact h m t target)
    (fun {s} n d _ candidate h m t target => by
      rw [produced_trains] at target; split at target
      · cases target; exact candidate
      · exact h m t target)
    (fun {s} n _ h m t target => by
      have kept : (excursion n s).eval.fillCandidates = s.eval.fillCandidates :=
        congrArg Evaluator.fillCandidates (giveUpTarget_candidates n s).1
      rw [excursion_trains] at target
      rw [kept]; split at target
      · cases target
      · exact h m t target)
    fun image defaulted a b loc s n t target => by rw [stateFrom_trains] at target; cases target

/-! ### Retargeting (R72, R142) -/

theorem startCheck_sameFills (s : State) : SameFills s (startCheck s) := by
  obtain ⟨n, may, _, _, _, _, _, e⟩ | e := startCheck_cases s <;> rw [e]
  · simp only [startable, Bool.and_eq_true, beq_iff_eq] at may
    exact beginTrain_sameFills may.1.1.1
  · exact (SamePlant.refl s).toSameFills

theorem haltTrain_sameFills (n : Fin 3) (cause : StopCause) (s : State) : SameFills (stopped n s) (haltTrain n cause s) := by
  obtain ⟨v, halted, e⟩ := haltTrain_eq n cause s
  rw [e]
  exact halted.toSameFills.trans (startCheck_sameFills v)

/-- With lists that agree, a train has lost its target when the target is no candidate. -/
theorem lostTarget_iff {s : State} (h : FillLists s) (n : Fin 3) :
    lostTarget s n = true ↔ ∃ t, s.trains[n].target = some t ∧ t ∉ s.eval.fillCandidates := by
  obtain ⟨_, _, producing⟩ := h
  simp only [lostTarget, Bool.and_eq_true, beq_iff_eq, ← producing n]
  cases s.trains[n].target with
  | none => simp
  | some t => simp

/-- What a lost train's new target leaves: the others' targets, and the candidates. -/
structure Retargeted (n : Fin 3) (s u : State) : Prop where
  lists : FillLists u
  candidates : u.eval.fillCandidates = s.eval.fillCandidates
  candidate : ∀ t : Fin 12, u.tanks[t].fillCandidate = s.tanks[t].fillCandidate
  others : ∀ m : Fin 3, m ≠ n → u.trains[m].target = s.trains[m].target
  found : ∀ t, u.trains[n].target = some t → t ∈ s.eval.fillCandidates

theorem FillLists.retargeted {s : State} (h : FillLists s) {n : Fin 3} (lost : lostTarget s n = true) :
    Retargeted n s (retarget s n) := by
  obtain ⟨old, target, left⟩ := (lostTarget_iff h n).mp lost
  unfold retarget; split
  · rename_i t found
    have candidate := selectFill_mem found
    obtain ⟨lists, once, producing⟩ := id h
    simp only [target]
    obtain ⟨u, hu⟩ : ∃ u, u = ((s.modTank old fun k => { k with fillTrains := k.fillTrains.filter (· != n) }).modTank t fun k =>
        { k with fillTrains := k.fillTrains ++ [n] }).modTrain n fun w => { w with target := some t } := ⟨_, rfl⟩
    rw [← hu]
    have trains (m : Fin 3) : u.trains[m] = if m = n then { s.trains[n] with target := some t } else s.trains[m] := by
      rw [hu]; exact upd_get s.trains n m _
    have fills (x : Fin 12) : u.tanks[x].fillTrains = s.tanks[x].fillTrains.filter (· != n) ++ if x = t then [n] else [] := by
      have apart (e : x ≠ old) : s.tanks[x].fillTrains.filter (· != n) = s.tanks[x].fillTrains :=
        filter_ne_of_not_mem fun mem => e (Option.some.inj (((lists n x).mp mem).symm.trans target))
      rw [hu, modTrain_tanks, modTank_tanks, modTank_tanks, upd_get]; split
      · subst x
        have other : t ≠ old := fun e => left (e ▸ candidate)
        rw [upd_get_ne _ _ other, apart other]
      · rw [upd_get, List.append_nil]; split
        · subst x; rfl
        · rename_i other; exact (apart other).symm
    refine ⟨⟨fun m x => ?_, fun x => ?_, fun m => ?_⟩, by rw [hu]; rfl, fun x => ?_, fun m other => ?_, fun x found' => ?_⟩
    · rw [fills, trains, List.mem_append, List.mem_filter, bne_iff_ne]
      by_cases same : m = n
      · subst m; rw [if_pos rfl]; simp only [ne_eq, not_true_eq_false, and_false, false_or, Option.some.injEq]
        split
        · subst x; simp
        · rename_i other; simpa using fun e => other e.symm
      · rw [if_neg same, ← lists m x]; split <;> simp [same]
    · rw [fills]
      refine ((once x).filter _).append ?_ ?_
      · split
        · exact List.nodup_singleton _
        · exact List.nodup_nil
      · split <;> simp
    · rw [trains]; split
      · simp only [Option.isSome_some, true_iff]; exact (producing n).mp (by rw [target]; rfl)
      · exact producing m
    · have filled (v : State) (y : Fin 12) (f : List (Fin 3) → List (Fin 3)) :
          (v.modTank y fun k => { k with fillTrains := f k.fillTrains }).tanks[x].fillCandidate = v.tanks[x].fillCandidate :=
        upd_view v.tanks y (f := fun k => { k with fillTrains := f k.fillTrains }) (fun _ => rfl) x
      rw [hu]
      exact (filled _ t (· ++ [n])).trans (filled s old (·.filter (· != n)))
    · rw [trains, if_neg other]
    · rw [trains, if_pos rfl] at found'; cases found'; exact candidate
  · have halted := haltTrain_sameFills n .noTarget s
    obtain ⟨eval, candidate⟩ := giveUpTarget_candidates n s
    refine ⟨(h.stopped n).of_same halted.toSameTargets, halted.candidates.trans (congrArg Evaluator.fillCandidates eval),
      fun x => (halted.candidate x).trans (candidate x), fun m other => ?_, fun x found => ?_⟩
    · rw [halted.target, stopped_trains, if_neg other]
    · rw [halted.target, stopped_trains, if_pos rfl] at found; cases found

/-- After a new target only the other trains that had lost theirs are left without. -/
theorem Retargeted.lost_iff {s u : State} {n : Fin 3} (h : FillLists s) (r : Retargeted n s u) (m : Fin 3) :
    lostTarget u m = true ↔ lostTarget s m = true ∧ m ≠ n := by
  rw [lostTarget_iff r.lists, lostTarget_iff h, r.candidates]
  by_cases same : m = n
  · subst m
    simp only [ne_eq, not_true_eq_false, and_false, iff_false, not_exists, not_and, not_not]
    exact r.found
  · rw [r.others m same]; simp [same]

/-- Every train that has lost its target takes its turn once: none is left without a candidate. -/
theorem FillLists.foldl_retarget : ∀ (l : List (Fin 3)) {s : State}, FillLists s → CandidatesLaw s → l.Nodup →
    (∀ m, lostTarget s m = true ↔ m ∈ l) → FillLists (l.foldl Machine.retarget s) ∧ CandidatesLaw (l.foldl Machine.retarget s) ∧
      TargetsLaw (l.foldl Machine.retarget s)
  | [], s, h, known, _, lost => by
    refine ⟨h, known, fun n t target => Decidable.byContradiction fun left => ?_⟩
    exact absurd ((lost n).mp ((lostTarget_iff h n).mpr ⟨t, target, left⟩)) List.not_mem_nil
  | n :: l, s, h, known, once, lost => by
    have r := h.retargeted ((lost n).mpr List.mem_cons_self)
    obtain ⟨fresh, once⟩ := List.nodup_cons.mp once
    refine FillLists.foldl_retarget l r.lists (fun t => by rw [r.candidates, r.candidate]; exact known t) once fun m => ?_
    rw [r.lost_iff h, lost, List.mem_cons]
    constructor
    · rintro ⟨rfl | mem, other⟩
      · exact absurd rfl other
      · exact mem
    · exact fun mem => ⟨.inr mem, fun e => fresh (e ▸ mem)⟩

/-- An order of asking names every train once. -/
theorem trainOrders_getD (i : Nat) : (trainOrders.getD i allTrains).Nodup ∧ ∀ n : Fin 3, n ∈ trainOrders.getD i allTrains := by
  by_cases small : i < 6
  · revert small; revert i; decide
  · rw [List.getD_eq_default _ _ (by simpa [trainOrders] using small)]; exact ⟨List.nodup_finRange 3, List.mem_finRange⟩

theorem FillLists.retargetAll {s : State} (h : FillLists s) (known : CandidatesLaw s) :
    FillLists (retargetAll s) ∧ CandidatesLaw (retargetAll s) ∧ TargetsLaw (retargetAll s) := by
  unfold Machine.retargetAll; dsimp only; split
  · refine h.foldl_retarget _ known ((List.nodup_finRange 3).filter _) fun m => ?_
    simp [allTrains]
  · obtain ⟨once, all⟩ := trainOrders_getD (takeChoice 6 s).1
    refine FillLists.foldl_retarget _ (s := (takeChoice 6 s).2) h known (once.filter _) fun m => ?_
    rw [List.mem_filter, List.contains_iff_mem, List.mem_filter]
    exact ⟨fun lost => ⟨all m, List.mem_finRange m, lost⟩, fun mem => mem.2.2⟩

/-! ### The law -/

theorem fillLaw_iff (s : State) : FillLaw s ↔ (FillLists s ∧ CandidatesLaw s) ∧ TargetsLaw s := by
  simp only [FillLaw, CandidatesLaw, TargetsLaw, Tank.fillCandidate_iff, and_assoc]

theorem fillTrainLaw : TrainLaw FillLaw := by
  have c := (fillListsTrainLaw.and candidatesTrainLaw).and targetsTrainLaw
  have e : FillLaw = fun s => (FillLists s ∧ CandidatesLaw s) ∧ TargetsLaw s := funext fun s => propext (fillLaw_iff s)
  rw [e]; exact c

/-- Lists that agree are enough: a tank change restores the candidates and finds new targets. -/
theorem FillLists.evaluateAndTrains {s : State} (h : FillLists s) : FillLaw (evaluateAndTrains s) := by
  have half := fillListsTrainLaw.and candidatesTrainLaw
  have evaluated : FillLists (evaluate s) ∧ CandidatesLaw (evaluate s) :=
    ⟨h.of_same (evaluate_sameTargets s), evaluate_candidatesLaw s⟩
  have checked := ite_keeps (P := fun u => FillLists u ∧ CandidatesLaw u) ((evaluate s).eval.callCount = s.eval.callCount) evaluated
    (half.stopCheck (half.startCheck evaluated))
  obtain ⟨lists, known, targets⟩ := checked.1.retargetAll checked.2
  have law : FillLaw _ := (fillLaw_iff _).mpr ⟨⟨lists, known⟩, targets⟩
  exact ite_keeps _ (fillTrainLaw.startCheck law) law

theorem FillLists.modTank {s : State} (h : FillLists s) (t : Fin 12) {f : Tank → Tank}
    (fills : (f s.tanks[t]).fillTrains = s.tanks[t].fillTrains) : FillLists (s.modTank t f) := by
  refine h.of_same ⟨fun _ => Iff.rfl, fun _ => rfl, fun u => ?_⟩
  rw [modTank_tanks, upd_get]; split
  · subst u; exact fills
  · rfl

theorem fillCascade : CascadeLaw FillLists FillLaw :=
  fillTrainLaw.cascade (fun h => h.1) (fun same h => h.of_same same.toSameTargets) (fun t _ fills h => h.modTank t fills)
    fun h => h.evaluateAndTrains

theorem writeSets_besides (body : List Byte) (s : State) : (writeSets body s).tanks = s.tanks ∧ (writeSets body s).eval = s.eval := by
  simp only [writeSets, and_self]

theorem FillLaw.allowanceChanged {s : State} (h : FillLaw s) (cause : ShedCause) (old : Nat) : FillLaw (allowanceChanged cause old s) := by
  have c := fillTrainLaw
  exact allowanceChanged_keeps (fun n u hu => c.same (post_samePlant n u) hu) (fun u hu => c.endTransfer _ hu)
    (fun n u hu => c.haltTrain n _ hu) (fun u hu => c.startCheck hu) cause old s h

theorem Act.keeps_fillLaw {s u : State} (act : Act s u) (h : FillLaw s) : FillLaw u := by
  refine fillTrainLaw.act fillCascade act (fun allowance => ?_) (fun body => ?_) h
  · have written : FillLaw { s with power := { s.power with allowance := allowance } } := h
    exact written.allowanceChanged _ _
  · obtain ⟨tanks, eval⟩ := writeSets_besides body s
    have trains := writeSets_trains body s
    have same : SameFills s (writeSets body s) :=
      ⟨⟨fun _ => by rw [trains], fun _ => by rw [trains], fun _ => by rw [tanks]⟩, by rw [eval], fun _ => by rw [tanks]⟩
    have written : FillLaw (writeSets body s) := by
      obtain ⟨⟨lists, known⟩, targets⟩ := (fillLaw_iff s).mp h
      refine (fillLaw_iff _).mpr ⟨⟨lists.of_same same.toSameTargets, fun t => ?_⟩, fun n t target => ?_⟩
      · rw [eval, tanks]; exact known t
      · rw [trains] at target; rw [eval]; exact targets n t target
    have settled := fillTrainLaw.same (settleSets_besideSets (defineCause s) _).samePlant written
    exact settled.allowanceChanged _ _

/-- Settles O58: the lists, the candidates and the targets each keep their law, and a tank change restores the last two. -/
theorem fillLawIsKept : Obligations.FillLawIsKept := fun _ _ h hstep =>
  fillTrainLaw.step (fun _ _ act hu => act.keeps_fillLaw hu) h hstep

end Sys2Proof.Machine
end


section
/-!
What a grant and a preemption write, field by field (R92, R93, R99, R116), and what a whole pass writes (R98).
-/

namespace Sys2Proof.Machine

/-! ### Frames as equations -/

/-- A state that agrees beside the Arbiter is the old one with what the Arbiter writes. -/
theorem SameBesideArbiter.eq_with {s t : State} (h : SameBesideArbiter s t) :
    t = { s with lines := t.lines, groups := t.groups, meters := t.meters, trains := t.trains, arb := t.arb } := by
  obtain ⟨now, tanks, stray, inputs, eval, sets, waters, order, transfer, shore, power, link, out, due, choices, pending, _⟩ := h
  cases s; cases t; subst_vars; rfl

/-- A hand-over to a train keeps what its effect keeps. -/
theorem handToTrain_view {α : Type} (view : State → α) {f : Fin 3 → State → State} (hf : ∀ n s, view (f n s) = view s)
    (origin : Option Source) (s : State) : view (handToTrain origin f s) = view s := by
  unfold handToTrain; split
  · exact hf _ s
  · rfl

theorem handToTrain_trains {f : Fin 3 → State → State} {g : Train → Train} (hf : ∀ n s, f n s = s.modTrain n g)
    (origin : Option Source) (s : State) (n : Fin 3) :
    (handToTrain origin f s).trains[n] = if origin = some (.flush n) then g s.trains[n] else s.trains[n] := by
  unfold handToTrain; split
  · rename_i m
    rw [hf, modTrain_trains, upd_get]
    by_cases same : n = m
    · subst n; rw [if_pos rfl, if_pos rfl]
    · rw [if_neg same, if_neg (by simpa using Ne.symm same)]
  · rename_i other
    rw [if_neg (other n)]

theorem priorityOrder_congr {s u : State} (lines : u.lines = s.lines) (groups : u.groups = s.groups) :
    priorityOrder u = priorityOrder s := by rw [priorityOrder, priorityOrder, lines, groups]

/-! ### A grant (R99) -/

/-- The train's part of a grant (R113). -/
def Train.granted (w : Train) : Train :=
  match w.state with
  | .flushWait => { w with state := .flushing, flushWait := .idle }
  | .fault => if w.flushPlaced then { w with state := .flushing, retry := true, flushWait := .idle } else w
  | _ => w

/-- The line's part of a grant. -/
def DrawLine.granted (seq : Word32) (l : DrawLine) : DrawLine :=
  { l with state := .flowing, draw := l.draw.map fun d => { d with grantSequence := some seq, duration := 0, stall := 0 } }

/-- A grant before the channel and the train are told of it. -/
def grantLists (k : Fin 16) (s : State) : State :=
  refreshPending (((s.modLine k (DrawLine.granted (s.arb.grantCounter + 1))).modArb fun a =>
    { a with grantCounter := s.arb.grantCounter + 1, inService := a.inService ++ [k],
             preemptedNow := a.preemptedNow.filter (·.1 != k) }).modGroup (groupOf s k) fun g =>
    { g with rotation := toBottom k g.rotation })

theorem grant_eq (k : Fin 16) (s : State) :
    grant k s = handToTrain (drawOrigin s k) trainGranted (activateRole (.line k) (grantLists k s)) := rfl

theorem trainGranted_eq (n : Fin 3) (s : State) : trainGranted n s = s.modTrain n Train.granted := rfl

theorem grant_view {α : Type} (view : State → α) (train : ∀ n s, view (trainGranted n s) = view s)
    (channel : ∀ r s, view (activateRole r s) = view s) (k : Fin 16) (s : State) : view (grant k s) = view (grantLists k s) :=
  (handToTrain_view view train _ _).trans (channel _ _)

theorem grant_allLines (k : Fin 16) (s : State) : (grant k s).lines = upd s.lines k (DrawLine.granted (s.arb.grantCounter + 1)) :=
  grant_view State.lines (fun _ _ => rfl) (fun _ _ => by simp only [activateRole]) k s

theorem grant_lines (k : Fin 16) (s : State) (j : Fin 16) :
    (grant k s).lines[j] = if j = k then s.lines[k].granted (s.arb.grantCounter + 1) else s.lines[j] := by
  rw [grant_allLines, upd_get]

theorem grant_allGroups (k : Fin 16) (s : State) :
    (grant k s).groups = upd s.groups (groupOf s k) fun g => { g with rotation := toBottom k g.rotation } :=
  grant_view State.groups (fun _ _ => rfl) (fun _ _ => by simp only [activateRole]) k s

theorem grant_groups (k : Fin 16) (s : State) (g : Fin 6) : (grant k s).groups[g] =
    if g = groupOf s k then { s.groups[g] with rotation := toBottom k s.groups[g].rotation } else s.groups[g] := by
  rw [grant_allGroups, upd_get]; split
  · subst g; rfl
  · rfl

theorem grant_pendingList (k : Fin 16) (s : State) : (grant k s).arb.pendingList = priorityOrder (grant k s) := by
  have lists : (grant k s).arb.pendingList = (grantLists k s).arb.pendingList :=
    grant_view (fun u => u.arb.pendingList) (fun _ _ => rfl) (fun _ _ => by simp only [activateRole]) k s
  rw [lists]
  exact (priorityOrder_congr (s := grantLists k s) (grant_allLines k s) (grant_allGroups k s)).symm

theorem grant_arb (k : Fin 16) (s : State) : (grant k s).arb =
    { s.arb with inService := s.arb.inService ++ [k], grantCounter := s.arb.grantCounter + 1,
                 pendingList := (grant k s).arb.pendingList, preemptedNow := s.arb.preemptedNow.filter (·.1 != k) } := by
  have arb : (grant k s).arb = (grantLists k s).arb :=
    grant_view State.arb (fun _ _ => rfl) (fun _ _ => by simp only [activateRole]) k s
  rw [arb]; rfl

theorem grant_meters (k : Fin 16) (s : State) (m : Fin 24) : (grant k s).meters[m] =
    if s.meters[m].defined && s.meters[m].defn.role == .line k then { s.meters[m] with strayNoticed := false } else s.meters[m] := by
  have meters : (grant k s).meters = (activateRole (.line k) (grantLists k s)).meters :=
    handToTrain_view (f := trainGranted) State.meters (fun _ _ => rfl) _ _
  rw [meters]; exact activateRole_meter _ (grantLists k s) m

theorem grant_trains (k : Fin 16) (s : State) (n : Fin 3) :
    (grant k s).trains[n] = if drawOrigin s k = some (.flush n) then s.trains[n].granted else s.trains[n] := by
  have trains : (activateRole (.line k) (grantLists k s)).trains = s.trains := by
    have told : (activateRole (.line k) (grantLists k s)).trains = (grantLists k s).trains := by simp only [activateRole]
    exact told
  rw [grant_eq, handToTrain_trains trainGranted_eq, trains]

/-! ### A preemption (R115, R116) -/

/-- The train's part of a preemption (R113). -/
def Train.preempted (w : Train) : Train :=
  match w.state with
  | .flushing => { w with state := .flushWait, flushPlaced := true, flushWait := .start w.defn.flushWaitMax }
  | _ => w

/-- The line's part of a preemption. -/
def DrawLine.preempted (l : DrawLine) : DrawLine :=
  { l with state := .pending,
           draw := l.draw.map fun d => { d with wait := 0, aged := false, grantSequence := none, suspendedSince := none } }

/-- The lines preempted at the event, with the line among them in the order of the grants (R116, log 22). -/
def preemptedWith (k : Fin 16) (s : State) : List (Fin 16 × Word32) :=
  insertByGrant s.arb.grantCounter (k, (s.lines[k].draw.bind (·.grantSequence)).getD 0) (s.arb.preemptedNow.filter (·.1 != k))

/-- Those of them that are of the line's group. -/
def preemptedBeside (k : Fin 16) (s : State) : List (Fin 16) :=
  ((preemptedWith k s).map (·.1)).filter fun j => groupOf s j == groupOf s k

/-- A preemption before the train is told of it. -/
def preemptLists (k : Fin 16) (s : State) : State :=
  refreshPending (((s.modLine k DrawLine.preempted).modArb fun a =>
    { a with inService := a.inService.filter (· != k), preemptedNow := preemptedWith k s }).modGroup (groupOf s k) fun g =>
    { g with rotation := toTop (preemptedBeside k s) g.rotation })

theorem preempt_eq (k : Fin 16) (s : State) : preempt k s = handToTrain (drawOrigin s k) trainPreempted (preemptLists k s) := rfl

theorem trainPreempted_eq (n : Fin 3) (s : State) : trainPreempted n s = s.modTrain n Train.preempted := rfl

theorem preempt_view {α : Type} (view : State → α) (train : ∀ n s, view (trainPreempted n s) = view s) (k : Fin 16) (s : State) :
    view (preempt k s) = view (preemptLists k s) := handToTrain_view view train _ _

theorem preempt_allLines (k : Fin 16) (s : State) : (preempt k s).lines = upd s.lines k DrawLine.preempted :=
  preempt_view State.lines (fun _ _ => rfl) k s

theorem preempt_lines (k : Fin 16) (s : State) (j : Fin 16) :
    (preempt k s).lines[j] = if j = k then s.lines[k].preempted else s.lines[j] := by rw [preempt_allLines, upd_get]

theorem preempt_allGroups (k : Fin 16) (s : State) :
    (preempt k s).groups = upd s.groups (groupOf s k) fun g => { g with rotation := toTop (preemptedBeside k s) g.rotation } :=
  preempt_view State.groups (fun _ _ => rfl) k s

theorem preempt_groups (k : Fin 16) (s : State) (g : Fin 6) : (preempt k s).groups[g] =
    if g = groupOf s k then { s.groups[g] with rotation := toTop (preemptedBeside k s) s.groups[g].rotation } else s.groups[g] := by
  rw [preempt_allGroups, upd_get]; split
  · subst g; rfl
  · rfl

theorem preempt_meters (k : Fin 16) (s : State) : (preempt k s).meters = s.meters := preempt_view State.meters (fun _ _ => rfl) k s

theorem preempt_pendingList (k : Fin 16) (s : State) : (preempt k s).arb.pendingList = priorityOrder (preempt k s) := by
  have lists : (preempt k s).arb.pendingList = (preemptLists k s).arb.pendingList :=
    preempt_view (fun u => u.arb.pendingList) (fun _ _ => rfl) k s
  rw [lists]
  exact (priorityOrder_congr (s := preemptLists k s) (preempt_allLines k s) (preempt_allGroups k s)).symm

theorem preempt_arb (k : Fin 16) (s : State) : (preempt k s).arb =
    { s.arb with inService := s.arb.inService.filter (· != k), pendingList := (preempt k s).arb.pendingList,
                 preemptedNow := preemptedWith k s } := by
  have arb : (preempt k s).arb = (preemptLists k s).arb := preempt_view State.arb (fun _ _ => rfl) k s
  rw [arb]; rfl

theorem preempt_trains (k : Fin 16) (s : State) (n : Fin 3) :
    (preempt k s).trains[n] = if drawOrigin s k = some (.flush n) then s.trains[n].preempted else s.trains[n] := by
  rw [preempt_eq, handToTrain_trains trainPreempted_eq]; rfl

/-! ### The order of the grants (R92, log 22) -/

theorem insertByGrant_perm (counter : Word32) (e : Fin 16 × Word32) :
    ∀ l : List (Fin 16 × Word32), (insertByGrant counter e l).Perm (e :: l)
  | [] => .refl _
  | x :: xs => by
    unfold insertByGrant; split
    · exact .refl _
    · exact ((insertByGrant_perm counter e xs).cons x).trans (.swap e x xs)

/-- An entry granted no later than another (R92). -/
def GrantedBefore (counter : Word32) (x y : Fin 16 × Word32) : Prop := (counter - y.2).toNat ≤ (counter - x.2).toNat

theorem insertByGrant_pairwise (counter : Word32) (e : Fin 16 × Word32) : ∀ l : List (Fin 16 × Word32),
    l.Pairwise (GrantedBefore counter) → (insertByGrant counter e l).Pairwise (GrantedBefore counter)
  | [], _ => List.pairwise_singleton _ _
  | x :: xs, h => by
    obtain ⟨first, rest⟩ := List.pairwise_cons.mp h
    unfold insertByGrant; split
    · rename_i later
      have before : GrantedBefore counter e x := Nat.le_of_lt later
      refine List.pairwise_cons.mpr ⟨fun y hy => ?_, h⟩
      obtain rfl | hy := List.mem_cons.mp hy
      · exact before
      · exact Nat.le_trans (first y hy) before
    · rename_i earlier
      refine List.pairwise_cons.mpr ⟨fun y hy => ?_, insertByGrant_pairwise counter e xs rest⟩
      obtain rfl | hy := List.mem_cons.mp ((insertByGrant_perm counter e xs).mem_iff.mp hy)
      · exact Nat.le_of_not_lt earlier
      · exact first y hy

/-! ### One grant and one preemption -/

theorem grant_eq_with (k : Fin 16) (s : State) : grant k s = { s with
    lines := (grant k s).lines, groups := (grant k s).groups, meters := (grant k s).meters, trains := (grant k s).trains
    arb := { s.arb with
      inService := s.arb.inService ++ [k], grantCounter := s.arb.grantCounter + 1, pendingList := (grant k s).arb.pendingList
      preemptedNow := s.arb.preemptedNow.filter (·.1 != k) } } := by
  have frame := (grant_besideDraws k s).eq_with
  rw [grant_arb] at frame; exact frame

theorem preempt_eq_with (k : Fin 16) (s : State) : preempt k s = { s with
    lines := (preempt k s).lines, groups := (preempt k s).groups, trains := (preempt k s).trains
    arb := { s.arb with
      inService := s.arb.inService.filter (· != k), pendingList := (preempt k s).arb.pendingList
      preemptedNow := preemptedWith k s } } := by
  have frame := (preempt_besideDraws k s).eq_with
  rw [preempt_arb, preempt_meters] at frame; exact frame

theorem drawOrigin_of_draw {s : State} {k : Fin 16} {d : Draw} (h : s.lines[k].draw = some d) : drawOrigin s k = some d.origin := by
  rw [drawOrigin, h]; rfl

/-- Settles O45, from the field lemmas of a grant and a preemption. -/
theorem grantAndPreemptionOfOneDraw : Obligations.GrantAndPreemptionOfOneDraw := by
  constructor
  · rintro k d s _ hd rfl
    refine ⟨fun j => ?_, fun g => ?_, fun m => ?_, fun n => ?_, grant_pendingList k s, grant_eq_with k s⟩
    · rw [grant_lines, DrawLine.granted, hd]; rfl
    · rw [grant_groups]; rfl
    · rw [grant_meters]; simp only [Bool.and_eq_true, beq_iff_eq]
    · rw [grant_trains, drawOrigin_of_draw hd]
      simp only [Option.some.injEq]
      by_cases flush : d.origin = .flush n
      · rw [if_pos flush]
        simp only [flush, true_and]
        unfold Train.granted; split <;> simp_all [Timer.idle]
      · rw [if_neg flush, if_neg (fun h => flush h.1), if_neg (fun h => flush h.1)]
  · rintro k d s _ hd rfl now top older rfl rfl holder
    have nowIs : (preempt k s).arb.preemptedNow = preemptedWith k s := by rw [preempt_arb]
    have older_eq : older = GrantedBefore s.arb.grantCounter := funext₂ fun x y => propext (holder x y)
    have entry : (s.lines[k].draw.bind (·.grantSequence)).getD 0 = d.grantSequence.getD 0 := by rw [hd]; rfl
    rw [nowIs]
    refine ⟨?_, fun sorted => ?_, fun j => ?_, fun g => ?_, fun n => ?_, preempt_pendingList k s, preempt_eq_with k s⟩
    · rw [preemptedWith, entry]; exact insertByGrant_perm _ _ _
    · rw [older_eq] at sorted ⊢; exact insertByGrant_pairwise _ _ _ (sorted.filter _)
    · rw [preempt_lines, DrawLine.preempted, hd]; rfl
    · rw [preempt_groups]; rfl
    · rw [preempt_trains, drawOrigin_of_draw hd]
      simp only [Option.some.injEq]
      by_cases flush : d.origin = .flush n
      · rw [if_pos flush]
        simp only [flush, true_and]
        unfold Train.preempted; split <;> simp_all [Timer.start]
      · rw [if_neg flush, if_neg (fun h => flush h.1)]

end Sys2Proof.Machine
end


section
/-!
The lists of the Draw Arbiter. `ListsAgree` is the law of the lists as it stands within an event, where lines may count as preempted
(R116, log 22); a grant of a pending line and a preemption of a line in service keep it, so a whole pass does (R91, R92, R93, R98).
-/

namespace Sys2Proof.Machine

/-! ### Inductions over the walk of a pass -/

/-- What a preemption makes of the list still to come, `preemptUntil` makes of the list it stops at (R115). -/
theorem preemptUntil_induct {P : List (Fin 16) → State → Prop} {enough : State → Bool}
    (hp : ∀ k ks s, enough s = false → P (k :: ks) s → P ks (preempt k s)) :
    ∀ (ks : List (Fin 16)) (s : State), P ks s →
      ∃ rest, P rest (preemptUntil enough ks s) ∧ (rest = [] ∨ enough (preemptUntil enough ks s) = true)
  | [], _, h => ⟨[], h, .inl rfl⟩
  | k :: ks, s, h => by
    unfold preemptUntil; split
    · exact ⟨k :: ks, h, .inr ‹_›⟩
    · exact preemptUntil_induct hp ks _ (hp k ks s (Bool.eq_false_of_not_eq_true ‹_›) h)

/-- What a grant that a pass may make keeps, with or without room made for it, the pass keeps (R98). -/
theorem grantPass_induct {P : State → Prop}
    (hg : ∀ k s, k ∈ s.arb.pendingList → fits s k = true → P s → P (grant k s))
    (hr : ∀ k s, k ∈ s.arb.pendingList → groupOf s k = 0 → roomCanBeMade s k = true → P s → P (grant k (makeRoom k s)))
    (he : ∀ at? s, P s → P (passEnds at? s)) (s : State) (h : P s) : P (grantPass s) := by
  suffices walk : ∀ fuel visited u, P u → P (passWalk fuel visited u) from walk 17 [] s h
  intro fuel
  induction fuel with
  | zero => exact fun _ u hu => he none u hu
  | succ fuel ih =>
    intro visited u hu
    unfold passWalk; split
    · exact he none u hu
    · rename_i k found
      have listed := List.mem_of_find?_eq_some found
      split
      · exact ih _ _ hu
      · split
        · exact ih _ _ (hg k u listed ‹_› hu)
        · split
          · exact he _ u hu
          · rename_i urgent
            split
            · exact ih _ _ (hr k u listed (by simpa using urgent) ‹_› hu)
            · exact he _ u hu

/-! ### The lists and their members -/

theorem mem_rankOrder {s : State} {k : Fin 16} : k ∈ rankOrder s ↔ k ∈ s.arb.inService := by
  simp only [rankOrder, allGroups, List.mem_flatMap, List.mem_finRange, true_and, List.mem_filter, beq_iff_eq]
  exact ⟨fun ⟨_, listed, _⟩ => listed, fun listed => ⟨_, listed, rfl⟩⟩

theorem flatMap_groups_nodup {l : Fin 6 → List (Fin 16)} (once : ∀ g, (l g).Nodup)
    (apart : ∀ g k, k ∈ l g → ∀ g', k ∈ l g' → g = g') : (allGroups.flatMap l).Nodup :=
  List.nodup_flatMap.mpr ⟨fun g _ => once g, (List.nodup_finRange 6).imp fun {g g'} ne k hk hk' => ne (apart g k hk g' hk')⟩

theorem rankOrder_nodup {s : State} (once : s.arb.inService.Nodup) : (rankOrder s).Nodup := by
  refine flatMap_groups_nodup (fun g => once.filter _) fun g k hk g' hk' => ?_
  simp only [List.mem_filter, beq_iff_eq] at hk hk'
  exact hk.2.symm.trans hk'.2

theorem mem_flowingLowestFirst {s : State} {k : Fin 16} :
    k ∈ flowingLowestFirst s ↔ k ∈ s.arb.inService ∧ s.lines[k].state = .flowing := by
  simp only [flowingLowestFirst, List.mem_reverse, List.mem_filter, mem_rankOrder, isFlowing, beq_iff_eq]

theorem flowingLowestFirst_nodup {s : State} (once : s.arb.inService.Nodup) : (flowingLowestFirst s).Nodup :=
  List.nodup_reverse.mpr ((rankOrder_nodup once).filter _)

theorem mem_preemptible {s : State} {k : Fin 16} :
    k ∈ preemptible s ↔ (k ∈ s.arb.inService ∧ s.lines[k].state = .flowing) ∧ groupOf s k ≠ 0 := by
  simp only [preemptible, List.mem_filter, mem_flowingLowestFirst, bne_iff_ne]

theorem preemptible_nodup {s : State} (once : s.arb.inService.Nodup) : (preemptible s).Nodup :=
  (flowingLowestFirst_nodup once).filter _

theorem state_of_mem_priorityOrder {s : State} {k : Fin 16} (h : k ∈ priorityOrder s) : s.lines[k].state = .pending := by
  simp only [priorityOrder, List.mem_flatMap, List.mem_filter, beq_iff_eq] at h
  obtain ⟨_, _, _, waits⟩ := h; exact waits

theorem mem_priorityOrder {s : State}
    (ordered : ∀ (g : Fin 6) (k : Fin 16), k ∈ s.groups[g].rotation ↔ s.lines[k].defined = true ∧ s.lines[k].defn.group = g)
    (usable : ∀ k : Fin 16, s.lines[k].state ≠ .unconfigured → s.lines[k].defined = true) (k : Fin 16) :
    k ∈ priorityOrder s ↔ s.lines[k].state = .pending := by
  refine ⟨state_of_mem_priorityOrder, fun waits => ?_⟩
  simp only [priorityOrder, allGroups, List.mem_flatMap, List.mem_finRange, true_and, List.mem_filter, beq_iff_eq]
  exact ⟨_, (ordered _ k).mpr ⟨usable k (by rw [waits]; decide), rfl⟩, waits⟩

theorem priorityOrder_nodup {s : State}
    (ordered : ∀ (g : Fin 6) (k : Fin 16), k ∈ s.groups[g].rotation ↔ s.lines[k].defined = true ∧ s.lines[k].defn.group = g)
    (once : ∀ g : Fin 6, s.groups[g].rotation.Nodup) : (priorityOrder s).Nodup := by
  refine flatMap_groups_nodup (fun g => (once g).filter _) fun g k hk g' hk' => ?_
  simp only [List.mem_filter, ordered] at hk hk'
  exact hk.1.2.symm.trans hk'.1.2

/-! ### The law of the lists within an event -/

/-- The lists agree with the lines (`ListsLaw`), and the lines that count as preempted at the event are defined, each once. -/
structure ListsAgree (s : State) : Prop where
  waiting : ∀ k : Fin 16, k ∈ s.arb.pendingList ↔ s.lines[k].state = .pending
  serving : ∀ k : Fin 16, k ∈ s.arb.inService ↔ s.lines[k].state = .flowing ∨ s.lines[k].state = .suspended
  waitingOnce : s.arb.pendingList.Nodup
  servingOnce : s.arb.inService.Nodup
  capacity : s.arb.inService.length ≤ 8
  record : ∀ k : Fin 16, s.lines[k].draw.isSome = true ↔ s.lines[k].state.holdsDraw = true
  ordered : ∀ (g : Fin 6) (k : Fin 16), k ∈ s.groups[g].rotation ↔ s.lines[k].defined = true ∧ s.lines[k].defn.group = g
  orderedOnce : ∀ g : Fin 6, s.groups[g].rotation.Nodup
  usable : ∀ k : Fin 16, s.lines[k].state ≠ .unconfigured → s.lines[k].defined = true
  raised : ∀ e ∈ s.arb.preemptedNow, s.lines[e.1].defined = true
  raisedOnce : (s.arb.preemptedNow.map (·.1)).Nodup

/-- Between commands the law of the lists is `ListsLaw`. -/
theorem listsLaw_iff {s : State} : ListsLaw s ↔ ListsAgree s ∧ s.arb.preemptedNow = [] := by
  constructor
  · rintro ⟨waiting, serving, waitingOnce, servingOnce, capacity, record, ordered, orderedOnce, usable, none⟩
    exact ⟨⟨waiting, serving, waitingOnce, servingOnce, capacity, record, ordered, orderedOnce, usable, by simp [none],
      by simp [none]⟩, none⟩
  · rintro ⟨⟨waiting, serving, waitingOnce, servingOnce, capacity, record, ordered, orderedOnce, usable, _, _⟩, none⟩
    exact ⟨waiting, serving, waitingOnce, servingOnce, capacity, record, ordered, orderedOnce, usable, none⟩

/-- A pending list in the present priority order agrees with the lines when the rotation orders do. -/
theorem ListsAgree.of_refreshed {s : State} (refreshed : s.arb.pendingList = priorityOrder s)
    (serving : ∀ k : Fin 16, k ∈ s.arb.inService ↔ s.lines[k].state = .flowing ∨ s.lines[k].state = .suspended)
    (servingOnce : s.arb.inService.Nodup) (capacity : s.arb.inService.length ≤ 8)
    (record : ∀ k : Fin 16, s.lines[k].draw.isSome = true ↔ s.lines[k].state.holdsDraw = true)
    (ordered : ∀ (g : Fin 6) (k : Fin 16), k ∈ s.groups[g].rotation ↔ s.lines[k].defined = true ∧ s.lines[k].defn.group = g)
    (orderedOnce : ∀ g : Fin 6, s.groups[g].rotation.Nodup)
    (usable : ∀ k : Fin 16, s.lines[k].state ≠ .unconfigured → s.lines[k].defined = true)
    (raised : ∀ e ∈ s.arb.preemptedNow, s.lines[e.1].defined = true) (raisedOnce : (s.arb.preemptedNow.map (·.1)).Nodup) :
    ListsAgree s where
  waiting k := by rw [refreshed]; exact mem_priorityOrder ordered usable k
  waitingOnce := by rw [refreshed]; exact priorityOrder_nodup ordered orderedOnce
  serving := serving
  servingOnce := servingOnce
  capacity := capacity
  record := record
  ordered := ordered
  orderedOnce := orderedOnce
  usable := usable
  raised := raised
  raisedOnce := raisedOnce

theorem ListsAgree.same {s u : State} (h : ListsAgree s) (lines : u.lines = s.lines) (groups : u.groups = s.groups)
    (waiting : u.arb.pendingList = s.arb.pendingList) (serving : u.arb.inService = s.arb.inService)
    (now : u.arb.preemptedNow = s.arb.preemptedNow) : ListsAgree u := by
  obtain ⟨h1, h2, h3, h4, h5, h6, h7, h8, h9, h10, h11⟩ := h
  constructor <;> simp only [lines, groups, waiting, serving, now] <;> assumption

/-! ### Rotation orders -/

theorem mem_toBottom {k j : Fin 16} {order : List (Fin 16)} : j ∈ toBottom k order ↔ j = k ∨ j ∈ order := by
  simp only [toBottom, List.mem_append, List.mem_filter, bne_iff_ne, List.mem_singleton]; tauto

theorem toBottom_nodup {k : Fin 16} {order : List (Fin 16)} (once : order.Nodup) : (toBottom k order).Nodup := by
  refine List.nodup_append.mpr ⟨once.filter _, List.nodup_singleton k, fun j hj i hi => ?_⟩
  rw [List.mem_singleton.mp hi]
  simpa using (List.mem_filter.mp hj).2

theorem mem_toTop {j : Fin 16} {ks order : List (Fin 16)} : j ∈ toTop ks order ↔ j ∈ ks ∨ j ∈ order := by
  simp only [toTop, List.mem_append, List.mem_filter, List.contains_eq_mem, Bool.not_eq_true', decide_eq_false_iff_not]; tauto

theorem toTop_nodup {ks order : List (Fin 16)} (top : ks.Nodup) (once : order.Nodup) : (toTop ks order).Nodup := by
  refine List.nodup_append.mpr ⟨top, once.filter _, fun j hj i hi same => ?_⟩
  subst same; simp [hj] at hi

/-! ### A grant, a preemption, a pass -/

theorem SameBesideArbiter.line_defined {s u : State} (h : SameBesideArbiter s u) (k : Fin 16) :
    u.lines[k].defined = s.lines[k].defined :=
  have e := congrArg DrawLine.defined (h.lines k)
  e

theorem SameBesideArbiter.line_defn {s u : State} (h : SameBesideArbiter s u) (k : Fin 16) :
    u.lines[k].defn = s.lines[k].defn :=
  have e := congrArg DrawLine.defn (h.lines k)
  e

theorem SameBesideArbiter.line_masked {s u : State} (h : SameBesideArbiter s u) (k : Fin 16) :
    u.lines[k].masked = s.lines[k].masked :=
  have e := congrArg DrawLine.masked (h.lines k)
  e

theorem SameBesideArbiter.group_defn {s u : State} (h : SameBesideArbiter s u) (g : Fin 6) :
    u.groups[g].defn = s.groups[g].defn :=
  have e := congrArg Group.defn (h.groups g)
  e

theorem SameBesideArbiter.groupOf {s u : State} (h : SameBesideArbiter s u) (k : Fin 16) : groupOf u k = groupOf s k :=
  congrArg LineDef.group (h.line_defn k)

theorem SameBesideArbiter.flowOf {s u : State} (h : SameBesideArbiter s u) (k : Fin 16) : flowOf u k = flowOf s k :=
  congrArg LineDef.flow (h.line_defn k)

theorem grant_inService (k : Fin 16) (s : State) : (grant k s).arb.inService = s.arb.inService ++ [k] := by rw [grant_arb]

theorem grant_preemptedNow (k : Fin 16) (s : State) : (grant k s).arb.preemptedNow = s.arb.preemptedNow.filter (·.1 != k) := by
  rw [grant_arb]

theorem preempt_inService (k : Fin 16) (s : State) : (preempt k s).arb.inService = s.arb.inService.filter (· != k) := by
  rw [preempt_arb]

theorem preempt_preemptedNow (k : Fin 16) (s : State) : (preempt k s).arb.preemptedNow = preemptedWith k s := by rw [preempt_arb]

theorem grant_state (k : Fin 16) (s : State) (j : Fin 16) :
    (grant k s).lines[j].state = if j = k then .flowing else s.lines[j].state := by
  rw [grant_lines]; split <;> rfl

theorem preempt_state (k : Fin 16) (s : State) (j : Fin 16) :
    (preempt k s).lines[j].state = if j = k then .pending else s.lines[j].state := by
  rw [preempt_lines]; split <;> rfl

theorem mem_preemptedWith {k : Fin 16} {s : State} {e : Fin 16 × Word32} (h : e ∈ preemptedWith k s) :
    e.1 = k ∨ e ∈ s.arb.preemptedNow := by
  obtain rfl | h := List.mem_cons.mp ((insertByGrant_perm _ _ _).mem_iff.mp h)
  · exact .inl rfl
  · exact .inr (List.mem_filter.mp h).1

theorem preemptedWith_once {k : Fin 16} {s : State} (once : (s.arb.preemptedNow.map (·.1)).Nodup) :
    ((preemptedWith k s).map (·.1)).Nodup := by
  refine ((insertByGrant_perm _ _ _).map (·.1)).nodup_iff.mpr (List.nodup_cons.mpr ⟨?_, (List.filter_sublist.map _).nodup once⟩)
  simp

theorem ListsAgree.grant {k : Fin 16} {s : State} (h : ListsAgree s) (waits : s.lines[k].state = .pending)
    (place : s.arb.inService.length < 8) : ListsAgree (grant k s) := by
  have frame := (grant_besideDraws k s).toSameBesideArbiter
  have fresh : k ∉ s.arb.inService := fun listed => by
    have state := (h.serving k).mp listed
    rw [waits] at state; simp at state
  have defined : s.lines[k].defined = true := h.usable k (by rw [waits]; decide)
  refine .of_refreshed (grant_pendingList k s) (fun j => ?_) ?_ ?_ (fun j => ?_) (fun g j => ?_) (fun g => ?_) (fun j hj => ?_)
    (fun e he => ?_) ?_
  · rw [grant_inService, List.mem_append, List.mem_singleton, grant_state, h.serving]
    split <;> simp_all
  · rw [grant_inService]; exact List.nodup_append.mpr ⟨h.servingOnce, by simp, by rintro j hj i hi rfl; simp_all⟩
  · rw [grant_inService, List.length_append]; exact place
  · rw [grant_lines]; split
    · exact iff_of_true (Option.isSome_map.trans ((h.record k).mpr (by rw [waits]; rfl))) rfl
    · exact h.record j
  · rw [frame.line_defined, frame.line_defn, grant_groups, ← h.ordered]; split
    · rename_i same; subst same
      rw [mem_toBottom]
      exact or_iff_right_of_imp fun same => same ▸ (h.ordered _ k).mpr ⟨defined, rfl⟩
    · rfl
  · rw [grant_groups]; split
    · exact toBottom_nodup (h.orderedOnce g)
    · exact h.orderedOnce g
  · rw [frame.line_defined]
    rw [grant_state] at hj
    by_cases same : j = k
    · rw [same]; exact defined
    · rw [if_neg same] at hj; exact h.usable j hj
  · rw [grant_preemptedNow] at he
    rw [frame.line_defined]; exact h.raised e (List.mem_filter.mp he).1
  · rw [grant_preemptedNow]; exact (List.filter_sublist.map _).nodup h.raisedOnce

theorem ListsAgree.preempt {k : Fin 16} {s : State} (h : ListsAgree s) (serves : k ∈ s.arb.inService) :
    ListsAgree (preempt k s) := by
  have frame := (preempt_besideDraws k s).toSameBesideArbiter
  have state := (h.serving k).mp serves
  have defined : s.lines[k].defined = true := h.usable k (by obtain e | e := state <;> rw [e] <;> decide)
  have raised (e) (he : e ∈ preemptedWith k s) : s.lines[e.1].defined = true := by
    obtain same | old := mem_preemptedWith he
    · exact same ▸ defined
    · exact h.raised e old
  refine .of_refreshed (preempt_pendingList k s) (fun j => ?_) ?_ ?_ (fun j => ?_) (fun g j => ?_) (fun g => ?_) (fun j hj => ?_)
    (fun e he => ?_) ?_
  · rw [preempt_inService, List.mem_filter, preempt_state, h.serving]
    split <;> simp_all
  · rw [preempt_inService]; exact h.servingOnce.filter _
  · rw [preempt_inService]; exact (List.length_filter_le _ _).trans h.capacity
  · rw [preempt_lines]; split
    · exact iff_of_true (Option.isSome_map.trans ((h.record k).mpr (by obtain e | e := state <;> rw [e] <;> rfl))) rfl
    · exact h.record j
  · rw [frame.line_defined, frame.line_defn, preempt_groups, ← h.ordered]; split
    · rename_i same; subst same
      rw [mem_toTop]
      refine or_iff_right_of_imp fun top => (h.ordered _ j).mpr ?_
      simp only [preemptedBeside, List.mem_filter, List.mem_map, beq_iff_eq] at top
      obtain ⟨⟨e, he, rfl⟩, beside⟩ := top
      exact ⟨raised e he, beside⟩
    · rfl
  · rw [preempt_groups]; split
    · exact toTop_nodup ((preemptedWith_once h.raisedOnce).filter _) (h.orderedOnce g)
    · exact h.orderedOnce g
  · rw [frame.line_defined]
    rw [preempt_state] at hj
    by_cases same : j = k
    · rw [same]; exact defined
    · rw [if_neg same] at hj; exact h.usable j hj
  · rw [preempt_preemptedNow] at he
    rw [frame.line_defined]; exact raised e he
  · rw [preempt_preemptedNow]; exact preemptedWith_once h.raisedOnce

end Sys2Proof.Machine
end


section
/-!
The grant pass: it keeps the law of the lists, what it writes and where it stops (R98).
-/

namespace Sys2Proof.Machine

theorem fits_iff {s : State} {k : Fin 16} : fits s k = true ↔ s.arb.inService.length < 8 ∧ flowOf s k ≤ freeCapacity s := by
  rw [fits, Bool.and_eq_true, decide_eq_true_eq, decide_eq_true_eq]; rfl

theorem roomCanBeMade_iff {s : State} {k : Fin 16} : roomCanBeMade s k = true ↔
    flowOf s k ≤ freeCapacity s + flowSum s (preemptible s) ∧ s.arb.inService.length - (preemptible s).length < 8 := by
  rw [roomCanBeMade, Bool.and_eq_true, decide_eq_true_eq, decide_eq_true_eq]; rfl

/-! ### Room made for a line (R115) -/

/-- Lines in service, each once, that are still to be preempted. -/
structure ToPreempt (ks : List (Fin 16)) (s : State) : Prop where
  lists : ListsAgree s
  once : ks.Nodup
  flowing : ∀ k ∈ ks, s.lines[k].state = .flowing

theorem ToPreempt.preempt {k : Fin 16} {ks : List (Fin 16)} {s : State} (h : ToPreempt (k :: ks) s) : ToPreempt ks (preempt k s) := by
  obtain ⟨fresh, once⟩ := List.nodup_cons.mp h.once
  refine ⟨h.lists.preempt ((h.lists.serving k).mpr (.inl (h.flowing k (by simp)))), once, fun j hj => ?_⟩
  rw [preempt_state, if_neg (by rintro rfl; exact fresh hj)]
  exact h.flowing j (by simp [hj])

theorem ListsAgree.toPreempt {s : State} (h : ListsAgree s) : ToPreempt (preemptible s) s :=
  ⟨h, preemptible_nodup h.servingOnce, fun _ hk => (mem_preemptible.mp hk).1.2⟩

theorem preempt_inService_length {k : Fin 16} {ks : List (Fin 16)} {s : State} (h : ToPreempt (k :: ks) s) :
    (preempt k s).arb.inService.length + 1 = s.arb.inService.length := by
  have serves := (h.lists.serving k).mpr (.inl (h.flowing k (by simp)))
  have erased : s.arb.inService.filter (· != k) = s.arb.inService.erase k := (h.lists.servingOnce.erase_eq_filter k).symm
  rw [preempt_inService, erased, List.length_erase_of_mem serves]
  exact Nat.sub_add_cancel (List.length_pos_of_mem serves)

/-- After room was made the lists agree, and there is a place where R115 finds that room can be made. -/
theorem ListsAgree.makeRoom {s : State} (h : ListsAgree s) (k : Fin 16) :
    ListsAgree (makeRoom k s) ∧ (roomCanBeMade s k = true → (makeRoom k s).arb.inService.length < 8) := by
  obtain ⟨rest, ⟨left, count⟩, stops⟩ := preemptUntil_induct (enough := fun u => fits u k)
    (P := fun ks u => ToPreempt ks u ∧ u.arb.inService.length + (preemptible s).length = s.arb.inService.length + ks.length)
    (fun j ks u _ ⟨hu, count⟩ => by
      have one := preempt_inService_length hu
      rw [List.length_cons] at count
      exact ⟨hu.preempt, by omega⟩)
    (preemptible s) s ⟨h.toPreempt, rfl⟩
  refine ⟨left.lists, fun can => ?_⟩
  obtain rfl | fitting := stops
  · have place := (roomCanBeMade_iff.mp can).2
    rw [Machine.makeRoom]
    simp only [List.length_nil] at count
    omega
  · exact (fits_iff.mp fitting).1

/-- Room is made by preempting flowing lines of the other groups: every line that was not flowing stays as it was. -/
theorem makeRoom_lines {s : State} {k j : Fin 16} (other : s.lines[j].state ≠ .flowing ∨ groupOf s j = 0) :
    (makeRoom k s).lines[j] = s.lines[j] := by
  have apart : j ∉ preemptible s := fun listed => by
    obtain ⟨⟨_, flowing⟩, group⟩ := mem_preemptible.mp listed
    exact other.elim (· flowing) group
  obtain ⟨_, ⟨_, same⟩, _⟩ := preemptUntil_induct (enough := fun u => fits u k) (P := fun ks u => j ∉ ks ∧ u.lines[j] = s.lines[j])
    (fun i ks u _ ⟨fresh, same⟩ => by
      obtain ⟨ne, fresh⟩ := List.ne_and_not_mem_of_not_mem_cons fresh
      exact ⟨fresh, by rw [preempt_lines, if_neg ne, same]⟩)
    (preemptible s) s ⟨apart, rfl⟩
  exact same

theorem makeRoom_trains {s : State} {n : Fin 3} (k : Fin 16) (still : s.trains[n].state ≠ .flushing) :
    (makeRoom k s).trains[n] = s.trains[n] := by
  refine (makeRoom_keeps (P := fun u => u.trains[n] = s.trains[n]) (fun j u hu => ?_) k s rfl)
  rw [preempt_trains, hu]; split
  · unfold Train.preempted; split
    · exact absurd ‹_› still
    · rfl
  · rfl

theorem ListsAgree.grantWithRoom {s : State} (h : ListsAgree s) {k : Fin 16} (listed : k ∈ s.arb.pendingList)
    (can : roomCanBeMade s k = true) : ListsAgree (Machine.grant k (Machine.makeRoom k s)) := by
  have waits := (h.waiting k).mp listed
  refine (h.makeRoom k).1.grant ?_ ((h.makeRoom k).2 can)
  rw [makeRoom_lines (.inl (by rw [waits]; decide)), waits]

theorem ListsAgree.grantPass {s : State} (h : ListsAgree s) : ListsAgree (grantPass s) :=
  grantPass_induct (fun k _ listed fitting hu => hu.grant ((hu.waiting k).mp listed) (fits_iff.mp fitting).1)
    (fun _ _ listed _ can hu => hu.grantWithRoom listed can) (fun _ _ hu => hu.same rfl rfl rfl rfl rfl) s h

/-! ### What a pass writes (R98) -/

/-- A line that neither waits nor flows, and that no list names, and a train without a flush, stay as they are. -/
def OutOfPlay (s u : State) : Prop :=
  (∀ k : Fin 16, s.lines[k].state ≠ .pending → s.lines[k].state ≠ .flowing → k ∉ s.arb.pendingList →
    u.lines[k] = s.lines[k] ∧ k ∉ u.arb.pendingList) ∧
  (∀ n : Fin 3, s.trains[n].state ≠ .flushWait → s.trains[n].state ≠ .flushing → s.trains[n].state ≠ .fault →
    u.trains[n] = s.trains[n])

theorem Train.granted_of {w : Train} (h : w.state ≠ .flushWait) (h' : w.state ≠ .fault) : w.granted = w := by
  unfold Train.granted; split
  · exact absurd ‹_› h
  · exact absurd ‹_› h'
  · rfl

theorem OutOfPlay.grant {s u v : State} (h : OutOfPlay s u) {k : Fin 16} (listed : k ∈ u.arb.pendingList)
    (others : ∀ j : Fin 16, u.lines[j].state ≠ .flowing → v.lines[j] = u.lines[j])
    (trains : ∀ n : Fin 3, u.trains[n].state ≠ .flushing → v.trains[n] = u.trains[n]) : OutOfPlay s (Machine.grant k v) := by
  refine ⟨fun j idle still unlisted => ?_, fun n h1 h2 h3 => ?_⟩
  · obtain ⟨same, out⟩ := h.1 j idle still unlisted
    have apart : j ≠ k := by rintro rfl; exact out listed
    have kept : (Machine.grant k v).lines[j] = s.lines[j] := by
      rw [grant_lines, if_neg apart, others j (by rw [same]; exact still), same]
    refine ⟨kept, fun now => idle ?_⟩
    rw [grant_pendingList] at now
    rw [← kept]; exact state_of_mem_priorityOrder now
  · have same := h.2 n h1 h2 h3
    have kept : v.trains[n] = s.trains[n] := (trains n (by rw [same]; exact h2)).trans same
    rw [grant_trains, kept, Train.granted_of h1 h3, ite_self]

theorem grantPass_outOfPlay (s : State) : OutOfPlay s (grantPass s) :=
  grantPass_induct (fun _ _ listed _ hu => hu.grant listed (fun _ _ => rfl) fun _ _ => rfl)
    (fun k _ listed _ _ hu => hu.grant listed (fun _ still => makeRoom_lines (.inl still)) fun _ still => makeRoom_trains k still)
    (fun _ _ hu => hu) s ⟨fun _ _ _ unlisted => ⟨rfl, unlisted⟩, fun _ _ _ _ => rfl⟩

/-- Settles O44, from the frame of a pass and the lines and trains it leaves alone. -/
theorem passChangesOnlyDraws : Obligations.PassChangesOnlyDraws := by
  rintro s t rfl
  have frame := grantPass_besideDraws s
  obtain ⟨lines, trains⟩ := grantPass_outOfPlay s
  refine ⟨fun k => ?_, fun k idle still unlisted => (lines k idle still unlisted).1, fun g => ?_, fun m => ?_,
    fun n => ⟨?_, trains n⟩, ?_⟩
  · have e := frame.lines k
    generalize (grantPass s).lines[k] = l at e ⊢
    generalize s.lines[k] = l' at e ⊢
    cases l; cases l'; simp_all [DrawLine.undrawn]
  · have e := frame.groups g
    generalize (grantPass s).groups[g] = l at e ⊢
    generalize s.groups[g] = l' at e ⊢
    cases l; cases l'; simp_all [Group.unordered]
  · have e := frame.meters m
    generalize (grantPass s).meters[m] = l at e ⊢
    generalize s.meters[m] = l' at e ⊢
    cases l; cases l'; simp_all [Meter.unspelled]
  · have e := frame.trains n
    generalize (grantPass s).trains[n] = l at e ⊢
    generalize s.trains[n] = l' at e ⊢
    cases l; cases l'; simp_all [Train.offFlush]
  · have arb : (grantPass s).arb = { s.arb with
        pendingList := (grantPass s).arb.pendingList, inService := (grantPass s).arb.inService
        grantCounter := (grantPass s).arb.grantCounter, stoppedAt := (grantPass s).arb.stoppedAt
        preemptedNow := (grantPass s).arb.preemptedNow } := by
      dsimp only; rw [← frame.mode, ← frame.supplyLossHold, ← frame.levelHeld, ← frame.supplyHeld, ← frame.capacityHeld, ← frame.hold]
    rw [← arb]; exact frame.eq_with

end Sys2Proof.Machine
end


section
/-!
Where a grant pass stops (R98): the walk takes the pending list in priority order, so the lines it has taken and that still wait are
lines it skips, and room made for a line of G0 puts no line it has taken back on the list.
-/

namespace Sys2Proof.Machine

theorem SameBesideDraws.passSkips {s u : State} (h : SameBesideDraws s u) (k : Fin 16) : passSkips u k = passSkips s k := by
  have group : u.groups[Machine.groupOf u k].defn = s.groups[Machine.groupOf s k].defn := by
    rw [h.group_defn]; exact congrArg (fun g : Fin 6 => s.groups[g].defn) (h.groupOf k)
  rw [Machine.passSkips, Machine.passSkips, levelAdmits, levelAdmits, group, h.line_masked, h.mode, h.groupOf, h.levelHeld]

/-- The pending list holds the lines of a lower group number first (R91). -/
theorem priorityOrder_groups {s : State}
    (ordered : ∀ (g : Fin 6) (k : Fin 16), k ∈ s.groups[g].rotation ↔ s.lines[k].defined = true ∧ s.lines[k].defn.group = g) :
    (priorityOrder s).Pairwise fun j k => groupOf s j ≤ groupOf s k := by
  have member (g k) (h : k ∈ s.groups[g].rotation.filter fun k => s.lines[k].state == .pending) : groupOf s k = g :=
    ((ordered g k).mp (List.mem_filter.mp h).1).2
  refine List.pairwise_flatMap.mpr ⟨fun g _ => ?_, ?_⟩
  · exact List.pairwise_of_forall_mem_list fun j hj k hk => by rw [member g j hj, member g k hk]
  · refine (List.pairwise_lt_finRange 6).imp fun {g g'} lt j hj k hk => ?_
    rw [member g j hj, member g' k hk]; exact le_of_lt lt

/-- A walk in progress from a state: the lines it has taken and that wait are skipped, and once it has taken a line of G1 to G5 it
has taken every waiting line of G0. -/
structure Walking (s : State) (visited : List (Fin 16)) (u : State) : Prop where
  lists : ListsAgree u
  refreshed : u.arb.pendingList = priorityOrder u
  frame : SameBesideDraws s u
  skipped : ∀ j ∈ visited, j ∈ u.arb.pendingList → passSkips s j = true
  urgentFirst : (∃ j ∈ visited, groupOf s j ≠ 0) → ∀ i ∈ u.arb.pendingList, i ∉ visited → groupOf s i ≠ 0
  once : visited.Nodup

/-- The next line a walk takes (R98). -/
def nextLine (visited : List (Fin 16)) (u : State) : Option (Fin 16) := u.arb.pendingList.find? fun k => !visited.contains k

theorem nextLine_some {visited : List (Fin 16)} {u : State} {k : Fin 16} (h : nextLine visited u = some k) :
    k ∉ visited ∧ ∃ before after, u.arb.pendingList = before ++ k :: after ∧ ∀ j ∈ before, j ∈ visited := by
  obtain ⟨fresh, before, after, split, taken⟩ := List.find?_eq_some_iff_append.mp h
  exact ⟨by simpa using fresh, before, after, split, fun j hj => by simpa using taken j hj⟩

namespace Walking
variable {s u : State} {visited : List (Fin 16)}

theorem nextLine_none (h : Walking s visited u) (hn : nextLine visited u = none) : ∀ k ∈ u.arb.pendingList, passSkips s k = true :=
  fun k hk => h.skipped k (by simpa using List.find?_eq_none.mp hn k hk) hk

/-- Behind a line of G1 to G5 only such lines wait (R91). -/
theorem urgentFirst_cons (h : Walking s visited u) {k : Fin 16} (hn : nextLine visited u = some k) :
    (∃ j ∈ k :: visited, groupOf s j ≠ 0) → ∀ i ∈ u.arb.pendingList, i ∉ visited → groupOf s i ≠ 0 := by
  rintro ⟨j, hj, other⟩ i hi fresh
  obtain rfl | hj := List.mem_cons.mp hj
  · obtain ⟨_, before, after, split, taken⟩ := nextLine_some hn
    have sorted := priorityOrder_groups h.lists.ordered
    rw [← h.refreshed, split] at sorted
    rw [split, List.mem_append, List.mem_cons] at hi
    obtain hi | rfl | hi := hi
    · exact absurd (taken i hi) fresh
    · exact other
    · have behind := (List.pairwise_cons.mp (List.pairwise_append.mp sorted).2.1).1 i hi
      rw [h.frame.groupOf, h.frame.groupOf] at behind
      exact fun zero => other (Fin.le_zero_iff.mp (zero ▸ behind))
  · exact h.urgentFirst ⟨j, hj, other⟩ i hi fresh

theorem skip (h : Walking s visited u) {k : Fin 16} (hn : nextLine visited u = some k) (skips : passSkips u k = true) :
    Walking s (k :: visited) u where
  lists := h.lists
  refreshed := h.refreshed
  frame := h.frame
  skipped j hj hw := by
    obtain rfl | hj := List.mem_cons.mp hj
    · rw [← h.frame.passSkips]; exact skips
    · exact h.skipped j hj hw
  urgentFirst other i hi fresh := h.urgentFirst_cons hn other i hi (List.not_mem_of_not_mem_cons fresh)
  once := List.nodup_cons.mpr ⟨(nextLine_some hn).1, h.once⟩

/-- A granted line leaves the list, with or without room made for it; a line that this puts back on the list is none the walk has
taken, and is of G1 to G5. -/
theorem grant (h : Walking s visited u) {k : Fin 16} (hn : nextLine visited u = some k) {v : State}
    (lists : ListsAgree (Machine.grant k v)) (frame : SameBesideDraws u v)
    (back : ∀ j, v.lines[j].state = .pending → u.lines[j].state = .pending ∨ groupOf u k = 0 ∧ groupOf u j ≠ 0) :
    Walking s (k :: visited) (Machine.grant k v) := by
  obtain ⟨fresh, before, after, split, _⟩ := nextLine_some hn
  have waits : ∀ j ∈ (Machine.grant k v).arb.pendingList,
      j ≠ k ∧ (j ∈ u.arb.pendingList ∨ groupOf s k = 0 ∧ groupOf s j ≠ 0) := fun j hj => by
    have state := (lists.waiting j).mp hj
    rw [grant_state] at state
    split at state
    · cases state
    · rw [← h.frame.groupOf k, ← h.frame.groupOf j, h.lists.waiting]
      exact ⟨‹_›, back j state⟩
  refine ⟨lists, grant_pendingList k v, (h.frame.trans frame).trans (grant_besideDraws k v), fun j hj hw => ?_,
    fun other i hi new => ?_, List.nodup_cons.mpr ⟨fresh, h.once⟩⟩
  · obtain ⟨ne, old | ⟨urgent, other⟩⟩ := waits j hw
    · exact h.skipped j ((List.mem_cons.mp hj).resolve_left ne) old
    · have next : k ∈ u.arb.pendingList := by rw [split]; simp
      exact absurd urgent (h.urgentFirst ⟨j, (List.mem_cons.mp hj).resolve_left ne, other⟩ k next fresh)
  · obtain ⟨_, old | ⟨_, other⟩⟩ := waits i hi
    · exact h.urgentFirst_cons hn other i old (List.not_mem_of_not_mem_cons new)
    · exact other

end Walking

/-- What holds where a pass ends (R98). -/
structure PassEnded (s t : State) : Prop where
  lists : ListsAgree t
  frame : SameBesideDraws s t
  reached : t.arb.stoppedAt = none → ∀ k ∈ t.arb.pendingList, passSkips s k = true
  stopped : ∀ k, t.arb.stoppedAt = some k →
    (∃ before after, t.arb.pendingList = before ++ k :: after ∧ ∀ j ∈ before, passSkips s j = true) ∧
    passSkips s k = false ∧ fits t k = false ∧ (groupOf t k = 0 → roomCanBeMade t k = false)

theorem Walking.stops {s u : State} {visited : List (Fin 16)} (h : Walking s visited u) {k : Fin 16}
    (hn : nextLine visited u = some k) (skips : ¬ passSkips u k = true) (full : ¬ fits u k = true)
    (tight : groupOf u k = 0 → ¬ roomCanBeMade u k = true) : PassEnded s (passEnds (some k) u) where
  lists := h.lists.same rfl rfl rfl rfl rfl
  frame := h.frame.trans (passEnds_besideDraws _ u)
  reached none := by cases none
  stopped j at? := by
    obtain rfl : k = j := Option.some.inj at?
    obtain ⟨_, before, after, split, taken⟩ := nextLine_some hn
    refine ⟨⟨before, after, split, fun i hi => h.skipped i (taken i hi) (by rw [split]; simp [hi])⟩, ?_,
      Bool.eq_false_of_not_eq_true full, fun urgent => Bool.eq_false_of_not_eq_true (tight urgent)⟩
    rw [← h.frame.passSkips]; exact Bool.eq_false_of_not_eq_true skips

theorem Walking.reaches {s u : State} {visited : List (Fin 16)} (h : Walking s visited u) (hn : nextLine visited u = none) :
    PassEnded s (passEnds none u) where
  lists := h.lists.same rfl rfl rfl rfl rfl
  frame := h.frame.trans (passEnds_besideDraws _ u)
  reached _ := h.nextLine_none hn
  stopped k at? := by cases at?

/-- A walk with a round for every line it has not taken ends as R98 says. -/
theorem Walking.ends {s : State} : ∀ (fuel : Nat) (visited : List (Fin 16)) (u : State), visited.length + fuel = 17 →
    Walking s visited u → PassEnded s (passWalk fuel visited u)
  | 0, visited, u, rounds, h => by
    have := h.once.length_le_card
    rw [Fintype.card_fin] at this; omega
  | fuel + 1, visited, u, rounds, h => by
    have left (k : Fin 16) : (k :: visited).length + fuel = 17 := by rw [List.length_cons]; omega
    unfold passWalk
    split
    · exact h.reaches ‹_›
    · rename_i k hn
      have hn : nextLine visited u = some k := hn
      have waits : u.lines[k].state = .pending := (h.lists.waiting k).mp (List.mem_of_find?_eq_some hn)
      split
      · exact Walking.ends fuel _ _ (left k) (h.skip hn ‹_›)
      · split
        · rename_i fitting
          exact Walking.ends fuel _ _ (left k) (h.grant hn (h.lists.grant waits (fits_iff.mp fitting).1) (.refl u)
            fun j waits => .inl waits)
        · split
          · rename_i other
            exact h.stops hn ‹_› ‹_› fun urgent => absurd urgent (by simpa using other)
          · rename_i urgent
            have urgent : groupOf u k = 0 := by simpa using urgent
            split
            · refine Walking.ends fuel _ _ (left k) (h.grant hn (h.lists.grantWithRoom (List.mem_of_find?_eq_some hn) ‹_›)
                (makeRoom_besideDraws k u) fun j waits => ?_)
              by_cases other : u.lines[j].state ≠ .flowing ∨ groupOf u j = 0
              · rw [makeRoom_lines other] at waits; exact .inl waits
              · exact .inr ⟨urgent, fun zero => other (.inr zero)⟩
            · exact h.stops hn ‹_› ‹_› fun _ => ‹_›

theorem grantPass_ended {s : State} (h : ListsAgree s) (refreshed : s.arb.pendingList = priorityOrder s) :
    PassEnded s (grantPass s) :=
  Walking.ends 17 [] s rfl ⟨h, refreshed, .refl s, by simp, by simp, List.nodup_nil⟩

theorem passSkips_iff {s : State} {k : Fin 16} : passSkips s k = true ↔
    s.lines[k].masked = true ∨ (s.arb.mode = .manual ∧ s.lines[k].defn.group ≠ 0) ∨
      (s.lines[k].defn.group ≠ 0 ∧ s.groups[s.lines[k].defn.group].defn.admitLevel < s.arb.levelHeld) := by
  simp only [passSkips, levelAdmits, Bool.or_eq_true, Bool.and_eq_true, beq_iff_eq, bne_iff_ne, Bool.not_eq_true',
    Bool.or_eq_false_iff, beq_eq_false_iff_ne, decide_eq_false_iff_not, Nat.not_le, or_assoc]
  rfl

/-- The lines whose flow can be given up are the flowing ones of the other groups, in whatever order they are taken (R115). -/
theorem ListsAgree.preemptible_perm {s : State} (h : ListsAgree s) :
    (preemptible s).Perm (allLines.filter fun j => decide (s.lines[j].state = .flowing ∧ s.lines[j].defn.group ≠ 0)) := by
  refine (List.perm_ext_iff_of_nodup (preemptible_nodup h.servingOnce) ((List.nodup_finRange 16).filter _)).mpr fun j => ?_
  rw [mem_preemptible, h.serving]
  simp only [List.mem_filter, List.mem_finRange, true_and, decide_eq_true_eq]
  exact and_congr_left fun _ => ⟨And.right, fun flowing => ⟨.inl flowing, flowing⟩⟩

/-- Settles O43, by induction on the rounds of the walk with what the taken lines have in common. -/
theorem passStopsOnlyAtALineThatMayNotGo : Obligations.PassStopsOnlyAtALineThatMayNotGo := by
  rintro s t skipped lists refreshed rfl skips
  have skips (k) : skipped k ↔ passSkips s k = true := (skips k).trans passSkips_iff.symm
  have ended := grantPass_ended (listsLaw_iff.mp lists).1 refreshed
  refine ⟨fun none k hk => (skips k).mpr (ended.reached none k hk), fun k at? => ?_⟩
  obtain ⟨⟨before, after, split, taken⟩, goes, full, tight⟩ := ended.stopped k at?
  refine ⟨before, after, split, fun j hj => (skips j).mpr (taken j hj), by rw [skips, goes]; simp, ?_, fun urgent movable isMovable => ?_⟩
  · have notFits : ¬ ((grantPass s).arb.inService.length < 8 ∧ flowOf (grantPass s) k ≤ freeCapacity (grantPass s)) :=
      fun both => by rw [fits_iff.mpr both] at full; cases full
    rw [freeCapacity, flowOf] at notFits
    omega
  · have perm := ended.lists.preemptible_perm
    rw [← isMovable] at perm
    have noRoom : ¬ (flowOf (grantPass s) k ≤ freeCapacity (grantPass s) + flowSum (grantPass s) (preemptible (grantPass s)) ∧
        (grantPass s).arb.inService.length - (preemptible (grantPass s)).length < 8) :=
      fun both => by rw [roomCanBeMade_iff.mpr both] at tight; cases tight urgent
    rw [flowSum, (perm.map _).sum_eq, perm.length_eq, freeCapacity, flowOf] at noRoom
    change ¬ (_ ≤ _ + (movable.map fun j => (grantPass s).lines[j].defn.flow).sum ∧ _) at noRoom
    omega

end Sys2Proof.Machine
end


section
/-!
The law of the Draw Arbiter within an event, under the Arbiter's own operations (R92, R96, R117, R119, R120): a grant is made where it
fits or room was made, a supply lost leaves no draw flowing, and a supply restored or a capacity that falls leaves what fits.
-/

namespace Sys2Proof.Machine

/-! ### Sums of nominal flows (R96) -/

theorem sum_map_filter {α : Type} (p : α → Bool) (f : α → Nat) (l : List α) :
    ((l.filter p).map f).sum = (l.map fun a => if p a then f a else 0).sum := by
  induction l with
  | nil => rfl
  | cons a l ih =>
    rw [List.filter_cons, List.map_cons, List.sum_cons, ← ih]
    split <;> simp

theorem flowSum_filter (s : State) (p : Fin 16 → Bool) :
    flowSum s (allLines.filter p) = ∑ k, if p k then flowOf s k else 0 := by
  rw [flowSum, sum_map_filter, Fin.sum_univ_def]; rfl

/-- What a line adds to the flow of the flowing draws. -/
def flowShare (s : State) (k : Fin 16) : Nat := if isFlowing s k then flowOf s k else 0

theorem flowingFlow_eq (s : State) : flowingFlow s = ∑ k, flowShare s k := flowSum_filter s _

theorem flowingFlow_le {s u : State} (less : ∀ k, flowShare u k ≤ flowShare s k) : flowingFlow u ≤ flowingFlow s := by
  rw [flowingFlow_eq, flowingFlow_eq]; exact Finset.sum_le_sum fun k _ => less k

/-- A change of one line changes the sum by that line's share. -/
theorem flowingFlow_change {s u : State} (k : Fin 16) (others : ∀ j, j ≠ k → flowShare u j = flowShare s j) :
    flowingFlow u + flowShare s k = flowingFlow s + flowShare u k := by
  have rest : (Finset.univ.erase k).sum (flowShare u) = (Finset.univ.erase k).sum (flowShare s) :=
    Finset.sum_congr rfl fun j hj => others j (Finset.ne_of_mem_erase hj)
  have split (v : State) : flowShare v k + (Finset.univ.erase k).sum (flowShare v) = flowingFlow v :=
    (Finset.add_sum_erase Finset.univ (flowShare v) (Finset.mem_univ k)).trans (flowingFlow_eq v).symm
  have after := split u
  have before := split s
  omega

theorem flowingFlow_zero {s : State} (still : ∀ k : Fin 16, s.lines[k].state ≠ .flowing) : flowingFlow s = 0 := by
  rw [flowingFlow_eq]
  refine Finset.sum_eq_zero fun k _ => if_neg ?_
  rw [isFlowing, beq_iff_eq]; exact still k

theorem flowShare_of_state {s u : State} (k : Fin 16) (state : u.lines[k].state = s.lines[k].state)
    (flow : flowOf u k = flowOf s k) : flowShare u k = flowShare s k := by
  rw [flowShare, flowShare, isFlowing, isFlowing, state, flow]

theorem flowShare_flowing {s : State} {k : Fin 16} (flows : s.lines[k].state = .flowing) : flowShare s k = flowOf s k :=
  if_pos (by rw [isFlowing, flows]; rfl)

theorem flowShare_still {s : State} {k : Fin 16} (still : s.lines[k].state ≠ .flowing) : flowShare s k = 0 :=
  if_neg (by rw [isFlowing, beq_iff_eq]; exact still)

theorem grant_flow {k : Fin 16} {s : State} (waits : s.lines[k].state = .pending) :
    flowingFlow (grant k s) = flowingFlow s + flowOf s k := by
  have frame := (grant_besideDraws k s).toSameBesideArbiter
  have change := flowingFlow_change (s := s) (u := grant k s) k fun j other =>
    flowShare_of_state j (by rw [grant_state, if_neg other]) (frame.flowOf j)
  have after : flowShare (grant k s) k = flowOf s k := by
    rw [flowShare_flowing (by rw [grant_state, if_pos rfl]), frame.flowOf]
  rw [flowShare_still (by rw [waits]; decide), after] at change
  exact change

theorem preempt_flow (k : Fin 16) (s : State) : flowingFlow (preempt k s) + flowShare s k = flowingFlow s := by
  have frame := (preempt_besideDraws k s).toSameBesideArbiter
  have change := flowingFlow_change (s := s) (u := preempt k s) k fun j other =>
    flowShare_of_state j (by rw [preempt_state, if_neg other]) (frame.flowOf j)
  rw [flowShare_still (s := preempt k s) (by rw [preempt_state, if_pos rfl]; decide)] at change
  exact change

/-! ### The flow law -/

/-- The flow law (`FlowLaw`) by its parts; that no draw flows while supply is DOWN follows from them. -/
structure FlowsFit (s : State) : Prop where
  fit : flowingFlow s ≤ s.arb.capacityHeld
  down : s.arb.supplyHeld = .down → s.arb.capacityHeld = 0
  positive : ∀ k : Fin 16, 0 < s.lines[k].defn.flow
  stored : ∀ image : Image, s.link.stored = some image → image.linesOk
  writing : ∀ image : Image, s.link.writing = some image → image.linesOk

theorem FlowsFit.still {s : State} (h : FlowsFit s) (down : s.arb.supplyHeld = .down) (k : Fin 16) : s.lines[k].state ≠ .flowing := by
  intro flows
  have share := Finset.single_le_sum (f := flowShare s) (fun _ _ => Nat.zero_le _) (Finset.mem_univ k)
  rw [← flowingFlow_eq, flowShare_flowing flows] at share
  have fit := h.fit
  have positive : 0 < flowOf s k := h.positive k
  rw [h.down down] at fit
  omega

theorem flowLaw_iff {s : State} : FlowLaw s ↔ FlowsFit s :=
  ⟨fun ⟨fit, down, positive, stored, writing⟩ => ⟨fit, fun d => (down d).1, positive, stored, writing⟩,
    fun h => ⟨h.fit, fun d => ⟨h.down d, h.still d⟩, h.positive, h.stored, h.writing⟩⟩

/-- The law of the Draw Arbiter within an event. -/
structure DrawsLaw (s : State) : Prop where
  lists : ListsAgree s
  flows : FlowsFit s

theorem arbiterLaw_iff {s : State} : ArbiterLaw s ↔ DrawsLaw s ∧ s.arb.preemptedNow = [] := by
  rw [ArbiterLaw, listsLaw_iff, flowLaw_iff]
  exact ⟨fun ⟨⟨lists, clear⟩, flows⟩ => ⟨⟨lists, flows⟩, clear⟩, fun ⟨⟨lists, flows⟩, clear⟩ => ⟨⟨lists, clear⟩, flows⟩⟩

/-- The frame of a pass keeps what the flow law says beside the sum. -/
theorem FlowsFit.of_besideDraws {s u : State} (h : FlowsFit s) (frame : SameBesideDraws s u)
    (fit : flowingFlow u ≤ s.arb.capacityHeld) : FlowsFit u where
  fit := by rw [frame.capacityHeld]; exact fit
  down := by rw [frame.capacityHeld, frame.supplyHeld]; exact h.down
  positive k := by rw [frame.line_defn]; exact h.positive k
  stored := by rw [frame.link]; exact h.stored
  writing := by rw [frame.link]; exact h.writing

/-! ### The pass -/

theorem DrawsLaw.grant {k : Fin 16} {s : State} (h : DrawsLaw s) (waits : s.lines[k].state = .pending) (fitting : fits s k = true) :
    DrawsLaw (grant k s) := by
  obtain ⟨place, flow⟩ := fits_iff.mp fitting
  refine ⟨h.lists.grant waits place, h.flows.of_besideDraws (grant_besideDraws k s) ?_⟩
  have fit := h.flows.fit
  rw [freeCapacity] at flow
  rw [grant_flow waits]; omega

/-- Room that can be made is made: the line fits then (R115). -/
theorem makeRoom_fits {k : Fin 16} {s : State} (h : DrawsLaw s) (can : roomCanBeMade s k = true) : fits (makeRoom k s) k = true := by
  obtain ⟨rest, ⟨_, sum⟩, stops⟩ := preemptUntil_induct (enough := fun u => fits u k)
    (P := fun ks u => (ToPreempt ks u ∧ SameBesideDraws s u) ∧ flowingFlow u + flowSum s (preemptible s) = flowingFlow s + flowSum s ks)
    (fun j ks u _ ⟨⟨hu, frame⟩, sum⟩ => by
      have flow := preempt_flow j u
      rw [flowShare_flowing (hu.flowing j (by simp)), frame.flowOf] at flow
      simp only [flowSum, List.map_cons, List.sum_cons] at sum ⊢
      exact ⟨⟨hu.preempt, frame.trans (preempt_besideDraws j u)⟩, by omega⟩)
    (preemptible s) s ⟨⟨h.lists.toPreempt, .refl s⟩, rfl⟩
  obtain rfl | fitting := stops
  · have frame := makeRoom_besideDraws k s
    refine fits_iff.mpr ⟨(h.lists.makeRoom k).2 can, ?_⟩
    have flow := (roomCanBeMade_iff.mp can).1
    have fit := h.flows.fit
    rw [freeCapacity] at flow ⊢
    rw [frame.flowOf, frame.capacityHeld, makeRoom]
    simp only [flowSum, List.map_nil, List.sum_nil] at sum flow
    omega
  · exact fitting

theorem DrawsLaw.preempt {k : Fin 16} {s : State} (h : DrawsLaw s) (serves : k ∈ s.arb.inService) : DrawsLaw (preempt k s) := by
  refine ⟨h.lists.preempt serves, h.flows.of_besideDraws (preempt_besideDraws k s) ?_⟩
  have flow := preempt_flow k s
  have fit := h.flows.fit
  omega

theorem DrawsLaw.makeRoom {s : State} (h : DrawsLaw s) (k : Fin 16) : DrawsLaw (makeRoom k s) := by
  obtain ⟨_, ⟨left, _⟩, _⟩ := preemptUntil_induct (enough := fun u => fits u k) (P := fun ks u => DrawsLaw u ∧ ToPreempt ks u)
    (fun j ks u _ ⟨hu, left⟩ =>
      ⟨hu.preempt ((hu.lists.serving j).mpr (.inl (left.flowing j (by simp)))), left.preempt⟩)
    (preemptible s) s ⟨h, h.lists.toPreempt⟩
  exact left

theorem DrawsLaw.same {s u : State} (h : DrawsLaw s) (lines : u.lines = s.lines := by rfl) (groups : u.groups = s.groups := by rfl)
    (waiting : u.arb.pendingList = s.arb.pendingList := by rfl) (serving : u.arb.inService = s.arb.inService := by rfl)
    (now : u.arb.preemptedNow = s.arb.preemptedNow := by rfl) (supply : u.arb.supplyHeld = s.arb.supplyHeld := by rfl)
    (capacity : u.arb.capacityHeld = s.arb.capacityHeld := by rfl) (stored : u.link.stored = s.link.stored := by rfl)
    (writing : u.link.writing = s.link.writing := by rfl) : DrawsLaw u := by
  refine ⟨h.lists.same lines groups waiting serving now, ?_⟩
  obtain ⟨_, fit, down, positive, store, write⟩ := h
  have flow : flowingFlow u = flowingFlow s := by
    rw [flowingFlow, flowingFlow, flowSum, flowSum]; unfold flowOf isFlowing; rw [lines]
  constructor <;> simp only [lines, supply, capacity, stored, writing, flow] <;> assumption

theorem DrawsLaw.grantPass {s : State} (h : DrawsLaw s) : DrawsLaw (grantPass s) :=
  grantPass_induct (fun k _ listed fitting hu => hu.grant ((hu.lists.waiting k).mp listed) fitting)
    (fun k u listed _ can hu => by
      have waits := (hu.lists.waiting k).mp listed
      refine (hu.makeRoom k).grant ?_ (makeRoom_fits hu can)
      rw [makeRoom_lines (.inl (by rw [waits]; decide)), waits])
    (fun _ _ hu => hu.same) s h

end Sys2Proof.Machine
end


section
/-!
Laws of the draws under the units that reach the Arbiter. A train reaches it by its flush request alone (R90, R144): `FlushLaw` lists what
the trains' and the transfer's operations need of a law. The sets and the Evaluator reach it by a supply state with its capacity and by a
level (R63, R126): `HandOverLaw` lists what a whole tank change needs.
-/

namespace Sys2Proof.Machine

/-- Two states with the same lines, groups, Arbiter and configuration store. -/
structure SameDraws (s u : State) : Prop where
  lines : u.lines = s.lines
  groups : u.groups = s.groups
  arb : u.arb = s.arb
  stored : u.link.stored = s.link.stored
  writing : u.link.writing = s.link.writing

/-- What the trains need of a law of the draws. -/
structure FlushLaw (law : State → Prop) : Prop where
  same : ∀ {s u}, SameDraws s u → law s → law u
  flush : ∀ {s} (k : Fin 16) (q : Option Nat) (n : Fin 3), s.lines[k].state = .idle → law s → law (register k q (.flush n) s)

/-- What the sets and the Evaluator need besides. -/
structure HandOverLaw (law : State → Prop) : Prop extends FlushLaw law where
  supply : ∀ {s} (state : SupplyState) (capacity : Nat), (state = .down → capacity = 0) → law s → law (takeSupply state capacity s)
  level : ∀ {s} (level : Nat), law s → law (takeLevel level s)

theorem post_sameDraws (n : NoticeBody) (s : State) : SameDraws s (post n s) := by
  have link := post_link n s
  exact ⟨by simp, by simp, by simp, by rw [link], by rw [link]⟩

theorem giveUpTarget_sameDraws (n : Fin 3) (s : State) : SameDraws s (giveUpTarget n s) := by
  unfold giveUpTarget; dsimp only; split <;> exact ⟨rfl, rfl, rfl, rfl, rfl⟩

namespace FlushLaw

variable {law : State → Prop} (c : FlushLaw law)
include c

theorem of_same {s u : State} (h : law s) (lines : u.lines = s.lines := by rfl) (groups : u.groups = s.groups := by rfl)
    (arb : u.arb = s.arb := by rfl) (stored : u.link.stored = s.link.stored := by rfl)
    (writing : u.link.writing = s.link.writing := by rfl) : law u := c.same ⟨lines, groups, arb, stored, writing⟩ h

theorem post {s : State} (n : NoticeBody) (h : law s) : law (post n s) := c.same (post_sameDraws n s) h

theorem activateRole {s : State} (r : MeterRole) (h : law s) : law (activateRole r s) :=
  c.same ⟨by simp only [Machine.activateRole], by simp only [Machine.activateRole], by simp only [Machine.activateRole],
    by simp only [Machine.activateRole], by simp only [Machine.activateRole]⟩ h

/-! ### Trains -/

theorem askFlush {s : State} (n : Fin 3) (h : law s) : law (askFlush n s) := by
  obtain ⟨_, _, _, idle, e⟩ | e := askFlush_cases n s <;> rw [e]
  · exact c.flush _ _ n idle (c.of_same h)
  · exact h

theorem startCheck {s : State} (h : law s) : law (startCheck s) := by
  obtain ⟨n, _, _, _, _, _, _, e⟩ | e := startCheck_cases s <;> rw [e]
  · exact c.of_same h
  · exact h

theorem enterFlushWait {s : State} (n : Fin 3) (remaining : Nat) (h : law s) : law (enterFlushWait n remaining s) :=
  c.askFlush n (c.of_same h)

theorem haltTrain {s : State} (n : Fin 3) (cause : StopCause) (h : law s) : law (haltTrain n cause s) := by
  have left := c.same (giveUpTarget_sameDraws n s) h
  exact c.startCheck (c.enterFlushWait n _ (c.of_same left))

theorem stopCheck {s : State} (h : law s) : law (stopCheck s) := stopCheck_keeps (fun n _ hu => c.haltTrain n _ hu) s h

theorem faultTrain {s : State} (n : Fin 3) (cause : FaultCause) (h : law s) : law (faultTrain n cause s) :=
  c.startCheck (c.post _ (c.of_same h))

theorem restTrain {s : State} (n : Fin 3) (h : law s) : law (restTrain n s) := c.startCheck (c.of_same h)

theorem finishFlush {s : State} (n : Fin 3) (h : law s) : law (finishFlush n s) := by
  unfold Machine.finishFlush; dsimp only; split
  · exact c.faultTrain n _ (c.of_same h)
  · exact c.restTrain n (c.of_same h)

theorem flushEnded {s : State} (cause : EndCause) (delivered : Nat) (n : Fin 3) (h : law s) : law (flushEnded cause delivered n s) := by
  unfold Machine.flushEnded; dsimp only; split
  case h_1 => exact ite_keeps _ (c.finishFlush n h) (c.enterFlushWait n _ h)
  case h_2 | h_3 => exact c.faultTrain n _ (c.of_same h)
  case h_4 | h_5 | h_6 | h_7 => exact c.enterFlushWait n _ h
  case h_8 => exact c.of_same h
  case h_9 => exact h

theorem excursion {s : State} (n : Fin 3) (h : law s) : law (excursion n s) := c.of_same (c.same (giveUpTarget_sameDraws n s) h)

theorem enterProducing {s : State} (n : Fin 3) (t : Fin 12) (h : law s) : law (enterProducing n t s) :=
  ite_keeps _ (c.stopCheck (c.of_same h)) (c.of_same h)

theorem holdComplete {s : State} (n : Fin 3) (h : law s) : law (holdComplete n s) := by
  unfold Machine.holdComplete; split
  · exact c.enterProducing n _ h
  · exact c.haltTrain n _ h

theorem takeReading {s : State} (r : Salinity) (n : Fin 3) (h : law s) : law (takeReading r n s) := by
  unfold Machine.takeReading; dsimp only; split
  · exact ite_keeps _ (ite_keeps _ (c.holdComplete n (c.of_same h)) (c.of_same h)) (c.of_same h)
  · exact ite_keeps _ (c.of_same h) (c.excursion n (c.of_same h))
  · exact c.of_same h

theorem retarget {s : State} (n : Fin 3) (h : law s) : law (retarget s n) := by
  unfold Machine.retarget; split
  · dsimp only; split <;> exact c.of_same h
  · exact c.haltTrain n _ h

theorem choice {s : State} (h : law s) : law { s with choices := s.choices + 1 } := c.of_same h

theorem trainsTake {s : State} (oldCall : Nat) (oldCandidates : List (Fin 12)) (h : law s) : law (trainsTake oldCall oldCandidates s) :=
  trainsTake_keeps (fun _ hu => c.startCheck hu) (fun _ hu => c.stopCheck hu)
    (fun u hu => retargetAll_keeps (fun _ n hv => c.retarget n hv) (fun _ hv => c.choice hv) u hu) oldCall oldCandidates s h

/-! ### The transfer and the power -/

theorem endTransfer {s : State} (cause : TransferCause) (h : law s) : law (endTransfer cause s) := by
  unfold Machine.endTransfer; split
  · exact h
  · exact c.startCheck (c.post _ (c.of_same h))

theorem endShore {s : State} (cause : ShoreCause) (h : law s) : law (endShore cause s) := by
  unfold Machine.endShore; split
  · exact h
  · exact c.post _ (c.of_same h)

theorem transferShoreTake {s : State} (h : law s) : law (transferShoreTake s) :=
  transferShoreTake_keeps (fun cause _ hu => c.endTransfer cause hu) (fun cause _ hu => c.endShore cause hu)
    (fun _ hu => c.choice hu) s h

theorem beginTransfer {s : State} (origin : TransferOrigin) (src dst : Fin 12) (litres : Nat) (h : law s) :
    law (beginTransfer origin src dst litres s) := c.activateRole _ (c.of_same h)

theorem balanceReview {s : State} (h : law s) : law (balanceReview s) := by
  unfold Machine.balanceReview; split
  · split
    · exact ite_keeps _ (c.beginTransfer _ _ _ _ h) h
    · exact h
  · exact h

theorem allowanceChanged {s : State} (cause : ShedCause) (old : Nat) (h : law s) : law (allowanceChanged cause old s) :=
  allowanceChanged_keeps (fun n _ hu => c.post n hu) (fun _ hu => c.endTransfer _ hu) (fun n _ hu => c.haltTrain n _ hu)
    (fun _ hu => c.startCheck hu) cause old s h

end FlushLaw

namespace HandOverLaw

variable {law : State → Prop} (c : HandOverLaw law)
include c

/-! ### The sets -/

theorem workOutSupply {s : State} (h : law s) : law (workOutSupply s) :=
  c.supply _ _ (fun down => by rw [capacityNow, down]) (c.of_same h)

theorem designate {s : State} (cause : ChangeoverCause) (h : law s) : law (designate cause s) := by
  obtain ⟨_, _, e⟩ | e := designate_cases cause s <;> rw [e]
  · exact c.post _ (c.of_same h)
  · exact h

theorem startDuty {s : State} (h : law s) : law (startDuty s) := by
  obtain ⟨_, _, _, e⟩ | e := startDuty_cases s <;> rw [e]
  · exact c.of_same h
  · exact h

theorem settleSets {s : State} (cause : ChangeoverCause) (h : law s) : law (settleSets cause s) :=
  settleSets_keeps (fun _ hu => c.workOutSupply hu) (fun cause _ hu => c.designate cause hu) (fun _ hu => c.startDuty hu) cause s h

theorem dutyTankLost {s : State} (h : law s) : law (dutyTankLost s) := c.workOutSupply (c.of_same h)

theorem dutyTankAppears {s : State} (h : law s) : law (dutyTankAppears s) := c.startDuty (c.activateRole _ h)

/-! ### The Evaluator and a tank change -/

theorem workOutLevel {s : State} (cause : LevelCause) (h : law s) : law (workOutLevel cause s) := by
  obtain ⟨_, e⟩ | ⟨_, e⟩ := workOutLevel_cases cause s <;> rw [e]
  · exact h
  · exact c.level _ (c.post _ (c.of_same h))

theorem applyDuty {s : State} (cause : DutyCause) (chosen : Option (Fin 12)) (h : law s) : law (applyDuty cause chosen s) := by
  have cleared : law (clearOldDuty s.eval.dutyTank s) := by
    unfold clearOldDuty; split
    · exact c.of_same h
    · exact h
  unfold Machine.applyDuty; dsimp only; split
  · have noticed (t : Fin 12) : law (Machine.post (.dutyChanged t cause s.eval.dutyTank)
        ((setDutyFlag t true (clearOldDuty s.eval.dutyTank s)).modEval fun e => { e with dutyTank := some t })) :=
      c.post _ (c.of_same cleared)
    exact ite_keeps _ h (ite_keeps _ (c.dutyTankAppears (noticed _)) (noticed _))
  · split
    · exact h
    · exact c.dutyTankLost (c.post _ (c.of_same h))

theorem evaluate {s : State} (h : law s) : law (evaluate s) :=
  evaluate_keeps (fun _ _ hu => c.of_same hu) (fun _ hu => c.workOutLevel _ hu) (fun cause _ _ hu => c.applyDuty cause _ hu) s h

theorem evaluateAndTrains {s : State} (h : law s) : law (evaluateAndTrains s) := c.trainsTake _ _ (c.evaluate h)

/-- A law of the draws under the acts of the tanks, the channels and the inputs. -/
theorem cascade (lineLitre : ∀ {s} (k : Fin 16) (forward : Bool), isFlowing s k = true → law s → law (lineLitre k forward s)) :
    CascadeLaw law law where
  loosen h := h
  tank _ _ _ h := c.of_same h
  looseInputs _ h := c.of_same h
  looseTotals _ _ _ _ h := c.of_same h
  looseFilled _ h := c.of_same h
  loosePost n h := c.post n h
  inputs _ h := c.of_same h
  meter _ _ h := c.of_same h
  choice _ h := c.choice h
  post n h := c.post n h
  strayTotal _ h := c.of_same h
  totals _ _ _ _ h := c.of_same h
  moved _ _ h := c.of_same h
  head _ _ h := c.of_same h
  evaluateAndTrains h := c.evaluateAndTrains h
  transferShoreTake h := c.transferShoreTake h
  takeReading r n h := c.takeReading r n h
  lineLitre := lineLitre

end HandOverLaw

end Sys2Proof.Machine
end


section
/-!
The law of the Draw Arbiter under registrations, withdrawals and ends of draws, and under the hand-overs of supply and level.
-/

namespace Sys2Proof.Machine

theorem holdsDraw_iff {st : LineState} : st.holdsDraw = true ↔ st = .pending ∨ (st = .flowing ∨ st = .suspended) := by
  cases st <;> simp [LineState.holdsDraw]

/-! ### Changes of lines that no list sees -/

/-- Two records of a line that stand in the same lists. -/
structure DrawLine.Alike (l m : DrawLine) : Prop where
  defined : m.defined = l.defined
  group : m.defn.group = l.defn.group
  waits : m.state = .pending ↔ l.state = .pending
  serves : (m.state = .flowing ∨ m.state = .suspended) ↔ (l.state = .flowing ∨ l.state = .suspended)
  record : m.draw.isSome = l.draw.isSome
  usable : m.state ≠ .unconfigured → l.state ≠ .unconfigured ∨ l.defined = true

theorem DrawLine.Alike.refl (l : DrawLine) : l.Alike l := ⟨rfl, rfl, Iff.rfl, Iff.rfl, rfl, .inl⟩

/-- A line that holds no draw, before and after. -/
theorem DrawLine.Alike.of_free {l m : DrawLine} (defined : m.defined = l.defined) (group : m.defn.group = l.defn.group)
    (draw : m.draw = l.draw) (before : l.state.holdsDraw = false) (after : m.state.holdsDraw = false)
    (usable : m.state ≠ .unconfigured → l.state ≠ .unconfigured ∨ l.defined = true) : l.Alike m := by
  have none (st : LineState) (h : st.holdsDraw = false) : st ≠ .pending ∧ st ≠ .flowing ∧ st ≠ .suspended := by
    cases st <;> simp_all [LineState.holdsDraw]
  obtain ⟨b1, b2, b3⟩ := none _ before
  obtain ⟨a1, a2, a3⟩ := none _ after
  exact ⟨defined, group, iff_of_false a1 b1, iff_of_false (by simp [a2, a3]) (by simp [b2, b3]), by rw [draw], usable⟩

theorem ListsAgree.alike {s u : State} (h : ListsAgree s) (lines : ∀ k : Fin 16, s.lines[k].Alike u.lines[k])
    (rotation : ∀ g : Fin 6, u.groups[g].rotation = s.groups[g].rotation) (waiting : u.arb.pendingList = s.arb.pendingList)
    (serving : u.arb.inService = s.arb.inService) (now : u.arb.preemptedNow = s.arb.preemptedNow) : ListsAgree u where
  waiting k := by rw [waiting, (lines k).waits]; exact h.waiting k
  serving k := by rw [serving, (lines k).serves]; exact h.serving k
  waitingOnce := by rw [waiting]; exact h.waitingOnce
  servingOnce := by rw [serving]; exact h.servingOnce
  capacity := by rw [serving]; exact h.capacity
  record k := by rw [(lines k).record, h.record, holdsDraw_iff, holdsDraw_iff, (lines k).waits, (lines k).serves]
  ordered g k := by rw [rotation, (lines k).defined, (lines k).group]; exact h.ordered g k
  orderedOnce g := by rw [rotation]; exact h.orderedOnce g
  usable k hk := by
    rw [(lines k).defined]
    obtain before | defined := (lines k).usable hk
    · exact h.usable k before
    · exact defined
  raised e he := by rw [now] at he; rw [(lines e.1).defined]; exact h.raised e he
  raisedOnce := by rw [now]; exact h.raisedOnce

/-- Fewer draws flow, from the same definitions and under the same supply. -/
theorem FlowsFit.fewer {s u : State} (h : FlowsFit s) (flow : ∀ k : Fin 16, u.lines[k].defn.flow = s.lines[k].defn.flow)
    (flowing : ∀ k : Fin 16, u.lines[k].state = .flowing → s.lines[k].state = .flowing)
    (supply : u.arb.supplyHeld = s.arb.supplyHeld := by rfl) (capacity : u.arb.capacityHeld = s.arb.capacityHeld := by rfl)
    (stored : u.link.stored = s.link.stored := by rfl) (writing : u.link.writing = s.link.writing := by rfl) : FlowsFit u where
  fit := by
    rw [capacity]
    refine (flowingFlow_le fun k => ?_).trans h.fit
    by_cases flows : u.lines[k].state = .flowing
    · rw [flowShare_flowing flows, flowShare_flowing (flowing k flows)]; exact (flow k).le
    · rw [flowShare_still flows]; exact Nat.zero_le _
  down := by rw [supply, capacity]; exact h.down
  positive k := by rw [flow]; exact h.positive k
  stored := by rw [stored]; exact h.stored
  writing := by rw [writing]; exact h.writing

theorem DrawsLaw.modLine {s : State} (h : DrawsLaw s) (k : Fin 16) {f : DrawLine → DrawLine} (alike : s.lines[k].Alike (f s.lines[k]))
    (flow : (f s.lines[k]).defn.flow = s.lines[k].defn.flow)
    (flowing : (f s.lines[k]).state = .flowing → s.lines[k].state = .flowing) : DrawsLaw (s.modLine k f) := by
  have line (j : Fin 16) : (s.modLine k f).lines[j] = if j = k then f s.lines[k] else s.lines[j] := by rw [modLine_lines, upd_get]
  refine ⟨h.lists.alike (fun j => ?_) (fun _ => rfl) rfl rfl rfl, h.flows.fewer (fun j => ?_) fun j => ?_⟩
  all_goals rw [line]; split
  · subst j; exact alike
  · exact .refl _
  · subst j; exact flow
  · rfl
  · subst j; exact flowing
  · exact id

/-! ### Registrations and withdrawals (R82, R88, R97, R111) -/

/-- A line out of service changes, out of service still, and the pending list is made again. -/
theorem DrawsLaw.relist {s : State} (h : DrawsLaw s) (k : Fin 16) {f : DrawLine → DrawLine}
    (defined : (f s.lines[k]).defined = s.lines[k].defined) (defn : (f s.lines[k]).defn = s.lines[k].defn)
    (known : s.lines[k].state ≠ .unconfigured)
    (before : s.lines[k].state ≠ .flowing ∧ s.lines[k].state ≠ .suspended)
    (after : (f s.lines[k]).state ≠ .flowing ∧ (f s.lines[k]).state ≠ .suspended)
    (record : (f s.lines[k]).draw.isSome = true ↔ (f s.lines[k]).state.holdsDraw = true) : DrawsLaw (refreshPending (s.modLine k f)) := by
  have line (j : Fin 16) : (refreshPending (s.modLine k f)).lines[j] = if j = k then f s.lines[k] else s.lines[j] := by
    rw [refreshPending, modArb_lines, modLine_lines, upd_get]
  have definedAt (j : Fin 16) : (refreshPending (s.modLine k f)).lines[j].defined = s.lines[j].defined := by
    rw [line]; split
    · subst j; exact defined
    · rfl
  have defnAt (j : Fin 16) : (refreshPending (s.modLine k f)).lines[j].defn = s.lines[j].defn := by
    rw [line]; split
    · subst j; exact defn
    · rfl
  refine ⟨.of_refreshed rfl (fun j => ?_) h.lists.servingOnce h.lists.capacity (fun j => ?_) (fun g j => ?_) h.lists.orderedOnce
    (fun j hj => ?_) (fun e he => ?_) h.lists.raisedOnce, h.flows.fewer (fun j => by rw [defnAt]) fun j flows => ?_⟩
  · rw [line]; split
    · subst j
      exact iff_of_false (fun listed => ((h.lists.serving _).mp listed).elim before.1 before.2) (fun serves => serves.elim after.1 after.2)
    · exact h.lists.serving j
  · rw [line]; split
    · subst j; exact record
    · exact h.lists.record j
  · rw [definedAt, defnAt]; exact h.lists.ordered g j
  · rw [definedAt]
    by_cases same : j = k
    · subst j; exact h.lists.usable k known
    · rw [line, if_neg same] at hj; exact h.lists.usable j hj
  · rw [definedAt]; exact h.lists.raised e he
  · rw [line] at flows
    split at flows
    · exact absurd flows after.1
    · exact flows

theorem DrawsLaw.register {s : State} (h : DrawsLaw s) {k : Fin 16} (q : Option Nat) (o : Source) (idle : s.lines[k].state = .idle) :
    DrawsLaw (register k q o s) :=
  (h.relist k (f := fun l => { l with state := .pending, draw := some (.registered q o) }) rfl rfl (by rw [idle]; decide) (by rw [idle]; decide) ⟨nofun, nofun⟩ (iff_of_true rfl rfl)).grantPass

theorem DrawsLaw.withdraw {s : State} (h : DrawsLaw s) {k : Fin 16} (waits : s.lines[k].state = .pending) : DrawsLaw (withdraw k s) :=
  h.relist k rfl rfl (by rw [waits]; decide) (by rw [waits]; decide) ⟨nofun, nofun⟩ (iff_of_false nofun nofun)

theorem restState_free (l : DrawLine) : (restState l).holdsDraw = false ∧ restState l ≠ .unconfigured := by
  unfold restState; split <;> exact ⟨rfl, by decide⟩

theorem endState_free (cause : EndCause) (l : DrawLine) : (endState cause l).holdsDraw = false := by
  unfold endState; split
  · rfl
  · rfl
  · exact (restState_free l).1

theorem DrawsLaw.closeLine {s : State} (h : DrawsLaw s) {k : Fin 16} (cause : EndCause) (serves : k ∈ s.arb.inService) :
    DrawsLaw (closeLine k cause s) := by
  have line (j : Fin 16) : (Machine.closeLine k cause s).lines[j] =
      if j = k then { s.lines[k] with state := endState cause s.lines[k], draw := none } else s.lines[j] := by
    rw [Machine.closeLine, modArb_lines, modLine_lines, upd_get]
  have free := endState_free cause s.lines[k]
  have freeOf (st : LineState) (held : st.holdsDraw = true) : endState cause s.lines[k] ≠ st := fun e => by rw [e, held] at free; cases free
  have defined (j : Fin 16) : (Machine.closeLine k cause s).lines[j].defined = s.lines[j].defined := by
    rw [line]; split
    · subst j; rfl
    · rfl
  have defn (j : Fin 16) : (Machine.closeLine k cause s).lines[j].defn = s.lines[j].defn := by
    rw [line]; split
    · subst j; rfl
    · rfl
  have state := (h.lists.serving k).mp serves
  refine ⟨⟨fun j => ?_, fun j => ?_, h.lists.waitingOnce, h.lists.servingOnce.filter _,
    (List.length_filter_le _ _).trans h.lists.capacity, fun j => ?_, fun g j => ?_, h.lists.orderedOnce, fun j hj => ?_, fun e he => ?_,
    h.lists.raisedOnce⟩, h.flows.fewer (fun j => by rw [defn]) fun j flows => ?_⟩
  · rw [line]; split
    · subst j
      refine iff_of_false (fun listed => ?_) (freeOf _ rfl)
      have waits := (h.lists.waiting _).mp listed
      rw [waits] at state; simp at state
    · exact h.lists.waiting j
  · rw [show (Machine.closeLine k cause s).arb.inService = s.arb.inService.filter (· != k) from rfl, List.mem_filter, bne_iff_ne, line]
    split
    · rename_i same
      exact iff_of_false (fun both => both.2 same) (fun serves => serves.elim (freeOf _ rfl) (freeOf _ rfl))
    · rename_i other
      rw [and_iff_left other]; exact h.lists.serving j
  · rw [line]; split
    · exact iff_of_false (by simp) (by rw [free]; simp)
    · exact h.lists.record j
  · rw [defined, defn]; exact h.lists.ordered g j
  · rw [defined]
    by_cases same : j = k
    · subst j; exact h.lists.usable k (by obtain e | e := state <;> rw [e] <;> decide)
    · rw [line, if_neg same] at hj; exact h.lists.usable j hj
  · rw [defined]; exact h.lists.raised e he
  · rw [line] at flows
    split at flows
    · exact absurd flows (freeOf _ rfl)
    · exact flows

/-! ### Hand-overs of supply and level (R97, R117, R119, R120) -/

/-- The line's part of a suspension (R117). -/
def DrawLine.suspendedAt (now : Word32) (l : DrawLine) : DrawLine :=
  { l with state := .suspended, draw := l.draw.map fun d => { d with suspendedSince := some now } }

/-- Suspending lines in turn suspends each of them, and nothing else changes. -/
theorem suspend_fold : ∀ (ks : List (Fin 16)) (s : State), ks.Nodup → ks.foldl (fun u k => suspend k u) s =
    { s with lines := updAll s.lines fun j l => if j ∈ ks then l.suspendedAt s.now else l }
  | [], s, _ => by
    have lines : updAll s.lines (fun j l => if j ∈ ([] : List (Fin 16)) then l.suspendedAt s.now else l) = s.lines :=
      vector_ext fun j => by rw [updAll_get, if_neg (by simp)]
    rw [lines]; rfl
  | k :: ks, s, once => by
    obtain ⟨fresh, once⟩ := List.nodup_cons.mp once
    have lines : updAll (suspend k s).lines (fun j l => if j ∈ ks then l.suspendedAt s.now else l) =
        updAll s.lines fun j l => if j ∈ k :: ks then l.suspendedAt s.now else l := vector_ext fun j => by
      rw [updAll_get, updAll_get, suspend, modLine_lines, upd_get]
      by_cases same : j = k
      · subst j; rw [if_neg fresh, if_pos rfl, if_pos List.mem_cons_self]; rfl
      · rw [if_neg same]
        by_cases later : j ∈ ks
        · rw [if_pos later, if_pos (List.mem_cons_of_mem _ later)]
        · rw [if_neg later, if_neg (by simp [same, later])]
    rw [List.foldl_cons, suspend_fold ks _ once]
    exact congrArg (fun v => ({ s with lines := v } : State)) lines

/-- The lines that flow at a loss of supply. -/
def flowingLines (s : State) : List (Fin 16) := s.arb.inService.filter (isFlowing s)

theorem ListsAgree.mem_flowingLines {s : State} (h : ListsAgree s) (k : Fin 16) :
    k ∈ flowingLines s ↔ s.lines[k].state = .flowing := by
  rw [flowingLines, List.mem_filter, h.serving, isFlowing, beq_iff_eq]
  exact ⟨And.right, fun flows => ⟨.inl flows, flows⟩⟩

/-- The state a loss of supply leaves to the pass that ends it (R117). -/
def supplyGone (s : State) : State :=
  { s with
    lines := updAll s.lines fun j l => if j ∈ flowingLines s then l.suspendedAt s.now else l
    arb := { s.arb with
      supplyHeld := .down, capacityHeld := 0
      hold := if (flowingLines s).isEmpty then s.arb.hold else some (.start s.arb.supplyLossHold) } }

theorem supplyLost_eq {s : State} (once : s.arb.inService.Nodup) : supplyLost s = grantPass (supplyGone s) := by
  have suspended := suspend_fold (flowingLines s) s (once.filter _)
  rw [flowingLines] at suspended
  unfold supplyLost; dsimp only
  rw [suspended]; rfl

theorem supplyGone_lines {s : State} (h : ListsAgree s) (k : Fin 16) : (supplyGone s).lines[k] =
    if s.lines[k].state = .flowing then s.lines[k].suspendedAt s.now else s.lines[k] := by
  have lines : (supplyGone s).lines[k] = if k ∈ flowingLines s then s.lines[k].suspendedAt s.now else s.lines[k] := by
    rw [supplyGone, updAll_get]
  rw [lines]
  exact if_congr (h.mem_flowingLines k) rfl rfl

theorem supplyGone_still {s : State} (h : ListsAgree s) (k : Fin 16) : (supplyGone s).lines[k].state ≠ .flowing := by
  rw [supplyGone_lines h]; split
  · exact nofun
  · assumption

theorem DrawLine.alike_suspendedAt {l : DrawLine} (now : Word32) (flows : l.state = .flowing) : l.Alike (l.suspendedAt now) :=
  ⟨rfl, rfl, iff_of_false nofun (by rw [flows]; nofun), iff_of_true (.inr rfl) (.inl flows), Option.isSome_map,
    fun _ => .inl (by rw [flows]; decide)⟩

theorem DrawsLaw.supplyGone {s : State} (h : DrawsLaw s) : DrawsLaw (supplyGone s) := by
  refine ⟨h.lists.alike (fun k => ?_) (fun _ => rfl) rfl rfl rfl,
    ⟨(flowingFlow_zero (supplyGone_still h.lists)).le, fun _ => rfl, fun k => ?_, h.flows.stored, h.flows.writing⟩⟩
  · rw [supplyGone_lines h.lists]; split
    · exact DrawLine.alike_suspendedAt _ ‹_›
    · exact .refl _
  · rw [supplyGone_lines h.lists]; split <;> exact h.flows.positive k

theorem resume_lines (k : Fin 16) (s : State) (j : Fin 16) : (resume k s).lines[j] = if j = k then
    { s.lines[k] with state := .flowing, draw := s.lines[k].draw.map fun d => { d with suspendedSince := none } } else s.lines[j] := by
  have lines : (resume k s).lines = upd s.lines k fun l =>
      { l with state := .flowing, draw := l.draw.map fun d => { d with suspendedSince := none } } := by
    simp only [resume, activateRole, modLine_lines]
  rw [lines, upd_get]

theorem resume_frame (k : Fin 16) (s : State) : (resume k s).arb = s.arb ∧ (resume k s).groups = s.groups ∧ (resume k s).link = s.link := by
  simp only [resume, activateRole, modLine_arb, modLine_groups, modLine_link, and_self]

theorem resume_flow {k : Fin 16} {s : State} (waits : s.lines[k].state = .suspended) :
    flowingFlow (resume k s) = flowingFlow s + flowOf s k := by
  have flow (j : Fin 16) : flowOf (resume k s) j = flowOf s j := (resume_besideDraws k s).flowOf j
  have change := flowingFlow_change (s := s) (u := resume k s) k fun j other =>
    flowShare_of_state j (by rw [resume_lines, if_neg other]) (flow j)
  rw [flowShare_still (by rw [waits]; decide), flowShare_flowing (s := resume k s) (by rw [resume_lines, if_pos rfl]), flow] at change
  exact change

theorem DrawsLaw.resume {s : State} (h : DrawsLaw s) {k : Fin 16} (waits : s.lines[k].state = .suspended)
    (room : flowOf s k ≤ freeCapacity s) : DrawsLaw (resume k s) := by
  obtain ⟨arb, groups, _⟩ := resume_frame k s
  refine ⟨h.lists.alike (fun j => ?_) (fun g => by rw [groups]) (by rw [arb]) (by rw [arb]) (by rw [arb]),
    h.flows.of_besideDraws (resume_besideDraws k s) ?_⟩
  · rw [resume_lines]; split
    · subst j
      exact ⟨rfl, rfl, iff_of_false nofun (by rw [waits]; nofun), iff_of_true (.inl rfl) (.inr waits), Option.isSome_map,
        fun _ => .inl (by rw [waits]; decide)⟩
    · exact .refl _
  · have fit := h.flows.fit
    rw [freeCapacity] at room
    rw [resume_flow waits]; omega

/-- Supply is UP with a capacity before the suspended draws are taken (R119). -/
def supplyBack (capacity : Nat) (s : State) : State :=
  s.modArb fun a => { a with supplyHeld := .up, capacityHeld := capacity, hold := none }

/-- The suspended draws in rank order (R92). -/
def suspendedLines (s : State) : List (Fin 16) := (rankOrder s).filter fun k => s.lines[k].state == .suspended

theorem supplyRestored_eq (capacity : Nat) (s : State) :
    supplyRestored capacity s = grantPass ((suspendedLines (supplyBack capacity s)).foldl restoreOne (supplyBack capacity s)) := rfl

theorem mem_suspendedLines {s : State} (h : ListsAgree s) (k : Fin 16) : k ∈ suspendedLines s ↔ s.lines[k].state = .suspended := by
  rw [suspendedLines, List.mem_filter, mem_rankOrder, h.serving, beq_iff_eq]
  exact ⟨And.right, fun waits => ⟨.inr waits, waits⟩⟩

theorem suspendedLines_nodup {s : State} (h : ListsAgree s) : (suspendedLines s).Nodup := (rankOrder_nodup h.servingOnce).filter _

theorem restoreOne_state {s : State} {k j : Fin 16} (other : j ≠ k) : (restoreOne s k).lines[j] = s.lines[j] := by
  unfold restoreOne; split
  · rw [resume_lines, if_neg other]
  · rw [preempt_lines, if_neg other]

theorem DrawsLaw.restoreOne {s : State} (h : DrawsLaw s) {k : Fin 16} (waits : s.lines[k].state = .suspended) :
    DrawsLaw (restoreOne s k) := by
  unfold Machine.restoreOne; split
  · exact h.resume waits ‹_›
  · exact h.preempt ((h.lists.serving k).mpr (.inr waits))

theorem DrawsLaw.restoreAll : ∀ (ks : List (Fin 16)) {s : State}, DrawsLaw s → ks.Nodup →
    (∀ k ∈ ks, s.lines[k].state = .suspended) → DrawsLaw (ks.foldl Machine.restoreOne s)
  | [], _, h, _, _ => h
  | k :: ks, s, h, once, waits => by
    obtain ⟨fresh, once⟩ := List.nodup_cons.mp once
    refine DrawsLaw.restoreAll ks (h.restoreOne (waits k List.mem_cons_self)) once fun j hj => ?_
    rw [restoreOne_state (by rintro rfl; exact fresh hj)]
    exact waits j (List.mem_cons_of_mem _ hj)

theorem DrawsLaw.supplyBack {s : State} (h : DrawsLaw s) (capacity : Nat) (down : s.arb.supplyHeld = .down) :
    DrawsLaw (supplyBack capacity s) :=
  ⟨h.lists.same rfl rfl rfl rfl rfl,
    ⟨(flowingFlow_zero (s := Machine.supplyBack capacity s) (h.flows.still down)).le.trans (Nat.zero_le _), nofun, h.flows.positive,
      h.flows.stored, h.flows.writing⟩⟩

/-- The capacity held is new, supply still UP (R120). -/
def capacitySet (capacity : Nat) (s : State) : State := s.modArb fun a => { a with capacityHeld := capacity }

/-- The flowing draws fit the capacity held. -/
def flowFits (s : State) : Bool := flowingFlow s ≤ s.arb.capacityHeld

/-- The draws preempted until the rest fit a new capacity (R120). -/
def capacityKept (capacity : Nat) (s : State) : State :=
  preemptUntil flowFits (flowingLowestFirst (capacitySet capacity s)) (capacitySet capacity s)

theorem capacityChanged_eq (capacity : Nat) (s : State) : capacityChanged capacity s = grantPass (capacityKept capacity s) := rfl

theorem DrawsLaw.capacityKept {s : State} (h : DrawsLaw s) (capacity : Nat) (up : s.arb.supplyHeld = .up) :
    DrawsLaw (capacityKept capacity s) := by
  have lists : ListsAgree (capacitySet capacity s) := h.lists.same rfl rfl rfl rfl rfl
  have order := flowingLowestFirst_nodup lists.servingOnce
  have frame := preemptUntil_besideDraws flowFits (flowingLowestFirst (capacitySet capacity s)) (capacitySet capacity s)
  obtain ⟨rest, ⟨left, only⟩, stops⟩ := preemptUntil_induct (enough := flowFits)
    (P := fun ks u => ToPreempt ks u ∧ ∀ j : Fin 16, u.lines[j].state = .flowing → j ∈ ks)
    (fun j ks u _ ⟨left, only⟩ => ⟨left.preempt, fun i flows => by
      rw [preempt_state] at flows
      split at flows
      · cases flows
      · exact List.mem_of_ne_of_mem ‹_› (only i flows)⟩)
    _ (capacitySet capacity s)
    ⟨⟨lists, order, fun k hk => (mem_flowingLowestFirst.mp hk).2⟩,
      fun j flows => mem_flowingLowestFirst.mpr ⟨(lists.serving j).mpr (.inl flows), flows⟩⟩
  refine ⟨left.lists, ?_, fun down => ?_, fun k => ?_, ?_, ?_⟩
  · rw [Machine.capacityKept]
    obtain rfl | fit := stops
    · exact (flowingFlow_zero fun k flows => by have := only k flows; cases this).le.trans (Nat.zero_le _)
    · simpa [flowFits] using fit
  · rw [Machine.capacityKept, frame.supplyHeld] at down
    rw [show (capacitySet capacity s).arb.supplyHeld = s.arb.supplyHeld from rfl, up] at down; cases down
  · rw [Machine.capacityKept, frame.line_defn]; exact h.flows.positive k
  · rw [Machine.capacityKept, frame.link]; exact h.flows.stored
  · rw [Machine.capacityKept, frame.link]; exact h.flows.writing

theorem DrawsLaw.takeSupply {s : State} (h : DrawsLaw s) (supply : SupplyState) (capacity : Nat) : DrawsLaw (takeSupply supply capacity s) := by
  obtain ⟨_, _, e⟩ | ⟨down, _, e⟩ | ⟨up, _, _, e⟩ | e := takeSupply_cases supply capacity s <;> rw [e]
  · rw [supplyLost_eq h.lists.servingOnce]; exact h.supplyGone.grantPass
  · have back := h.supplyBack capacity down
    rw [supplyRestored_eq]
    exact (DrawsLaw.restoreAll _ back (suspendedLines_nodup back.lists) fun k hk => (mem_suspendedLines back.lists k).mp hk).grantPass
  · rw [capacityChanged_eq]; exact (h.capacityKept capacity up).grantPass
  · exact h

theorem DrawsLaw.takeLevel {s : State} (h : DrawsLaw s) (level : Nat) : DrawsLaw (takeLevel level s) := by
  obtain ⟨_, e⟩ | ⟨_, e⟩ := takeLevel_cases level s <;> rw [e]
  · exact (h.same : DrawsLaw (s.modArb fun a => { a with levelHeld := level })).grantPass
  · exact h

theorem drawsHandOver : HandOverLaw DrawsLaw where
  same same h := h.same same.lines same.groups (by rw [same.arb]) (by rw [same.arb]) (by rw [same.arb]) (by rw [same.arb])
    (by rw [same.arb]) same.stored same.writing
  flush _ q n idle h := h.register q (.flush n) idle
  supply state capacity _ h := h.takeSupply state capacity
  level level h := h.takeLevel level

end Sys2Proof.Machine
end


section
/-!
Every act keeps the law of the Draw Arbiter: the ends of draws, the definitions of lines, and the rest (R80, R91, R92, R93, R96, R117).
An act starts where no line counts as preempted (log 22), and a removed line counts as none.
-/

namespace Sys2Proof.Machine

/-! ### The ends of draws (R106, R111, R118) -/

theorem endNotices_sameDraws (k : Fin 16) (cause : EndCause) (d : Draw) (s : State) : SameDraws s (endNotices k cause d s) := by
  have trans {s u v : State} (h : SameDraws s u) (g : SameDraws u v) : SameDraws s v :=
    ⟨g.lines.trans h.lines, g.groups.trans h.groups, g.arb.trans h.arb, g.stored.trans h.stored, g.writing.trans h.writing⟩
  have ended : SameDraws s (if endPosts cause d.origin then post (.drawEnded k cause d.delivered) s else s) := by
    split
    · exact post_sameDraws _ _
    · exact ⟨rfl, rfl, rfl, rfl, rfl⟩
  unfold endNotices; dsimp only; split
  · exact trans ended (post_sameDraws _ _)
  · exact trans ended (post_sameDraws _ _)
  · exact ended

/-- What a law of the draws keeps when a line closes and a pass runs, it keeps at the end of the line's draw. -/
theorem FlushLaw.endDraw {law : State → Prop} (c : FlushLaw law) (pass : ∀ {s}, law s → law (grantPass s)) {s : State} {k : Fin 16}
    {cause : EndCause} (closes : law (closeLine k cause s)) (h : law s) : law (endDraw k cause s) := by
  unfold Machine.endDraw; split
  · exact h
  · have closed (d : Draw) := c.same (endNotices_sameDraws k cause d _) closes
    dsimp only; split
    · exact ite_keeps _ (pass (c.flushEnded _ _ _ (c.of_same (closed _)))) (c.flushEnded _ _ _ (pass (c.of_same (closed _))))
    · exact pass (closed _)

theorem DrawsLaw.endDraw {s : State} (h : DrawsLaw s) {k : Fin 16} (cause : EndCause) (serves : k ∈ s.arb.inService) :
    DrawsLaw (endDraw k cause s) := drawsHandOver.toFlushLaw.endDraw DrawsLaw.grantPass (h.closeLine cause serves) h

theorem DrawsLaw.cancelPending {s : State} (h : DrawsLaw s) {k : Fin 16} (waits : s.lines[k].state = .pending) :
    DrawsLaw (cancelPending k s) := by
  unfold Machine.cancelPending; split
  · exact h
  · refine DrawsLaw.grantPass ?_
    unfold handToTrain; split
    · exact drawsHandOver.flushEnded _ _ _ (h.withdraw waits)
    · exact h.withdraw waits

/-- A line keeps a record and waits in no list. -/
def Stands (j : Fin 16) (l : DrawLine) (s : State) : Prop := s.lines[j] = l ∧ j ∉ s.arb.pendingList

theorem stands_grantPass {j : Fin 16} {l : DrawLine} (suspended : l.state = .suspended) {s : State} (h : Stands j l s) :
    Stands j l (grantPass s) := by
  obtain ⟨line, unlisted⟩ := h
  have kept := (grantPass_outOfPlay s).1 j (by rw [line, suspended]; decide) (by rw [line, suspended]; decide) unlisted
  exact ⟨kept.1.trans line, kept.2⟩

/-- A suspended line stands while other draws end, other lines are asked for a flush, and passes run. -/
theorem standsFlush {j : Fin 16} {l : DrawLine} (suspended : l.state = .suspended) : FlushLaw (Stands j l) where
  same same h := ⟨by rw [same.lines]; exact h.1, by rw [same.arb]; exact h.2⟩
  flush {s} k q n idle h := by
    have other : j ≠ k := by
      rintro rfl
      rw [h.1, suspended] at idle; cases idle
    have line : (refreshPending (s.modLine k fun l => { l with state := .pending, draw := some (.registered q (.flush n)) })).lines[j] = l := by
      rw [refreshPending, modArb_lines, modLine_lines, upd_get, if_neg other]; exact h.1
    refine stands_grantPass suspended ⟨line, fun listed => ?_⟩
    have waits := state_of_mem_priorityOrder (s := s.modLine k _) listed
    rw [modLine_lines, upd_get, if_neg other, h.1, suspended] at waits; cases waits

theorem endDraw_stands {j k : Fin 16} {s : State} (cause : EndCause) (other : j ≠ k) (suspended : s.lines[j].state = .suspended)
    (unlisted : j ∉ s.arb.pendingList) : (endDraw k cause s).lines[j] = s.lines[j] := by
  refine ((standsFlush suspended).endDraw (stands_grantPass suspended) ⟨?_, unlisted⟩ ⟨rfl, unlisted⟩).1
  rw [closeLine, modArb_lines, modLine_lines, upd_get, if_neg other]

theorem DrawsLaw.endAll (cause : EndCause) : ∀ (ks : List (Fin 16)) {s : State}, DrawsLaw s → ks.Nodup →
    (∀ k ∈ ks, s.lines[k].state = .suspended) → DrawsLaw (ks.foldl (fun u k => Machine.endDraw k cause u) s)
  | [], _, h, _, _ => h
  | k :: ks, s, h, once, waits => by
    obtain ⟨fresh, once⟩ := List.nodup_cons.mp once
    have serves := (h.lists.serving k).mpr (.inr (waits k List.mem_cons_self))
    refine DrawsLaw.endAll cause ks (h.endDraw cause serves) once fun j hj => ?_
    have suspended := waits j (List.mem_cons_of_mem _ hj)
    have unlisted : j ∉ s.arb.pendingList := fun listed => by
      have state := (h.lists.waiting j).mp listed
      rw [suspended] at state; cases state
    rw [endDraw_stands cause (by rintro rfl; exact fresh hj) suspended unlisted]
    exact suspended

theorem DrawsLaw.endSuspended {s : State} (h : DrawsLaw s) : DrawsLaw (endSuspended s) :=
  DrawsLaw.endAll .supplyLost _ h (suspendedLines_nodup h.lists) fun k hk => (mem_suspendedLines h.lists k).mp hk

theorem DrawsLaw.modDraw {s : State} (h : DrawsLaw s) (k : Fin 16) (f : Draw → Draw) : DrawsLaw (s.modDraw k f) :=
  h.modLine k ⟨rfl, rfl, Iff.rfl, Iff.rfl, Option.isSome_map, .inl⟩ rfl id

theorem DrawsLaw.lineLitre {s : State} (h : DrawsLaw s) {k : Fin 16} (forward : Bool) (flows : isFlowing s k = true) :
    DrawsLaw (lineLitre k forward s) := by
  have serves : k ∈ s.arb.inService := (h.lists.serving k).mpr (.inl (by simpa only [isFlowing, beq_iff_eq] using flows))
  have counted := h.modDraw k fun d => { d with delivered := deliveredAfter d.delivered forward, stall := 0 }
  unfold Machine.lineLitre; dsimp only; split
  · exact ite_keeps _ (counted.endDraw _ serves) counted
  · exact counted

/-! ### Definitions (R40, R81, R85, R86) -/

theorem DrawsLaw.setMetered {s : State} (h : DrawsLaw s) {k : Fin 16} (on : Bool) (free : s.lines[k].state.holdsDraw = false) :
    DrawsLaw (setMetered k on s) := by
  have rest := restState_free s.lines[k]
  refine h.modLine k (.of_free rfl rfl rfl free ?_ ?_) rfl fun flows => ?_
  · dsimp only; split
    · exact rest.1
    · rfl
  · dsimp only; split
    · rename_i both
      simp only [Bool.and_eq_true] at both
      exact fun _ => .inr both.2
    · exact fun no => absurd rfl no
  · dsimp only at flows
    split at flows
    · rw [flows] at rest; cases rest.1
    · cases flows

theorem setMetered_state {k j : Fin 16} {on : Bool} {s : State} (free : s.lines[j].state.holdsDraw = false) :
    (setMetered k on s).lines[j].state.holdsDraw = false := by
  rw [setMetered, modLine_lines, upd_get]; split
  · dsimp only; split
    · exact (restState_free _).1
    · rfl
  · exact free

theorem roleBusy_line {s : State} {k : Fin 16} (idle : roleBusy (.line k) s = false) : s.lines[k].state.holdsDraw = false := idle

theorem lineOfRole_some {r : MeterRole} {k : Fin 16} (h : lineOfRole r = some k) : r = .line k := by
  cases r <;> simp_all [lineOfRole]

theorem DrawsLaw.applyMeterDef {s : State} (h : DrawsLaw s) (m : Fin 24) (d : Option MeterDef)
    (idle : roleBusy s.meters[m].defn.role s = false) (ready : roleBusy (d.getD .default).role s = false) :
    DrawsLaw (applyMeterDef m d s) := by
  have fresh : DrawsLaw (s.modMeter m fun c => .fresh d c.phaseA c.phaseB) := h.same
  have free {r : MeterRole} {k : Fin 16} (line : lineOfRole r = some k) (quiet : roleBusy r s = false) :
      (s.modMeter m fun c => .fresh d c.phaseA c.phaseB).lines[k].state.holdsDraw = false := by
    rw [lineOfRole_some line] at quiet; exact roleBusy_line quiet
  refine ite_keeps _ fresh ?_
  cases old : lineOfRole s.meters[m].defn.role with
  | none =>
    cases new : lineOfRole (d.getD .default).role with
    | none => exact fresh
    | some k => exact fresh.setMetered true (free new ready)
  | some j =>
    have lost := fresh.setMetered false (free old idle)
    cases new : lineOfRole (d.getD .default).role with
    | none => exact lost
    | some k => exact lost.setMetered true (setMetered_state (free new ready))

/-- A line that holds no draw takes another record, and its place in the rotation orders is that of its definition. -/
theorem DrawsLaw.redefine {s u : State} (h : DrawsLaw s) (k : Fin 16) (free : s.lines[k].state.holdsDraw = false)
    (after : u.lines[k].state.holdsDraw = false) (draw : u.lines[k].draw = s.lines[k].draw) (flow : 0 < u.lines[k].defn.flow)
    (usable : u.lines[k].state ≠ .unconfigured → u.lines[k].defined = true)
    (others : ∀ j : Fin 16, j ≠ k → u.lines[j] = s.lines[j])
    (place : ∀ (g : Fin 6) (j : Fin 16), j ∈ u.groups[g].rotation ↔
      if j = k then u.lines[k].defined = true ∧ u.lines[k].defn.group = g else j ∈ s.groups[g].rotation)
    (once : ∀ g : Fin 6, u.groups[g].rotation.Nodup)
    (raised : u.lines[k].defined = true ∨ s.arb.preemptedNow = []) (arb : u.arb = s.arb)
    (link : u.link = s.link) : DrawsLaw u := by
  have still {st : LineState} (held : st.holdsDraw = true) : s.lines[k].state ≠ st ∧ u.lines[k].state ≠ st :=
    ⟨fun e => Bool.noConfusion ((e ▸ free).symm.trans held), fun e => Bool.noConfusion ((e ▸ after).symm.trans held)⟩
  have waits := still (st := .pending) rfl
  have flows := still (st := .flowing) rfl
  have suspends := still (st := .suspended) rfl
  refine ⟨⟨fun j => ?_, fun j => ?_, by rw [arb]; exact h.lists.waitingOnce, by rw [arb]; exact h.lists.servingOnce,
    by rw [arb]; exact h.lists.capacity, fun j => ?_, fun g j => ?_, once, fun j hj => ?_, fun e he => ?_,
    by rw [arb]; exact h.lists.raisedOnce⟩, ⟨?_, by rw [arb]; exact h.flows.down, fun j => ?_, by rw [link]; exact h.flows.stored,
    by rw [link]; exact h.flows.writing⟩⟩
  · rw [arb, h.lists.waiting]
    by_cases same : j = k
    · subst j; exact iff_of_false waits.1 waits.2
    · rw [others j same]
  · rw [arb, h.lists.serving]
    by_cases same : j = k
    · subst j; exact iff_of_false (fun s => s.elim flows.1 suspends.1) (fun s => s.elim flows.2 suspends.2)
    · rw [others j same]
  · by_cases same : j = k
    · subst j; rw [draw, h.lists.record, free, after]
    · rw [others j same]; exact h.lists.record j
  · rw [place]; split
    · subst j; rfl
    · rename_i other
      rw [others j other]; exact h.lists.ordered g j
  · by_cases same : j = k
    · subst j; exact usable hj
    · rw [others j same] at hj ⊢; exact h.lists.usable j hj
  · rw [arb] at he
    by_cases same : e.1 = k
    · obtain defined | none := raised
      · subst same; exact defined
      · rw [none] at he; cases he
    · rw [others e.1 same]; exact h.lists.raised e he
  · rw [arb]
    refine (flowingFlow_le fun j => ?_).trans h.flows.fit
    by_cases same : j = k
    · subst j; rw [flowShare_still flows.2]; exact Nat.zero_le _
    · rw [flowShare, flowShare, isFlowing, isFlowing, flowOf, flowOf, others j same]
  · by_cases same : j = k
    · subst j; exact flow
    · rw [others j same]; exact h.flows.positive j

theorem removeLine_defined {s : State} {k : Fin 16} (defined : s.lines[k].defined = true) : removeLine s k =
    (s.modGroup s.lines[k].defn.group fun g => { g with rotation := g.rotation.filter (· != k) }).modLine k fun l =>
      { l with defined := false, defn := .default, state := .unconfigured } := if_pos defined

theorem removeLine_undefined {s : State} {k : Fin 16} (undefined : ¬ s.lines[k].defined = true) : removeLine s k = s := if_neg undefined

theorem removeLine_lines (s : State) (k j : Fin 16) : (removeLine s k).lines[j] =
    if j = k ∧ s.lines[k].defined = true then { s.lines[k] with defined := false, defn := .default, state := .unconfigured }
    else s.lines[j] := by
  by_cases defined : s.lines[k].defined = true
  · rw [removeLine_defined defined, modLine_lines, modGroup_lines, upd_get]
    by_cases same : j = k
    · rw [if_pos same, if_pos ⟨same, defined⟩]
    · rw [if_neg same, if_neg fun both => same both.1]
  · rw [removeLine_undefined defined, if_neg fun both => defined both.2]

theorem removeLine_arb (s : State) (k : Fin 16) : (removeLine s k).arb = s.arb := by unfold removeLine; split <;> rfl

theorem DrawsLaw.removeLine {s : State} (h : DrawsLaw s) {k : Fin 16} (free : s.lines[k].state.holdsDraw = false)
    (clear : s.arb.preemptedNow = []) : DrawsLaw (removeLine s k) := by
  by_cases defined : s.lines[k].defined = true
  · have lines (j : Fin 16) := removeLine_lines s k j
    have groups (g : Fin 6) : (Machine.removeLine s k).groups[g].rotation =
        if g = s.lines[k].defn.group then s.groups[g].rotation.filter (· != k) else s.groups[g].rotation := by
      rw [removeLine_defined defined, modLine_groups, modGroup_groups, upd_get]; split
      · subst g; rfl
      · rfl
    have link : (Machine.removeLine s k).link = s.link := by unfold Machine.removeLine; split <;> rfl
    have line : (Machine.removeLine s k).lines[k] = { s.lines[k] with defined := false, defn := .default, state := .unconfigured } := by
      rw [lines, if_pos ⟨rfl, defined⟩]
    refine h.redefine k free (by rw [line]; rfl) (by rw [line]) (by rw [line]; exact Nat.zero_lt_one) (by rw [line]; exact fun no => absurd rfl no)
      (fun j other => by rw [lines, if_neg fun both => other both.1]) (fun g j => ?_) (fun g => ?_) (.inr clear) (removeLine_arb s k) link
    · rw [groups, line]
      by_cases same : j = k
      · subst j
        rw [if_pos rfl]
        refine iff_of_false (fun listed => ?_) (fun no => nomatch no.1)
        split at listed
        · simp at listed
        · rename_i other
          exact other ((h.lists.ordered g k).mp listed).2.symm
      · rw [if_neg same]; split
        · rw [List.mem_filter, bne_iff_ne]; exact and_iff_left same
        · rfl
    · rw [groups]; split
      · exact (h.lists.orderedOnce g).filter _
      · exact h.lists.orderedOnce g
  · rw [removeLine_undefined defined]; exact h

/-- The record a line takes under a new definition (R81, R86). -/
def DrawLine.define (d : LineDef) (l : DrawLine) : DrawLine :=
  if l.defined then { l with defn := d, state := redefinedState l d.source }
  else { l with defined := true, defn := d, state := if l.metered then restState { l with defined := true, defn := d } else .unconfigured }

theorem defineLine_redefines {d : LineDef} {s : State} {k : Fin 16} (defined : s.lines[k].defined = true) :
    defineLine d s k = redefineLine d k s := if_pos defined

theorem defineLine_adds {d : LineDef} {s : State} {k : Fin 16} (undefined : ¬ s.lines[k].defined = true) :
    defineLine d s k = newLine d k s := if_neg undefined

theorem moveGroup_lines (k : Fin 16) (old new : Fin 6) (u : State) : (moveGroup k old new u).lines = u.lines := by
  unfold moveGroup; split <;> rfl

theorem defineLine_lines (d : LineDef) (s : State) (k j : Fin 16) :
    (defineLine d s k).lines[j] = if j = k then s.lines[k].define d else s.lines[j] := by
  have lines : (defineLine d s k).lines = upd s.lines k (DrawLine.define d) := by
    by_cases defined : s.lines[k].defined = true
    · rw [defineLine_redefines defined, redefineLine, moveGroup_lines, modLine_lines]
      refine upd_congr s.lines k ?_
      rw [DrawLine.define, if_pos defined]
    · rw [defineLine_adds defined, newLine, modGroup_lines, modLine_lines]
      refine upd_congr s.lines k ?_
      rw [DrawLine.define, if_neg defined]
  rw [lines, upd_get]

/-- A line joins the bottom of its group's order, unless it stands there, and leaves the order of its old group (R86, R93). -/
theorem defineLine_groups (d : LineDef) (s : State) (k : Fin 16) (g : Fin 6) : (defineLine d s k).groups[g] =
    if s.lines[k].defined = true ∧ s.lines[k].defn.group = d.group then s.groups[g]
    else if g = d.group then { s.groups[g] with rotation := s.groups[g].rotation ++ [k] }
    else if s.lines[k].defined = true ∧ g = s.lines[k].defn.group then { s.groups[g] with rotation := s.groups[g].rotation.filter (· != k) }
    else s.groups[g] := by
  by_cases defined : s.lines[k].defined = true
  · rw [defineLine_redefines defined, redefineLine]
    by_cases same : s.lines[k].defn.group = d.group
    · rw [moveGroup, if_pos same, if_pos ⟨defined, same⟩, modLine_groups]
    · rw [moveGroup, if_neg same, if_neg fun both => same both.2, modGroup_groups, modGroup_groups, modLine_groups, upd_get, upd_get, upd_get]
      by_cases new : g = d.group
      · subst g; rw [if_pos rfl, if_pos rfl, if_neg fun e => same e.symm]
      · rw [if_neg new, if_neg new]
        by_cases old : g = s.lines[k].defn.group
        · rw [if_pos old, if_pos ⟨defined, old⟩]; subst g; rfl
        · rw [if_neg old, if_neg fun both => old both.2]
  · have apart : ¬ (s.lines[k].defined = true ∧ s.lines[k].defn.group = d.group) := fun both => defined both.1
    rw [defineLine_adds defined, newLine, modGroup_groups, modLine_groups, upd_get, if_neg apart]
    by_cases new : g = d.group
    · subst g; rw [if_pos rfl, if_pos rfl]
    · rw [if_neg new, if_neg new, if_neg fun both => defined both.1]

theorem DrawLine.define_free {l : DrawLine} (d : LineDef) (free : l.state.holdsDraw = false) : (l.define d).state.holdsDraw = false := by
  unfold DrawLine.define; split
  · dsimp only [redefinedState]; split
    · rfl
    · split
      · rfl
      · exact free
  · dsimp only; split
    · exact (restState_free _).1
    · rfl

theorem DrawLine.define_eq (d : LineDef) (l : DrawLine) :
    (l.define d).defined = true ∧ (l.define d).defn = d ∧ (l.define d).draw = l.draw := by
  unfold DrawLine.define; split
  · exact ⟨‹_›, rfl, rfl⟩
  · exact ⟨rfl, rfl, rfl⟩

theorem DrawsLaw.defineLine {s : State} (h : DrawsLaw s) {k : Fin 16} (d : LineDef) (flows : 0 < d.flow)
    (free : s.lines[k].state.holdsDraw = false) : DrawsLaw (defineLine d s k) := by
  have line : (Machine.defineLine d s k).lines[k] = s.lines[k].define d := by rw [defineLine_lines, if_pos rfl]
  have moved (old new : Fin 6) (u : State) : (moveGroup k old new u).arb = u.arb ∧ (moveGroup k old new u).link = u.link := by
    unfold moveGroup; split <;> exact ⟨rfl, rfl⟩
  have rest : (Machine.defineLine d s k).arb = s.arb ∧ (Machine.defineLine d s k).link = s.link := by
    unfold Machine.defineLine; split
    · exact moved _ _ _
    · exact ⟨rfl, rfl⟩
  obtain ⟨defined, defn, draw⟩ := s.lines[k].define_eq d
  have listed (g : Fin 6) := h.lists.ordered g k
  refine h.redefine k free (by rw [line]; exact DrawLine.define_free d free) (by rw [line]; exact draw)
    (by rw [line, defn]; exact flows) (fun _ => by rw [line]; exact defined) (fun j other => by rw [defineLine_lines, if_neg other])
    (fun g j => ?_) (fun g => ?_) (.inl (by rw [line]; exact defined)) rest.1 rest.2
  · rw [line, defn, defineLine_groups]
    by_cases same : j = k
    · subst j
      rw [if_pos rfl, and_iff_right defined]
      split
      · rename_i both
        rw [listed, and_iff_right both.1, both.2]
      · rename_i moves
        split
        · rename_i new
          exact iff_of_true (by simp) new.symm
        · rename_i other
          refine iff_of_false (fun mem => ?_) fun e => other e.symm
          split at mem
          · simp at mem
          · rename_i left
            have held := (listed g).mp mem
            exact left ⟨held.1, held.2.symm⟩
    · rw [if_neg same]
      split
      · rfl
      · split
        · simp [same]
        · split
          · rw [List.mem_filter, bne_iff_ne]; exact and_iff_left same
          · rfl
  · rw [defineLine_groups]; split
    · exact h.lists.orderedOnce g
    · rename_i moves
      split
      · rename_i new
        refine List.nodup_append.mpr ⟨h.lists.orderedOnce g, List.nodup_singleton k, fun j hj i hi same => ?_⟩
        rw [List.mem_singleton.mp hi] at same; subst j
        have held := (listed g).mp hj
        exact moves ⟨held.1, held.2.trans new⟩
      · split
        · exact (h.lists.orderedOnce g).filter _
        · exact h.lists.orderedOnce g

end Sys2Proof.Machine
end


section
/-!
The law of the Draw Arbiter is kept by every step (R80, R91, R92, R93, R96, R117).
-/

namespace Sys2Proof.Machine

theorem DrawsLaw.removeAll : ∀ (ks : List (Fin 16)) {s : State}, DrawsLaw s → s.arb.preemptedNow = [] → ks.Nodup →
    (∀ k ∈ ks, s.lines[k].state.holdsDraw = false) → DrawsLaw (ks.foldl Machine.removeLine s)
  | [], _, h, _, _, _ => h
  | k :: ks, s, h, clear, once, free => by
    obtain ⟨fresh, once⟩ := List.nodup_cons.mp once
    refine DrawsLaw.removeAll ks (h.removeLine (free k List.mem_cons_self) clear) (by rw [removeLine_arb]; exact clear) once fun j hj => ?_
    rw [removeLine_lines, if_neg (by rintro ⟨rfl, _⟩; exact fresh hj)]
    exact free j (List.mem_cons_of_mem _ hj)

theorem DrawsLaw.defineAll {d : LineDef} (flows : 0 < d.flow) : ∀ (ks : List (Fin 16)) {s : State}, DrawsLaw s → ks.Nodup →
    (∀ k ∈ ks, s.lines[k].state.holdsDraw = false) → DrawsLaw (ks.foldl (Machine.defineLine d) s)
  | [], _, h, _, _ => h
  | k :: ks, s, h, once, free => by
    obtain ⟨fresh, once⟩ := List.nodup_cons.mp once
    refine DrawsLaw.defineAll flows ks (h.defineLine d flows (free k List.mem_cons_self)) once fun j hj => ?_
    rw [defineLine_lines, if_neg (by rintro rfl; exact fresh hj)]
    exact free j (List.mem_cons_of_mem _ hj)

theorem holdsDraw_of_linesFree {s : State} {ks : List (Fin 16)} (free : linesFree s ks = true) (k : Fin 16) (hk : k ∈ ks) :
    s.lines[k].state.holdsDraw = false := by
  have each := List.all_eq_true.mp free k hk
  revert each; cases s.lines[k].state <;> decide

/-- A rotation order that holds the same lines, each once, in another order (R93, R94, R114). -/
theorem DrawsLaw.reorder {s : State} (h : DrawsLaw s) (g : Fin 6) {order : List (Fin 16) → List (Fin 16)}
    (same : ∀ k, k ∈ order s.groups[g].rotation ↔ k ∈ s.groups[g].rotation) (once : (order s.groups[g].rotation).Nodup) :
    DrawsLaw (refreshPending (s.modGroup g fun r => { r with rotation := order r.rotation })) := by
  have groups (g' : Fin 6) : (refreshPending (s.modGroup g fun r => { r with rotation := order r.rotation })).groups[g'].rotation =
      if g' = g then order s.groups[g].rotation else s.groups[g'].rotation := by
    rw [refreshPending, modArb_groups, modGroup_groups, upd_get]; split <;> rfl
  refine ⟨.of_refreshed rfl h.lists.serving h.lists.servingOnce h.lists.capacity h.lists.record (fun g' k => ?_) (fun g' => ?_) h.lists.usable
    h.lists.raised h.lists.raisedOnce, h.flows.fewer (fun _ => rfl) fun _ => id⟩
  · rw [groups]; split
    · subst g'; rw [same]; exact h.lists.ordered g k
    · exact h.lists.ordered g' k
  · rw [groups]; split
    · exact once
    · exact h.lists.orderedOnce g'

theorem turnTo_perm (k : Fin 16) (order : List (Fin 16)) : (turnTo k order).Perm order := by
  have split := List.perm_append_comm (l₁ := order.drop (order.idxOf k + 1)) (l₂ := order.take (order.idxOf k + 1))
  rw [List.take_append_drop] at split; exact split

theorem DrawsLaw.ageDraw {s : State} (h : DrawsLaw s) {k : Fin 16} (waits : s.lines[k].state = .pending) : DrawsLaw (ageDraw k s) := by
  have aged := h.modDraw k fun d => { d with aged := true }
  have placed : k ∈ s.groups[groupOf s k].rotation := (h.lists.ordered _ k).mpr ⟨h.lists.usable k (by rw [waits]; decide), rfl⟩
  refine drawsHandOver.post _ (aged.reorder (groupOf s k) (order := toTop [k]) (fun j => ?_) ?_)
  · rw [mem_toTop]
    refine or_iff_right_of_imp fun same => ?_
    rw [List.mem_singleton.mp same]; exact placed
  · exact toTop_nodup (List.nodup_singleton k) (h.lists.orderedOnce _)

theorem DrawsLaw.applyMask {s : State} (h : DrawsLaw s) (ks : List (Fin 16)) (setting : Bool) : DrawsLaw (applyMask ks setting s) := by
  have masked : DrawsLaw { s with lines := updAll s.lines fun k l => if ks.contains k then { l with masked := setting } else l } := by
    have line (k : Fin 16) (l : DrawLine) : l.Alike (if ks.contains k then { l with masked := setting } else l) := by
      split
      · exact ⟨rfl, rfl, Iff.rfl, Iff.rfl, rfl, .inl⟩
      · exact .refl l
    refine ⟨h.lists.alike (fun k => ?_) (fun _ => rfl) rfl rfl rfl, h.flows.fewer (fun k => ?_) fun k => ?_⟩
    · rw [updAll_get]; exact line k _
    · rw [updAll_get]; split <;> rfl
    · rw [updAll_get]; split <;> exact id
  exact ite_keeps _ masked.grantPass masked

theorem DrawLine.tick_alike (closed : Bool) (l : DrawLine) : l.Alike (l.tick closed) :=
  ⟨rfl, rfl, Iff.rfl, Iff.rfl, Option.isSome_map, .inl⟩

theorem tick_lines (contacts : BitVec 16) (proofs : BitVec 2) (loc : Bool) (s : State) (k : Fin 16) :
    (tick contacts proofs loc s).lines[k] = s.lines[k].tick (contacts.getLsb k) := by simp only [tick, advance, updAll_get]

theorem DrawsLaw.tick {s : State} (h : DrawsLaw s) (contacts : BitVec 16) (proofs : BitVec 2) (loc : Bool) :
    DrawsLaw (tick contacts proofs loc s) := by
  refine ⟨h.lists.alike (fun k => ?_) (fun _ => rfl) rfl rfl rfl, h.flows.fewer (fun k => ?_) fun k => ?_⟩
  all_goals rw [tick_lines]
  · exact DrawLine.tick_alike _ _
  · rfl
  · exact id

theorem DrawsLaw.contactReleased {s : State} (h : DrawsLaw s) (k : Fin 16) : DrawsLaw (contactReleased k s) := by
  have opened : DrawsLaw (s.modLine k fun l => { l with asserted := false }) :=
    h.modLine k ⟨rfl, rfl, Iff.rfl, Iff.rfl, rfl, .inl⟩ rfl id
  unfold Machine.contactReleased; dsimp only; split
  · split
    · rename_i waits
      simp only [Bool.and_eq_true, beq_iff_eq] at waits
      exact (opened.withdraw waits.1).grantPass
    · split
      · rename_i waits
        rw [beq_iff_eq] at waits
        exact opened.modLine k (.of_free rfl rfl rfl (by rw [waits]; rfl) rfl fun _ => .inl (by rw [waits]; decide)) rfl nofun
      · exact opened
  · exact opened

theorem DrawsLaw.contactAsserted {s : State} (h : DrawsLaw s) (k : Fin 16) : DrawsLaw (contactAsserted k s) := by
  have closed : DrawsLaw (s.modLine k fun l => { l with asserted := true }) :=
    h.modLine k ⟨rfl, rfl, Iff.rfl, Iff.rfl, rfl, .inl⟩ rfl id
  unfold Machine.contactAsserted; dsimp only; split
  · rename_i idle
    simp only [Bool.and_eq_true, beq_iff_eq] at idle
    exact closed.register _ _ idle.2
  · exact closed

/-! ### The store and power-on (R79, R180, R181) -/

theorem imageOf_linesOk {s : State} (h : FlowsFit s) : (imageOf s).linesOk := by
  intro k d hd
  rw [imageOf, updAll_get] at hd
  split at hd
  · cases hd; exact h.positive k
  · cases hd

theorem defaults_linesOk : Image.defaults.linesOk := by
  intro k d hd
  simp [Image.defaults] at hd

theorem stateFrom_drawsLaw {image : Image} (ok : image.linesOk) (defaulted : Bool) (a b : BitVec 24) (loc : Bool) {s : State}
    (stored : ∀ saved, s.link.stored = some saved → saved.linesOk) : DrawsLaw (stateFrom image defaulted a b loc s) := by
  have line (k : Fin 16) : (stateFrom image defaulted a b loc s).lines[k] = .fresh image.lines[k] (meteredIn image k) := by
    rw [stateFrom, updAll_get]
  have order (g : Fin 6) : (stateFrom image defaulted a b loc s).groups[g].rotation = rotationIn image g := by rw [stateFrom, updAll_get]
  have state (k : Fin 16) : (stateFrom image defaulted a b loc s).lines[k].state.holdsDraw = false := by
    rw [line, DrawLine.fresh]; dsimp only; split <;> rfl
  have still {st : LineState} (held : st.holdsDraw = true) (k : Fin 16) : (stateFrom image defaulted a b loc s).lines[k].state ≠ st :=
    fun e => Bool.noConfusion ((e ▸ state k).symm.trans held)
  refine ⟨⟨fun k => ?_, fun k => ?_, List.nodup_nil, List.nodup_nil, Nat.zero_le _, fun k => ?_, fun g k => ?_, fun g => ?_, fun k hk => ?_,
    nofun, List.nodup_nil⟩, ⟨?_, fun _ => rfl, fun k => ?_, stored, nofun⟩⟩
  · exact iff_of_false (List.not_mem_nil) (still rfl k)
  · exact iff_of_false (List.not_mem_nil) fun serves => serves.elim (still rfl k) (still rfl k)
  · rw [state, line]; exact iff_of_false nofun nofun
  · rw [order, line, rotationIn, allLines, List.mem_filter, DrawLine.fresh]
    cases image.lines[k] <;> simp
  · rw [order]; exact (List.nodup_finRange 16).filter _
  · rw [line, DrawLine.fresh] at hk ⊢
    cases saved : image.lines[k] with
    | none => rw [saved] at hk; exact absurd rfl hk
    | some d => rfl
  · exact (flowingFlow_zero fun k => still rfl k).le
  · rw [line, DrawLine.fresh]
    cases saved : image.lines[k] with
    | none => exact Nat.zero_lt_one
    | some d => exact ok k d saved

theorem DrawsLaw.powerOn {s : State} (h : DrawsLaw s) (good : Bool) (a b : BitVec 24) (loc : Bool) : DrawsLaw (powerOn good a b loc s) := by
  obtain ⟨image, stored, _, e⟩ | e := powerOn_cases good a b loc s <;> rw [e]
  · exact stateFrom_drawsLaw (h.flows.stored image stored) _ _ _ _ h.flows.stored
  · exact stateFrom_drawsLaw defaults_linesOk _ _ _ _ h.flows.stored

theorem DrawsLaw.modStore {s : State} (h : DrawsLaw s) (f : Link → Link) (stored : ∀ image, (f s.link).stored = some image → image.linesOk)
    (writing : ∀ image, (f s.link).writing = some image → image.linesOk) : DrawsLaw (s.modLink f) :=
  ⟨h.lists.same rfl rfl rfl rfl rfl, ⟨h.flows.fit, h.flows.down, h.flows.positive, stored, writing⟩⟩

theorem DrawsLaw.writeCompletes {s : State} (h : DrawsLaw s) (good : Bool) : DrawsLaw (writeCompletes good s) := by
  obtain ⟨_, e⟩ | ⟨image, writing, e⟩ := writeCompletes_cases good s <;> rw [e]
  · exact h
  · refine ite_keeps _ (drawsHandOver.post _ (h.modStore _ ?_ nofun)) (drawsHandOver.post _ (h.modStore _ h.flows.stored nofun))
    intro saved hs
    cases hs; exact h.flows.writing image writing

/-! ### Every act -/

theorem drawsCascade : CascadeLaw DrawsLaw DrawsLaw := drawsHandOver.cascade fun _ forward flows h => h.lineLitre forward flows

theorem DrawsLaw.act {s u : State} (act : Act s u) (h : DrawsLaw s) (clear : s.arb.preemptedNow = []) : DrawsLaw u := by
  have c := drawsHandOver
  have link (f : Link → Link) (stored : (f s.link).stored = s.link.stored) (writing : (f s.link).writing = s.link.writing) :
      DrawsLaw (s.modLink f) := h.same rfl rfl rfl rfl rfl rfl rfl stored writing
  have serves {k : Fin 16} (state : s.lines[k].state = .flowing ∨ s.lines[k].state = .suspended) : k ∈ s.arb.inService :=
    (h.lists.serving k).mpr state
  have set (x : Fin 2) (f : PressureSet → PressureSet) : DrawsLaw (s.modSet x f) := h.same
  cases act with
  | unchanged => exact h
  | tankRemoved t free => exact drawsCascade.removeTankDef t free h
  | tankDefined t d free => exact drawsCascade.applyTankDef t d free h
  | strappingLoaded t points => exact drawsCascade.loadStrapping t points h
  | inputDefined i d => exact drawsCascade.applyInputDef i d h
  | tankSeeded t amount origin => exact drawsCascade.seedWith t amount origin h
  | tankServed t wanted => exact drawsCascade.changeTankState t .service rfl h
  | edgeTaken m a b => exact drawsCascade.takeEdge m a b h
  | gateEnded i f => exact drawsCascade.gateEnd i f h
  | noticesFetched | snapshotSet | triggerSet | authorityChanged => exact link _ rfl rfl
  | saveStarted =>
    refine h.modStore _ h.flows.stored fun image saved => ?_
    cases saved; exact imageOf_linesOk h.flows
  | meterRemoved m idle => exact h.applyMeterDef m none idle rfl
  | meterDefined m d _ idle ready => exact h.applyMeterDef m (some d) idle ready
  | linesRemoved ks once free => exact DrawsLaw.removeAll ks h clear once (holdsDraw_of_linesFree free)
  | linesDefined ks d once flows free => exact DrawsLaw.defineAll flows ks h once (holdsDraw_of_linesFree free)
  | groupDefined g admitted patience =>
    have written : DrawsLaw (s.modGroup g fun r => { r with defn := ⟨admitted, patience⟩ }) := by
      refine ⟨h.lists.alike (fun k => .refl _) (fun g' => ?_) rfl rfl rfl, h.flows.fewer (fun _ => rfl) fun _ => id⟩
      rw [modGroup_groups, upd_get]; split
      · subst g'; rfl
      · rfl
    exact ite_keeps _ written written.grantPass
  | supplyBandsSet => exact c.workOutLevel _ (c.of_same h)
  | productionBandsSet => exact ite_keeps _ (c.of_same h) (c.stopCheck (c.startCheck (c.of_same h)))
  | balanceSet => exact c.of_same h
  | trainDefined n d => exact c.startCheck (c.of_same h)
  | setsDefined body => exact c.allowanceChanged _ _ (c.settleSets _ h.same)
  | pumpDefined => exact c.of_same h
  | drawn k litres idle => exact h.register _ _ idle
  | pendingCancelled k waits => exact h.cancelPending waits
  | drawEnded k cause state => exact h.endDraw cause (serves state)
  | openDrawEnded k listed => exact h.endDraw _ listed
  | linesMasked ks setting => exact h.applyMask ks setting
  | rotationSet k defined =>
    exact h.reorder (groupOf s k) (fun _ => (turnTo_perm k _).mem_iff) ((turnTo_perm k _).nodup_iff.mpr (h.lists.orderedOnce _))
  | modeSet mode => exact ite_keeps _ h (h.same : DrawsLaw (s.modArb fun a => { a with mode := mode })).grantPass
  | dispatched k listed fitting => exact h.grant ((h.lists.waiting k).mp listed) fitting
  | lineReset k faulted =>
    have rest := restState_free s.lines[k]
    refine h.modLine k (.of_free rfl rfl rfl (by rw [faulted]; rfl) rest.1 fun _ => .inl (by rw [faulted]; decide)) rfl fun flows => ?_
    rw [show restState s.lines[k] = .flowing from flows] at rest; cases rest.1
  | trainModeSet n mode =>
    have halted : DrawsLaw (if mode = .disabled && s.trains[n].state.running then
        haltTrain n .modeDisabled (s.modTrain n fun w => { w with mode := mode }) else s.modTrain n fun w => { w with mode := mode }) :=
      ite_keeps _ (c.haltTrain n _ (c.of_same h)) (c.of_same h)
    exact ite_keeps _ halted (c.stopCheck (c.startCheck halted))
  | trainStarted n => exact c.of_same h
  | trainStopped n cause => exact c.haltTrain n cause h
  | trainFlushed n => exact c.enterFlushWait n _ (c.of_same h)
  | faultFlushed n => exact c.askFlush n (c.of_same h)
  | trainReset n => exact c.restTrain n (c.of_same h)
  | watersChanged w =>
    have written : DrawsLaw { s with waters := w } := c.of_same h
    cases w with
    | restricted => exact foldl_keeps (fun u n hu => ite_keeps _ (c.haltTrain n _ hu) hu) _ _ written
    | opened => exact c.startCheck written
  | floorSet => exact c.workOutLevel _ (c.of_same h)
  | allowanceSet allowance => exact c.allowanceChanged _ _ (c.of_same h)
  | transferStarted src dst litres => exact c.beginTransfer _ src dst litres h
  | transferEnded cause => exact c.endTransfer cause h
  | shoreStarted t => exact c.activateRole _ (c.of_same h)
  | shoreEnded => exact c.endShore _ h
  | setServedIn x => exact ite_keeps _ (c.settleSets _ (set x _)) h
  | setServedOut x => exact ite_keeps _ h (c.settleSets _ (set x _))
  | setReset x => exact c.settleSets _ (set x _)
  | poweredOn good a b loc => exact h.powerOn good a b loc
  | ticked contacts proofs loc => exact h.tick contacts proofs loc
  | writeCompleted good => exact h.writeCompletes good
  | contactAsserts k => exact h.contactAsserted k
  | contactReleases k => exact h.contactReleased k
  | drawAges k waits => exact h.ageDraw waits
  | holdExpired =>
    have ended : DrawsLaw (if s.arb.supplyHeld == .down then Machine.endSuspended s else s) := ite_keeps _ h.endSuspended h
    exact ended.same
  | setProved x => exact ite_keeps _ (c.workOutSupply (set x _)) (c.workOutSupply (c.post _ (c.of_same h)))
  | setStartFailed x => exact c.settleSets _ (c.post _ (set x _))
  | setProofLost x => exact c.settleSets _ (c.post _ (set x _))
  | alternated => exact ite_keeps _ (c.of_same h) (c.of_same h)
  | trainPrimed n => exact c.startCheck (c.of_same h)
  | trainRamped n => exact c.startCheck (c.of_same h)
  | stopsChecked => exact c.stopCheck h
  | flushAsked n => exact c.askFlush n h
  | flushWaitOver n => exact c.faultTrain n _ h
  | trainRested n => exact c.startCheck (c.of_same h)
  | balanceIsReviewed =>
    have reset : DrawsLaw (s.modEval fun e => { e with reviewTimer := 0 }) := c.of_same h
    exact c.balanceReview (ite_keeps _ (c.applyDuty _ _ reset) reset)

/-- Settles O47: every act keeps the law as it stands within an event, and the end of the step clears the lines preempted at it. -/
theorem arbiterLawIsKept : Obligations.ArbiterLawIsKept := by
  intro s t h hstep
  rw [arbiterLaw_iff] at h ⊢
  refine step_keeps_of_leads (P := fun s => DrawsLaw s ∧ s.arb.preemptedNow = []) (Q := DrawsLaw) (fun _ h => h.1)
    (fun _ _ h => ⟨h.1.same, h.2⟩) (fun _ h => ⟨⟨?_, ?_⟩, rfl⟩) (fun ln f s h => ?_) (fun ln f s h => ?_) (fun d s h => ⟨h.1.same, h.2⟩)
    (fun _ _ act h => h.1.act act h.2) h hstep
  · exact ⟨h.lists.waiting, h.lists.serving, h.lists.waitingOnce, h.lists.servingOnce, h.lists.capacity, h.lists.record, h.lists.ordered,
      h.lists.orderedOnce, h.lists.usable, nofun, List.nodup_nil⟩
  · exact ⟨h.flows.fit, h.flows.down, h.flows.positive, h.flows.stored, h.flows.writing⟩
  · cases ln <;> exact ⟨h.1.same, h.2⟩
  · cases ln <;> exact h.same

end Sys2Proof.Machine
end


section
/-!
The one-second tick: what each record becomes and which events fall due (R12, R32, R70, R82, R87, R104, R108, R114, R118, R125, R127,
R128, R138, R140, R141, R144, R146, R149, R165, R174).
-/

namespace Sys2Proof.Machine

/-! ### Records under a tick -/

theorem satAdd_one (limit x : Nat) : satAdd limit x 1 = min limit (x + 1) := rfl

theorem Tank.tick_eq (k : Tank) :
    k.tick = if k.state = .unconfigured then k else { k with quietTimer := min 65535 (k.quietTimer + 1) } := by
  cases k with | mk => cases ‹TankState› <;> rfl

theorem Draw.tick_eq (l : DrawLine) (d : Draw) : d.tick l =
    if l.state = .pending then { d with wait := min 65535 (d.wait + 1) }
    else if l.state = .flowing then
      { d with duration := holdAt l.defn.maxDuration d.duration, stall := holdAt l.defn.stallTime d.stall }
    else d := by
  unfold Draw.tick; cases l.state <;> rfl

theorem PressureSet.tick_eq (closed waits : Bool) (p : PressureSet) : p.tick closed waits =
    { p with
      proofClosed := closed
      startTimer := if p.state = .starting ∧ closed = false then p.startTimer.tick else p.startTimer
      lossTimer := if p.state = .running then (if closed = true then 0 else if waits = true then p.lossTimer else p.lossTimer + 1)
        else p.lossTimer } := by
  unfold PressureSet.tick; cases p.state <;> cases closed <;> rfl

theorem lossWaits_iff {s : State} {x : Fin 2} :
    lossWaits s x = true ↔ .setProofLost x ∈ s.due ∧ s.sets.settings.changeover ≤ s.sets.sets[x].lossTimer := by
  simp only [lossWaits, Bool.and_eq_true, decide_eq_true_eq, List.contains_iff_mem]

theorem Train.tick_eq (w : Train) : w.tick =
    { w with
      runningSeconds := if w.state.running = true then w.runningSeconds + 1 else w.runningSeconds
      runTimer := if w.state.running = true then min 65535 (w.runTimer + 1) else w.runTimer
      stage := if w.state.running = true then w.stage.map Timer.tick else w.stage
      stall := if w.state = .producing then w.stall.tick else w.stall
      flushWait := if w.state = .flushWait then w.flushWait.tick else w.flushWait
      rest := w.rest.map Timer.tick } := by
  simp only [Train.tick, beq_iff_eq, satAdd_one]

/-- Settles O5, record by record. -/
theorem secondTickAdvancesEveryTimer : Obligations.SecondTickAdvancesEveryTimer := by
  intro contacts proofs loc s
  refine ⟨finish (tick contacts proofs loc s), rfl, rfl, fun i => ?_, fun m => ?_, fun k => ?_, fun x => ?_, fun n => ?_, rfl, rfl, rfl, rfl,
    rfl, rfl, rfl, rfl, rfl, rfl, rfl, rfl, rfl, rfl⟩
  · simp only [finish, tick, advance, updAll_get, Tank.tick_eq]
  · simp only [finish, tick, advance, updAll_get, Meter.tick]
  · simp only [finish, tick, advance, updAll_get, DrawLine.tick]
    congr 2; funext d; exact Draw.tick_eq _ d
  · simp only [finish, tick, advance, updAll_get, PressureSet.tick_eq, lossWaits_iff]
  · simp only [finish, tick, advance, updAll_get, Train.tick_eq]

/-! ### The events of a tick -/

theorem mem_dueIf {b : Bool} {d e : Due} : e ∈ dueIf b d ↔ b = true ∧ e = d := by
  unfold dueIf; split <;> simp_all

theorem mem_lineDue {patience : Nat} {k : Fin 16} {l l' : DrawLine} {e : Due} : e ∈ lineDue patience k l l' ↔
    (e = .contactAssertion k ∧ l'.contactClosed = true ∧ l.contactClosed = true ∧ l.asserted = false) ∨
    (e = .contactRelease k ∧ l'.contactClosed = false ∧ l.contactClosed = false ∧ l.asserted = true) ∨
    (e = .drawTimedOut k ∧ l'.state = .flowing ∧ ∃ d, l'.draw = some d ∧ l'.defn.maxDuration ≤ d.duration) ∨
    (e = .drawStalled k ∧ l'.state = .flowing ∧
      ∃ d, l'.draw = some d ∧ d.duration < l'.defn.maxDuration ∧ l'.defn.stallTime ≤ d.stall) ∨
    (e = .drawAges k ∧ l'.state = .pending ∧ ∃ d, l'.draw = some d ∧ d.aged = false ∧ patience ≤ d.wait) := by
  simp only [lineDue, List.mem_append, mem_dueIf, Bool.and_eq_true, Bool.not_eq_true', and_assoc, or_assoc]
  refine or_congr (by tauto) (or_congr (by tauto) ?_)
  split
  · rename_i d state draw
    simp only [state, draw, Option.some.injEq, exists_eq_left', true_and, reduceCtorEq, false_and, and_false, or_false]
    split
    · rename_i out
      simp [out]
    · rename_i early
      simp only [mem_dueIf, decide_eq_true_eq]
      have := Nat.lt_of_not_le early
      simp [early, this, and_comm]
  · rename_i d state draw
    simp only [state, draw, mem_dueIf, Option.some.injEq, exists_eq_left', true_and, reduceCtorEq, false_and, and_false, false_or,
      Bool.and_eq_true, Bool.not_eq_true', decide_eq_true_eq]
    tauto
  · rename_i flows waits
    simp only [List.not_mem_nil, false_iff, not_or]
    refine ⟨?_, ?_, ?_⟩
    · rintro ⟨_, state, d, draw, _⟩; exact flows d state draw
    · rintro ⟨_, state, d, draw, _⟩; exact flows d state draw
    · rintro ⟨_, state, d, draw, _⟩; exact waits d state draw

theorem mem_setDue {changeover : Nat} {x : Fin 2} {p : PressureSet} {e : Due} : e ∈ setDue changeover x p ↔
    (e = .setProved x ∧ p.state = .starting ∧ p.proofClosed = true) ∨
    (e = .setStartProofFailed x ∧ p.state = .starting ∧ p.proofClosed = false ∧ p.startTimer.expired = true) ∨
    (e = .setProofLost x ∧ p.state = .running ∧ p.proofClosed = false ∧ changeover ≤ p.lossTimer) := by
  unfold setDue
  cases p.state <;> cases p.proofClosed <;> simp [mem_dueIf, and_comm]

theorem mem_trainDue {carried : Bool} {n : Fin 3} {w : Train} {e : Due} : e ∈ trainDue carried n w ↔
    (e = .prime n ∧ w.state = .priming ∧ w.stage.any Timer.expired = true) ∨
    (e = .ramp n ∧ w.state = .ramping ∧ w.stage.any Timer.expired = true) ∨
    (e = .divertMax n ∧ w.state = .diverting ∧ w.stage.any Timer.expired = true) ∨
    (e = .productStall n ∧ w.state = .producing ∧ w.stall.expired = true) ∨
    (e = .minRun n ∧ w.state = .producing ∧ w.mode = .auto ∧ (w.runTimer = w.defn.minRun ∨ carried = true)) ∨
    (e = .flushRequest n ∧ w.state = .flushWait ∧ w.flushPlaced = false) ∨
    (e = .flushWait n ∧ w.state = .flushWait ∧ w.flushWait.expired = true) ∨
    (e = .rest n ∧ w.rest.any Timer.expired = true) := by
  unfold trainDue
  rw [List.mem_append, mem_dueIf]
  cases w.state <;> simp only [mem_dueIf, List.mem_append, List.not_mem_nil, reduceCtorEq, false_and, false_or, true_and,
    Bool.and_eq_true, Bool.or_eq_true, Bool.not_eq_true', beq_iff_eq, and_comm, or_assoc]

theorem mem_dueOf {s s' : State} {e : Due} : e ∈ dueOf s s' ↔
    (∃ k : Fin 16, e ∈ lineDue s'.groups[groupOf s' k].defn.patience k s.lines[k] s'.lines[k]) ∨
    (e = .authorityChange ∧ s'.link.localSample = s.link.localSample ∧ s'.link.localSample ≠ s.link.localAsserted) ∨
    (e = .holdExpiry ∧ s'.arb.hold.any Timer.expired = true) ∨
    (∃ x : Fin 2, e ∈ setDue s'.sets.settings.changeover x s'.sets.sets[x]) ∨
    (e = .alternation ∧ s'.sets.alternationTimer.any alternationExpired = true) ∨
    (∃ n : Fin 3, e ∈ trainDue (s.due.contains (.minRun n)) n s'.trains[n]) ∨
    (e = .review ∧ s'.eval.settings.reviewPeriod ≤ s'.eval.reviewTimer) ∨
    (e = .transferStall ∧ s'.transfer.run.isSome = true ∧ s'.transfer.stall.expired = true) := by
  simp only [dueOf, List.mem_append, mem_dueIf, List.mem_flatMap, allLines, allSets, allTrains, List.mem_finRange, true_and, Bool.and_eq_true,
    beq_iff_eq, bne_iff_ne, decide_eq_true_eq, or_assoc, and_comm]

theorem Timer.tick_expired (t : Timer) : t.tick.expired = true ↔ t.length ≤ t.count + 1 := by
  rw [Timer.expired, decide_eq_true_eq, Timer.tick]; dsimp only; split <;> omega

theorem any_tick_expired (o : Option Timer) :
    (o.map Timer.tick).any Timer.expired = true ↔ ∃ g, o = some g ∧ g.length ≤ g.count + 1 := by
  cases o with
  | none => simp
  | some t => simp only [Option.map_some, Option.any_some, Timer.tick_expired, Option.some.injEq, exists_eq_left']

theorem le_holdAt {limit x : Nat} : limit ≤ holdAt limit x ↔ limit ≤ x + 1 := by unfold holdAt; split <;> omega

theorem any_alternation_expired (o : Option Timer) :
    (o.map alternationTick).any alternationExpired = true ↔ ∃ g, o = some g ∧ g.length * 3600 ≤ g.count + 1 := by
  cases o with
  | none => simp
  | some t =>
    simp only [Option.map_some, Option.any_some, alternationTick, alternationExpired, decide_eq_true_eq, le_holdAt, Option.some.injEq,
      exists_eq_left']

section
variable (contacts : BitVec 16) (proofs : BitVec 2) (loc : Bool) (s : State)

theorem advance_lines (k : Fin 16) : (advance contacts proofs loc s).lines[k] = s.lines[k].tick (contacts.getLsb k) := by
  simp only [advance, updAll_get]

theorem advance_sets (x : Fin 2) :
    (advance contacts proofs loc s).sets.sets[x] = s.sets.sets[x].tick (proofs.getLsb x) (lossWaits s x) := by
  simp only [advance, updAll_get]

theorem advance_trains (n : Fin 3) : (advance contacts proofs loc s).trains[n] = s.trains[n].tick := by
  simp only [advance, updAll_get]

/-- The events of a tick, each in the terms of the state it leaves (R87, R108, R114, R174). -/
theorem mem_tick_due {e : Due} : e ∈ (finish (tick contacts proofs loc s)).due ↔ e ∈ dueOf s (advance contacts proofs loc s) := Iff.rfl

end

/-- A record of a line's draw after a tick. -/
theorem DrawLine.tick_draw_iff {closed : Bool} {l : DrawLine} {p : Draw → Prop} :
    (∃ d, (l.tick closed).draw = some d ∧ p d) ↔ ∃ d, l.draw = some d ∧ p (d.tick l) := by
  rw [DrawLine.tick]
  cases l.draw <;> simp

/-- A running stage's timer after a tick (R138). -/
theorem Train.tick_stage_iff {w : Train} {st : TrainState} (runs : st.running = true) :
    (w.tick.state = st ∧ w.tick.stage.any Timer.expired = true) ↔
      w.state = st ∧ ∃ g, w.stage = some g ∧ g.length ≤ g.count + 1 := by
  refine and_congr_right fun state => ?_
  have runs' : w.state.running = true := by rw [show w.state = st from state]; exact runs
  rw [show w.tick.stage = if w.state.running then w.stage.map Timer.tick else w.stage from rfl, if_pos runs', any_tick_expired]

theorem Draw.tick_flowing {l : DrawLine} (flows : l.state = .flowing) (d : Draw) :
    d.tick l = { d with duration := holdAt l.defn.maxDuration d.duration, stall := holdAt l.defn.stallTime d.stall } := by
  rw [Draw.tick_eq, flows]; rfl

theorem Draw.tick_pending {l : DrawLine} (waits : l.state = .pending) (d : Draw) :
    d.tick l = { d with wait := min 65535 (d.wait + 1) } := by
  rw [Draw.tick_eq, waits]; rfl

theorem holdAt_lt {limit x : Nat} : holdAt limit x < limit ↔ x + 1 < limit := by unfold holdAt; split <;> omega

theorem lossTimer_tick {changeover : Nat} {s : State} {x : Fin 2} (settings : s.sets.settings.changeover = changeover)
    (runs : s.sets.sets[x].state = .running) {closed : Bool} (opened : closed = false) :
    changeover ≤ (s.sets.sets[x].tick closed (lossWaits s x)).lossTimer ↔ changeover ≤ s.sets.sets[x].lossTimer + 1 := by
  rw [PressureSet.tick_eq, opened]
  dsimp only
  rw [if_pos runs, if_neg (by decide)]
  split
  · have reached := (lossWaits_iff.mp ‹_›).2
    rw [settings] at reached
    omega
  · rfl

/-- Settles O6, kind by kind, from what each record's events are. -/
theorem secondTickBringsAboutEvents : Obligations.SecondTickBringsAboutEvents := by
  intro contacts proofs loc s
  refine ⟨finish (tick contacts proofs loc s), rfl, ?_⟩
  simp only [mem_tick_due, mem_dueOf, mem_lineDue, mem_setDue, mem_trainDue, reduceCtorEq, false_and, or_false, false_or, exists_false,
    Due.contactAssertion.injEq, Due.contactRelease.injEq, Due.drawTimedOut.injEq, Due.drawStalled.injEq, Due.drawAges.injEq,
    Due.setProved.injEq, Due.setStartProofFailed.injEq, Due.setProofLost.injEq, Due.prime.injEq, Due.ramp.injEq, Due.divertMax.injEq,
    Due.productStall.injEq, Due.minRun.injEq, Due.flushRequest.injEq, Due.flushWait.injEq, Due.rest.injEq, exists_eq_left', true_and,
    advance_lines, advance_sets, advance_trains, DrawLine.tick_draw_iff]
  refine ⟨fun k => Iff.rfl, fun k => Iff.rfl, Iff.rfl, fun k => ?timedOut, fun k => ?stalled, fun k => ?ages, any_tick_expired _, fun x => ?proved,
    fun x => ?startFailed, fun x => ?lost, any_alternation_expired _, fun n => Train.tick_stage_iff rfl, fun n => Train.tick_stage_iff rfl,
    fun n => Train.tick_stage_iff rfl, fun n => ?productStall, fun n => ?minRun, fun n => Iff.rfl, fun n => ?flushWait,
    fun n => any_tick_expired _, le_holdAt, ?transfer⟩
  case timedOut =>
    refine and_congr_right fun flows => exists_congr fun d => and_congr_right fun _ => ?_
    rw [Draw.tick_flowing (l := s.lines[k]) flows]; exact le_holdAt
  case stalled =>
    refine and_congr_right fun flows => exists_congr fun d => and_congr_right fun _ => ?_
    rw [Draw.tick_flowing (l := s.lines[k]) flows]; exact and_congr holdAt_lt le_holdAt
  case ages =>
    refine and_congr_right fun waits => exists_congr fun d => and_congr_right fun _ => ?_
    have group : groupOf (advance contacts proofs loc s) k = s.lines[k].defn.group := by rw [groupOf, advance_lines]; rfl
    have patience := congrArg (fun g : Fin 6 => s.groups[g].defn.patience) group
    rw [Draw.tick_pending (l := s.lines[k]) waits]
    exact and_congr_right fun _ => by rw [← patience]; rfl
  case proved => rw [PressureSet.tick_eq]
  case startFailed =>
    rw [PressureSet.tick_eq]
    refine and_congr_right fun starts => and_congr_right fun opened => ?_
    rw [if_pos ⟨starts, opened⟩, Timer.tick_expired]
  case lost =>
    have state : (s.sets.sets[x].tick (proofs.getLsb x) (lossWaits s x)).state = s.sets.sets[x].state := by rw [PressureSet.tick_eq]
    have closed : (s.sets.sets[x].tick (proofs.getLsb x) (lossWaits s x)).proofClosed = proofs.getLsb x := by rw [PressureSet.tick_eq]
    rw [state, closed]
    exact and_congr_right fun runs => and_congr_right fun opened => lossTimer_tick rfl runs opened
  case productStall =>
    rw [Train.tick_eq]
    refine and_congr_right fun produces => ?_
    rw [if_pos produces, Timer.tick_expired]
  case minRun =>
    rw [List.contains_iff_mem]
    refine and_congr_right fun produces => and_congr_right fun _ => or_congr_left ?_
    have runs : s.trains[n].state.running = true := by rw [show s.trains[n].state = _ from produces]; rfl
    rw [Train.tick_eq]; dsimp only
    rw [if_pos runs]
  case flushWait =>
    rw [Train.tick_eq]
    refine and_congr_right fun waits => ?_
    rw [if_pos waits, Timer.tick_expired]
  case transfer =>
    refine and_congr_right fun runs => ?_
    have stall : (advance contacts proofs loc s).transfer.stall = s.transfer.stall.tick := if_pos runs
    rw [stall, Timer.tick_expired]

end Sys2Proof.Machine
end


section
/-!
Power-on: what each block takes from an image (R4, R26, R43, R60, R81, R91, R123, R137, R162, R168, R174, R181), and that the state after
reset is one and meets every law.
-/

namespace Sys2Proof.Machine

/-- The state after reset is a power-on with no stored image (R181). -/
theorem reset_eq : State.reset = finish (stateFrom .defaults true 0 0 false State.reset) := by decide

section
variable (image : Image) (defaulted : Bool) (a b : BitVec 24) (loc : Bool) (s : State)

theorem stateFrom_meters (m : Fin 24) :
    (stateFrom image defaulted a b loc s).meters[m] = .fresh image.meters[m] (a.getLsb m) (b.getLsb m) := by
  simp only [stateFrom, updAll_get]

theorem stateFrom_inputs (i : Fin 16) : (stateFrom image defaulted a b loc s).inputs[i] = .fresh image.inputs[i] := by
  simp only [stateFrom, updAll_get]

theorem stateFrom_lines (k : Fin 16) :
    (stateFrom image defaulted a b loc s).lines[k] = .fresh image.lines[k] (meteredIn image k) := by
  simp only [stateFrom, updAll_get]

theorem stateFrom_groups (g : Fin 6) : (stateFrom image defaulted a b loc s).groups[g] = ⟨image.groups[g], rotationIn image g⟩ := by
  simp only [stateFrom, updAll_get]

end

theorem meteredIn_iff {image : Image} {k : Fin 16} :
    meteredIn image k = true ↔ ∃ (m : Fin 24) (d : MeterDef), image.meters[m] = some d ∧ d.role = .line k := by
  simp only [meteredIn, allMeters, List.any_eq_true, List.mem_finRange, true_and, beq_iff_eq, Option.map_eq_some_iff]

theorem mem_rotationIn {image : Image} {g : Fin 6} {k : Fin 16} :
    k ∈ rotationIn image g ↔ ∃ d, image.lines[k] = some d ∧ d.group = g := by
  simp only [rotationIn, allLines, List.mem_filter, List.mem_finRange, true_and, beq_iff_eq, Option.map_eq_some_iff]

theorem rotationIn_sorted (image : Image) (g : Fin 6) : (rotationIn image g).Pairwise (· < ·) :=
  (List.pairwise_lt_finRange 16).filter _

/-- A power-on is from the stored image when its check holds, and from the defaults otherwise (R181). -/
theorem powerOn_of_image {s : State} {good : Bool} {image : Image} {notices : List Notice}
    (source : (good = true ∧ s.link.stored = some image ∧ notices = []) ∨
      ((good = false ∨ s.link.stored = none) ∧ image = .defaults ∧ notices = [⟨0, .configDefaulted⟩])) (a b : BitVec 24) (loc : Bool) :
    ∃ defaulted, powerOn good a b loc s = stateFrom image defaulted a b loc s ∧ powerOnNotices defaulted = notices := by
  obtain ⟨rfl, stored, rfl⟩ | ⟨missing, rfl, rfl⟩ := source
  · refine ⟨false, ?_, rfl⟩
    unfold powerOn; rw [stored]
  · refine ⟨true, ?_, rfl⟩
    unfold powerOn; split
    · rename_i held
      rw [held] at missing; simp at missing
    · rfl

/-- Settles O3, block by block. -/
theorem powerOnTakesTheImage : Obligations.PowerOnTakesTheImage := by
  refine ⟨fun s good a b loc image notices source => ?_, fun good => ?_, rfl, rfl, rfl, rfl, rfl⟩
  · obtain ⟨defaulted, on, rfl⟩ := powerOn_of_image source a b loc
    have next : exec (.powerOn good a b loc) s = .next (finish (stateFrom image defaulted a b loc s)) := by rw [← on]; rfl
    refine ⟨_, next, rfl, rfl, fun i none => ?_, fun i k saved => ?_, stateFrom_meters image defaulted a b loc s, stateFrom_inputs image defaulted a b loc s, rfl,
      fun k => ?_, fun g => ?_, rfl, rfl, stateFrom_trains image defaulted a b loc s, rfl, rfl, rfl, rfl, rfl, rfl, rfl, rfl⟩
    · exact (stateFrom_tanks image defaulted a b loc s i).trans (by rw [none]; rfl)
    · exact (stateFrom_tanks image defaulted a b loc s i).trans (by rw [saved]; rfl)
    · have line : (finish (stateFrom image defaulted a b loc s)).lines[k] = .fresh image.lines[k] (meteredIn image k) :=
        stateFrom_lines image defaulted a b loc s k
      rw [line, ← meteredIn_iff]
      refine ⟨?_, fun d saved => by rw [saved]; rfl, Iff.rfl, rfl, rfl, rfl, rfl, rfl⟩
      exact Option.isSome_iff_exists
    · have group : (finish (stateFrom image defaulted a b loc s)).groups[g] = ⟨image.groups[g], rotationIn image g⟩ :=
        stateFrom_groups image defaulted a b loc s g
      rw [group]
      exact ⟨rfl, fun k => mem_rotationIn, rotationIn_sorted image g⟩
  · have on : powerOn good 0 0 false State.reset = stateFrom .defaults true 0 0 false State.reset := by cases good <;> rfl
    have next : exec (.powerOn good 0 0 false) State.reset = .next (finish (powerOn good 0 0 false State.reset)) := rfl
    rw [next, on, ← reset_eq]

/-- A tank that an image gives is not seeded (R4). -/
theorem tankFrom_seeded (saved : Option SavedTank) : (tankFrom saved).seeded = false := by cases saved <;> rfl

/-- Settles O4: reset is a power-on from the defaults, and a power-on meets each law. -/
theorem lawsHoldAtReset : Obligations.LawsHoldAtReset := by
  have none : ∀ image : Image, State.reset.link.stored ≠ some image := nofun
  have draws := stateFrom_drawsLaw defaults_linesOk true 0 0 false (s := State.reset) fun image h => absurd h (none image)
  unfold Obligations.LawsHoldAtReset
  rw [reset_eq]
  refine ⟨fun t seeded => ?_, stateFrom_residueLaw defaults_metersOk true 0 0 false _ fun image h => absurd h (none image), Nat.one_le_ofNat,
    stateFrom_setsLaw _ _ _ _ _ _, stateFrom_startLaw _ _ _ _ _ _, stateFrom_powerLaw _ _ _ _ _ _, arbiterLaw_iff.mpr ⟨draws.same, rfl⟩,
    fillTrainLaw.fresh _ _ _ _ _ _⟩
  have tank : (finish (stateFrom .defaults true 0 0 false State.reset)).tanks[t] = tankFrom Image.defaults.tanks[t] :=
    stateFrom_tanks .defaults true 0 0 false State.reset t
  rw [tank, tankFrom_seeded] at seeded; cases seeded

end Sys2Proof.Machine
end


section
/-!
The Message Link by itself: the checks of a request (R174), the receiver of a line and the frame that bytes make (R172, R173), the
snapshot (R179), and the events of the store and of the lines (R173, R174, R180).
-/

namespace Sys2Proof.Machine

/-! ### The checks of a request's owner (R175) -/

@[simp] theorem checked_nil (s : State) (go : State × Reply) : checked [] s go = go := rfl

theorem checked_pass {b : Bool} (passes : b = true) (st : Status) (table : List (Bool × Status)) (s : State)
    (go : State × Reply) : checked ((b, st) :: table) s go = checked table s go := by subst passes; rfl

theorem checked_fail {b : Bool} (fails : b = false) (st : Status) (table : List (Bool × Status)) (s : State)
    (go : State × Reply) : checked ((b, st) :: table) s go = refuse st s := by subst fails; rfl

/-! ### The owners of the request kinds (R174) -/

/-- The kind of an owner is a request kind, and its class is that of the code's range (spec/11, section 11.3). -/
theorem requestOwners_classes : ∀ own ∈ requestOwners, own.kind.toNat ∈ requestKinds ∧
    (own.class_ = .query ↔ own.kind.toNat < 0x20) ∧
    (own.class_ = .configuration ↔ 0x20 ≤ own.kind.toNat ∧ own.kind.toNat ≤ 0x2F) := by
  decide

theorem requestKinds_owned : ∀ n ∈ requestKinds, ∃ own ∈ requestOwners, own.kind.toNat = n := by decide

theorem lengthRequired_of_fixed {own : Owner} {n : Nat} (checked : own.lengthOk = bodyLength n)
    (required : lengthRequired own.kind.toNat = fun body => body.length = n) (body : List Byte) :
    own.lengthOk body = true ↔ lengthRequired own.kind.toNat body := by
  rw [checked, required, bodyLength, beq_iff_eq]

theorem loadStrapping_lengthOk (body : List Byte) :
    ownLoadStrapping.lengthOk body = true ↔ lengthRequired ownLoadStrapping.kind.toNat body := by
  change (decide (2 ≤ body.length) && body.length == 2 + 4 * u8At body 1) = true ↔
    ∃ t count rest, body = t :: count :: rest ∧ rest.length = 4 * count.toNat
  match body with
  | [] => simp
  | [_] => simp
  | t :: count :: rest => simp [u8At]; omega

theorem defineLines_lengthOk (body : List Byte) :
    ownDefineLines.lengthOk body = true ↔ lengthRequired ownDefineLines.kind.toNat body := by
  change (decide (1 ≤ body.length) && body.length == 13 + u8At body 0) = true ↔
    ∃ count rest, body = count :: rest ∧ rest.length = 12 + count.toNat
  match body with
  | [] => simp
  | count :: rest => simp [u8At]; omega

/-- Each owner's length check is the length its kind requires. -/
theorem requestOwners_lengthOk : ∀ own ∈ requestOwners, ∀ body : List Byte,
    own.lengthOk body = true ↔ lengthRequired own.kind.toNat body := by
  have fixed {own : Owner} {n : Nat} := lengthRequired_of_fixed (own := own) (n := n)
  simp only [requestOwners, queryOwners, configurationOwners, operationOwners, List.cons_append, List.nil_append,
    List.forall_mem_cons]
  refine ⟨fixed rfl rfl, fixed rfl rfl, fixed rfl rfl, fixed rfl rfl, fixed rfl rfl, fixed rfl rfl, fixed rfl rfl, fixed rfl rfl,
    fixed rfl rfl, fixed rfl rfl, fixed rfl rfl, fixed rfl rfl, fixed rfl rfl, fixed rfl rfl, fixed rfl rfl, fixed rfl rfl,
    loadStrapping_lengthOk, fixed rfl rfl, fixed rfl rfl, defineLines_lengthOk, ?_⟩
  refine ⟨fixed rfl rfl, fixed rfl rfl, fixed rfl rfl, fixed rfl rfl, fixed rfl rfl, fixed rfl rfl, fixed rfl rfl, fixed rfl rfl,
    fixed rfl rfl, fixed rfl rfl, fixed rfl rfl, fixed rfl rfl, fixed rfl rfl, fixed rfl rfl, fixed rfl rfl, fixed rfl rfl,
    fixed rfl rfl, fixed rfl rfl, fixed rfl rfl, fixed rfl rfl, ?_⟩
  exact ⟨fixed rfl rfl, fixed rfl rfl, fixed rfl rfl, fixed rfl rfl, fixed rfl rfl, fixed rfl rfl, fixed rfl rfl, fixed rfl rfl,
    fixed rfl rfl, fixed rfl rfl, fixed rfl rfl, fixed rfl rfl, fixed rfl rfl, fixed rfl rfl, List.forall_mem_nil _⟩

/-- A frame whose kind no owner has. -/
theorem takeAny_unknown {kind : Byte} (unknown : kind.toNat ∉ requestKinds) (ln : LinkLine) (tag : Byte) (body : List Byte)
    (s : State) : takeAny requestOwners ln kind tag body s = takeUnknown ln kind tag s := by
  have notOwned : requestOwners.find? (fun own => own.kind == kind) = none := by
    rw [List.find?_eq_none]
    rintro own mem same
    obtain ⟨known, -⟩ := requestOwners_classes own mem
    rw [beq_iff_eq] at same
    exact unknown (same ▸ known)
  simp only [takeAny, notOwned]

/-- A frame of a request kind goes to the owner of its kind. -/
theorem takeAny_owned {kind : Byte} (known : kind.toNat ∈ requestKinds) (ln : LinkLine) (tag : Byte) (body : List Byte)
    (s : State) : ∃ own ∈ requestOwners, own.kind = kind ∧
      takeAny requestOwners ln kind tag body s = takeRequest own ln tag body s := by
  obtain ⟨own, found⟩ : ∃ own, requestOwners.find? (fun own => own.kind == kind) = some own := by
    obtain ⟨own, mem, same⟩ := requestKinds_owned _ known
    rw [← Option.isSome_iff_exists, List.find?_isSome]
    exact ⟨own, mem, by rw [beq_iff_eq]; exact BitVec.eq_of_toNat_eq same⟩
  refine ⟨own, List.mem_of_find?_eq_some found, ?_, by simp only [takeAny, found]⟩
  simpa using List.find?_some found

/-- A request that the Link refuses is answered with the status, and nothing else changes. -/
theorem takeRequest_refused {own : Owner} {ln : LinkLine} {body : List Byte} {s : State} {st : Status} (free : LineFree ln s)
    (refused : linkRefusal own ln body (takeLine ln s) = some st) (tag : Byte) :
    done (takeRequest own ln tag body s) = .next (answeredBy ln own.kind tag (takeLine ln s, ⟨st, []⟩)) := by
  rw [takeRequest, takeFrame_free _ _ _ _ _ free, handleRequest_refused _ _ _ _ _ refused]; rfl

/-- Settles O10: the owner of the kind is found, and the Link's checks are made in their order. -/
theorem linkChecksComeFirst : Obligations.LinkChecksComeFirst := by
  intro c r s request free
  rw [exec_request request]
  refine ⟨fun unknown => ?_, fun known badLength => ?_, fun known length operates notInControl => ?_,
    fun known length low high inControl writing => ?_⟩
  · rw [takeAny_unknown unknown, takeUnknown, takeFrame_free _ _ _ _ _ free]; rfl
  all_goals
    obtain ⟨own, mem, kind, taken⟩ := takeAny_owned known r.line r.tag r.body s
    obtain ⟨-, query, configuration⟩ := requestOwners_classes own mem
    have lengthOk := requestOwners_lengthOk own mem r.body
    rw [kind] at query configuration lengthOk
    rw [taken, ← kind]
    refine takeRequest_refused free ?_ r.tag
  · simp [linkRefusal, lengthOk, badLength]
  · have notQuery : own.class_ ≠ .query := fun isQuery => by have := query.mp isQuery; omega
    simp [linkRefusal, lengthOk.mpr length, notQuery, notInControl]
  · have isConfiguration : own.class_ = .configuration := configuration.mpr ⟨low, high⟩
    simp [linkRefusal, lengthOk.mpr length, isConfiguration, ← inControl, writing]

/-! ### The receiver (R172) -/

theorem modSerial_modSerial (s : State) (ln : LinkLine) (f g : SerialLine → SerialLine) :
    (s.modSerial ln f).modSerial ln g = s.modSerial ln fun l => g (f l) := by cases ln <;> rfl

theorem finish_modSerial (s : State) (ln : LinkLine) (f : SerialLine → SerialLine) :
    finish (s.modSerial ln f) = (finish s).modSerial ln f := by cases ln <;> rfl

/-- The sum of bytes is their sum as numbers, modulo 256. -/
theorem toNat_sum_bytes (bytes : List Byte) : bytes.sum.toNat = (bytes.map BitVec.toNat).sum % 256 := by
  induction bytes with
  | nil => rfl
  | cons b bytes ih => rw [List.sum_cons, List.map_cons, List.sum_cons, BitVec.toNat_add, ih]; omega

theorem sumHolds_iff {n : Nat} {kept : List Byte} {b : Byte} :
    sumHolds n kept b = true ↔ (n + (kept.map BitVec.toNat).sum + b.toNat) % 256 = 0 := by
  have sum : (BitVec.ofNat 8 n + kept.sum + b).toNat = (n + (kept.map BitVec.toNat).sum + b.toNat) % 256 := by
    rw [BitVec.toNat_add, BitVec.toNat_add, BitVec.toNat_ofNat, toNat_sum_bytes]; omega
  rw [sumHolds, beq_iff_eq, ← sum]
  exact ⟨fun zero => by rw [zero]; rfl, fun zero => BitVec.eq_of_toNat_eq zero⟩

section
variable {ln : LinkLine} {s : State}

theorem takeByte_hunt (hunting : (s.link.serial ln).receiver = .hunt) (owners : List Owner) (b : Byte) :
    takeByte owners ln b s = if b = 0xE7 then setReceiver ln .length s else s := by
  simp only [takeByte, hunting]; rfl

theorem takeByte_length (waiting : (s.link.serial ln).receiver = .length) (owners : List Owner) (b : Byte) :
    takeByte owners ln b s =
      if 2 ≤ b.toNat ∧ b.toNat ≤ 200 then setReceiver ln (.body b.toNat []) s else discardFrame ln s := by
  simp only [takeByte, waiting, lengthByteOk, inRange_eq_true_iff]

theorem takeByte_body {n : Nat} {kept : List Byte} (waiting : (s.link.serial ln).receiver = .body n kept)
    (owners : List Owner) (b : Byte) :
    takeByte owners ln b s = if kept.length + 1 < n then setReceiver ln (.body n (kept ++ [b])) s
      else setReceiver ln (.check n (kept ++ [b])) s := by
  simp only [takeByte, waiting]

theorem takeByte_check {n : Nat} {kept : List Byte} (waiting : (s.link.serial ln).receiver = .check n kept)
    (owners : List Owner) (b : Byte) :
    takeByte owners ln b s = if sumHolds n kept b then takeKept owners ln kept s else discardFrame ln s := by
  simp only [takeByte, waiting]

end

/-- A good frame on a busy line is discarded, whatever its kind (R173). -/
theorem takeAny_busy {ln : LinkLine} {s : State} (busy : (s.link.serial ln).busy = true) (owners : List Owner)
    (kind tag : Byte) (body : List Byte) : takeAny owners ln kind tag body s = discardFrame ln s := by
  unfold takeAny; split
  · exact takeFrame_busy _ _ _ _ _ busy
  · exact takeFrame_busy _ _ _ _ _ busy

/-- Settles O12: the table of the receiver row by row, and the frame on a busy line. -/
theorem receiverFollowsItsTable : Obligations.ReceiverFollowsItsTable := by
  have bad (ln : LinkLine) (b : Byte) (s : State) : exec (.byteReceived ln b false) s =
      done (if (s.link.serial ln).receiver = .hunt then s else discardFrame ln s) := rfl
  have good (ln : LinkLine) (b : Byte) (s : State) : exec (.byteReceived ln b true) s =
      done (takeByte requestOwners ln b s) := rfl
  have gap (ln : LinkLine) (s : State) : exec (.receiverGapTimeout ln) s =
      done (if (s.link.serial ln).receiver = .hunt then s else discardFrame ln s) := rfl
  have whileBusy (ln : LinkLine) (s : State) : exec (.frameWhileBusy ln) s =
      done (if (s.link.serial ln).busy then discardFrame ln s else s) := rfl
  refine ⟨fun ln s => ⟨rfl, fun hunting => ⟨?_, fun b => ⟨?_, fun start => ?_, fun other => ?_⟩⟩,
    fun receiving => ⟨?_, fun b => ?_⟩, fun waiting b => ⟨fun low high => ?_, fun out => ?_⟩,
    fun n kept b waiting => ⟨fun more => ?_, fun last => ?_⟩, fun n kept b waiting wrong => ?_⟩,
    fun ln s busy => ⟨fun c r request line => ?_, ?_⟩⟩
  · rw [gap, if_pos hunting]; rfl
  · rw [bad, if_pos hunting]; rfl
  · rw [good, takeByte_hunt hunting, if_pos start]; rfl
  · rw [good, takeByte_hunt hunting, if_neg other]; rfl
  · rw [gap, if_neg receiving]; rfl
  · rw [bad, if_neg receiving]; rfl
  · rw [good, takeByte_length waiting, if_pos ⟨low, high⟩]; rfl
  · rw [good, takeByte_length waiting, if_neg (by omega)]; rfl
  · rw [good, takeByte_body waiting, if_pos more]; rfl
  · rw [good, takeByte_body waiting, if_neg (by omega)]; rfl
  · rw [good, takeByte_check waiting, if_neg (mt sumHolds_iff.mp wrong)]; rfl
  · subst line
    rw [exec_request request, takeAny_busy busy]; rfl
  · rw [whileBusy, if_pos busy]; rfl

/-! ### The frame that bytes make (R172, R173) -/

/-- A byte with a good stop bit arrives on a line after some outcome. -/
def receive (ln : LinkLine) (o : Host.Outcome State Fault Refusal) (b : Byte) : Host.Outcome State Fault Refusal :=
  match o with
  | .next t => exec (.byteReceived ln b true) t
  | .fault f => .fault f
  | .refused f => .refused f

theorem receive_next (ln : LinkLine) (s : State) (b : Byte) :
    receive ln (.next s) b = done (takeByte requestOwners ln b s) := rfl

theorem setReceiver_receiver (ln : LinkLine) (r : Receiver) (s : State) :
    ((setReceiver ln r s).link.serial ln).receiver = r := by rw [setReceiver, modSerial_serial]

theorem setReceiver_setReceiver (ln : LinkLine) (r r' : Receiver) (s : State) :
    setReceiver ln r' (setReceiver ln r s) = setReceiver ln r' s := by simp only [setReceiver, modSerial_modSerial]

/-- The receiver moves no output pin: at the end of a step that only moved it nothing else has changed. -/
theorem done_setReceiver {s : State} (left : finish s = s) (ln : LinkLine) (r : Receiver) :
    done (setReceiver ln r s) = .next (setReceiver ln r s) := by
  rw [done, setReceiver, finish_modSerial, left]

theorem receive_start {ln : LinkLine} {s : State} (left : finish s = s) (hunting : (s.link.serial ln).receiver = .hunt) :
    receive ln (.next s) 0xE7 = .next (setReceiver ln .length s) := by
  rw [receive_next, takeByte_hunt hunting, if_pos rfl, done_setReceiver left]

theorem receive_length {s : State} (left : finish s = s) (ln : LinkLine) {n : Nat} (low : 2 ≤ n) (high : n ≤ 200) :
    receive ln (.next (setReceiver ln .length s)) (BitVec.ofNat 8 n) = .next (setReceiver ln (.body n []) s) := by
  have byte : (BitVec.ofNat 8 n).toNat = n := by rw [BitVec.toNat_ofNat]; omega
  rw [receive_next, takeByte_length (setReceiver_receiver ..), byte, if_pos ⟨low, high⟩, setReceiver_setReceiver,
    done_setReceiver left]

/-- The bytes after the length byte are kept, and the last of them brings the receiver to the check byte. -/
theorem receive_kept {s : State} (left : finish s = s) (ln : LinkLine) {n : Nat} :
    ∀ (bytes kept : List Byte), bytes ≠ [] → kept.length + bytes.length = n →
      bytes.foldl (receive ln) (.next (setReceiver ln (.body n kept) s)) = .next (setReceiver ln (.check n (kept ++ bytes)) s)
  | [], _, nonempty, _ => absurd rfl nonempty
  | [b], kept, _, counted => by
    have last : ¬ kept.length + 1 < n := by simp at counted; omega
    rw [List.foldl_cons, List.foldl_nil, receive_next, takeByte_body (setReceiver_receiver ..), if_neg last,
      setReceiver_setReceiver, done_setReceiver left]
  | b :: b' :: bytes, kept, _, counted => by
    have more : kept.length + 1 < n := by simp at counted; omega
    rw [List.foldl_cons, receive_next, takeByte_body (setReceiver_receiver ..), if_pos more, setReceiver_setReceiver,
      done_setReceiver left, receive_kept left ln (b' :: bytes) (kept ++ [b]) (by simp) (by simp at counted ⊢; omega)]
    simp

/-- Where the receiver stood does not matter to a frame that completes: it hunts afterwards. -/
theorem takeFrame_setReceiver (kind tag : Byte) (ln : LinkLine) (handle : State → State × Reply) (r : Receiver) (s : State) :
    takeFrame kind tag ln handle (setReceiver ln r s) = takeFrame kind tag ln handle s := by
  simp only [takeFrame, discardFrame, takeLine, setReceiver, modSerial_modSerial, modSerial_serial]

theorem takeAny_setReceiver (owners : List Owner) (ln : LinkLine) (kind tag : Byte) (body : List Byte) (r : Receiver) (s : State) :
    takeAny owners ln kind tag body (setReceiver ln r s) = takeAny owners ln kind tag body s := by
  unfold takeAny; split
  · exact takeFrame_setReceiver ..
  · exact takeFrame_setReceiver ..

theorem receive_check {n : Nat} {kind tag b : Byte} {body : List Byte} (holds : sumHolds n (kind :: tag :: body) b = true)
    (ln : LinkLine) (s : State) :
    receive ln (.next (setReceiver ln (.check n (kind :: tag :: body)) s)) b =
      done (takeAny requestOwners ln kind tag body s) := by
  rw [receive_next, takeByte_check (setReceiver_receiver ..), if_pos holds, takeKept, takeAny_setReceiver]

/-- Settles O13: the receiver walks through length, body and check, and the frame it completes is the request's. -/
theorem bytesMakeTheRequest : Obligations.BytesMakeTheRequest := by
  intro c r s request short left hunting
  let n := 2 + r.body.length
  let check : Byte := -(BitVec.ofNat 8 n + r.kind + r.tag + r.body.sum)
  change ([0xE7, BitVec.ofNat 8 n, r.kind, r.tag] ++ r.body ++ [check]).foldl (receive r.line) (.next s) = exec c s
  have holds : sumHolds n (r.kind :: r.tag :: r.body) check = true := by
    rw [sumHolds, beq_iff_eq, List.sum_cons, List.sum_cons]; simp only [check]; bv_omega
  have bytes : [0xE7, BitVec.ofNat 8 n, r.kind, r.tag] ++ r.body ++ [check] =
      0xE7 :: BitVec.ofNat 8 n :: ((r.kind :: r.tag :: r.body) ++ [check]) := rfl
  rw [bytes, List.foldl_cons, receive_start left hunting, List.foldl_cons,
    receive_length left r.line (by omega) (by omega), List.foldl_append,
    receive_kept left r.line _ [] (by simp) (by simp [n]; omega), List.nil_append, List.foldl_cons, List.foldl_nil,
    receive_check holds, exec_request request]

/-! ### The snapshot (R179) -/

theorem exec_takeSnapshot_free {ln : LinkLine} {s : State} (free : LineFree ln s) (tag : Byte) :
    exec (.takeSnapshot ln tag []) s = .next (answeredBy ln 0x0D tag (runTakeSnapshot [] (takeLine ln s))) :=
  query_answered ownTakeSnapshot ln tag [] s free rfl rfl

theorem exec_readSnapshot_free {ln : LinkLine} {s : State} (free : LineFree ln s) (tag : Byte) (page : Nat) :
    exec (.readSnapshot ln tag (enc1 page)) s =
      .next (answeredBy ln 0x0E tag (runReadSnapshot (enc1 page) (takeLine ln s))) :=
  query_answered ownReadSnapshot ln tag (enc1 page) s free rfl rfl

theorem exec_releaseSnapshot_free {ln : LinkLine} {s : State} (free : LineFree ln s) (tag : Byte) :
    exec (.releaseSnapshot ln tag []) s = .next (answeredBy ln 0x0F tag (runReleaseSnapshot [] (takeLine ln s))) :=
  query_answered ownReleaseSnapshot ln tag [] s free rfl rfl

theorem snapshotOf_tanks (s : State) (i : Fin 12) :
    (snapshotOf s).tanks[i] = ⟨s.tanks[i].volume, s.tanks[i].levelVolume, s.tanks[i].trusted⟩ := by
  simp only [snapshotOf, updAll_get]

theorem snapshotOf_netTotals (s : State) (m : Fin 24) : (snapshotOf s).netTotals[m] = s.meters[m].netTotal :=
  updAll_get ..

theorem runTakeSnapshot_none {s : State} (h : s.link.snapshot = none) (body : List Byte) :
    runTakeSnapshot body s = answer (encFlag false ++ encWord s.now) (s.modLink fun l => { l with snapshot := some (snapshotOf s) }) := by
  simp only [runTakeSnapshot, h]

theorem runTakeSnapshot_some {s : State} {image : Snapshot} (h : s.link.snapshot = some image) (body : List Byte) :
    runTakeSnapshot body s = answer (encFlag true ++ encWord image.time) s := by simp only [runTakeSnapshot, h]

theorem runReadSnapshot_page {page : Nat} (low : page ≤ 1) (s : State) :
    runReadSnapshot (enc1 page) s = match s.link.snapshot with
      | none => refuse .wrongState s
      | some p => if page = 0 then answer (snapshotTanks p) s else answer (snapshotMeters p) (dropSnapshot s) := by
  have byte : u8At (enc1 page) 0 = page := by rw [u8At_enc1_last]; omega
  rw [runReadSnapshot, byte, if_pos (inRange_eq_true_iff.mpr ⟨by omega, low⟩)] <;> rfl

theorem runReadSnapshot_badPage {page : Nat} (high : 2 ≤ page) (small : page < 256) (s : State) :
    runReadSnapshot (enc1 page) s = refuse .badValue s := by
  have byte : u8At (enc1 page) 0 = page := by rw [u8At_enc1_last]; omega
  have notIn : ¬ inRange 0 1 page = true := by rw [inRange_eq_true_iff]; omega
  rw [runReadSnapshot, byte, if_neg notIn]

theorem runReleaseSnapshot_none {s : State} (h : s.link.snapshot = none) (body : List Byte) :
    runReleaseSnapshot body s = (s, ⟨.none, []⟩) := by simp only [runReleaseSnapshot, h]

theorem runReleaseSnapshot_some {s : State} {image : Snapshot} (h : s.link.snapshot = some image) (body : List Byte) :
    runReleaseSnapshot body s = okReply (dropSnapshot s) := by simp only [runReleaseSnapshot, h]

/-- Settles O9: the three requests with and without an image held. -/
theorem snapshotIsLatchedReadAndReleased : Obligations.SnapshotIsLatchedReadAndReleased := by
  refine ⟨fun ln tag s free => ⟨fun noImage => ?_, fun image held => ?_, fun page high small => ?_⟩,
    fun good a b loc s => ⟨_, rfl, ?_⟩⟩
  · have noImage' : (takeLine ln s).link.snapshot = none := by rw [takeLine_snapshot, noImage]
    refine ⟨⟨snapshotOf (takeLine ln s), takeLine_now .., takeLine_strayTotal .., fun i => ?_, fun m => ?_, ?_⟩, fun page low => ?_, ?_⟩
    · rw [snapshotOf_tanks, takeLine_tanks]
    · rw [snapshotOf_netTotals, takeLine_meters]
    · rw [exec_takeSnapshot_free free, runTakeSnapshot_none noImage', takeLine_now]; rfl
    · rw [exec_readSnapshot_free free, runReadSnapshot_page low, noImage']; rfl
    · rw [exec_releaseSnapshot_free free, runReleaseSnapshot_none noImage']
  · have held' : (takeLine ln s).link.snapshot = some image := by rw [takeLine_snapshot, held]
    refine ⟨?_, ?_, ?_, ?_⟩
    · rw [exec_takeSnapshot_free free, runTakeSnapshot_some held']; rfl
    · rw [exec_readSnapshot_free free, runReadSnapshot_page (by omega), held']; rfl
    · rw [exec_readSnapshot_free free, runReadSnapshot_page (by omega), held']; rfl
    · rw [exec_releaseSnapshot_free free, runReleaseSnapshot_some held']; rfl
  · rw [exec_readSnapshot_free free, runReadSnapshot_badPage high small]; rfl
  · obtain ⟨image, _, _, e⟩ | e := powerOn_cases good a b loc s <;> rw [e] <;> rfl

/-! ### The store, the trigger and the lines (R173, R174, R177, R180) -/

theorem writeCompletes_of_writing {s : State} {image : Image} (writing : s.link.writing = some image) (checkHolds : Bool) :
    writeCompletes checkHolds s =
      if checkHolds then post .saveDone (s.modLink fun l => { l with writing := none, stored := some image, lastWrite := .done })
      else post .saveFailed (s.modLink fun l => { l with writing := none, lastWrite := .failed }) := by
  simp only [writeCompletes, writing]

theorem Tank.saved_eq (k : Tank) : k.saved = if k.state = .unconfigured then none else some ⟨k.defn, k.strapping⟩ := by
  by_cases h : k.state = .unconfigured <;> simp [Tank.saved, Tank.defined, h]

theorem runSetNoticeTrigger_inRange {n : Nat} (low : 1 ≤ n) (high : n ≤ 32) (s : State) :
    runSetNoticeTrigger (enc1 n) s = okReply (s.modLink fun l => { l with trigger := n }) := by
  have byte : u8At (enc1 n) 0 = n := by rw [u8At_enc1_last]; omega
  rw [runSetNoticeTrigger, byte, checked_pass (inRange_eq_true_iff.mpr ⟨low, high⟩), checked_nil]

theorem runSetNoticeTrigger_outOfRange {n : Nat} (small : n < 256) (out : n = 0 ∨ 32 < n) (s : State) :
    runSetNoticeTrigger (enc1 n) s = refuse .badValue s := by
  have byte : u8At (enc1 n) 0 = n := by rw [u8At_enc1_last]; omega
  have notIn : inRange 1 32 n = false := by rw [← Bool.not_eq_true, inRange_eq_true_iff]; omega
  rw [runSetNoticeTrigger, byte, checked_fail notIn]

/-- Settles O14: the events of the lines and of the store by the store write in flight, and the two requests on their checks. -/
theorem storeTriggerAndLineEvents : Obligations.StoreTriggerAndLineEvents := by
  refine ⟨⟨fun _ _ => rfl, fun s image writing => ?_, fun s due moved => ?_⟩, fun ln tag s may => ⟨?_, fun n small => ?_⟩⟩
  · have (good : Bool) : exec (.storeWriteComplete good) s = done (writeCompletes good s) := rfl
    rw [this, this, writeCompletes_of_writing writing, writeCompletes_of_writing writing]
    exact ⟨rfl, rfl⟩
  · change done (takeDue _ _ _ s) = _
    rw [takeDue_taken _ due (by simpa using moved)]; rfl
  · refine ⟨imageOf s, fun i => ?_, fun m => ?_, fun i => ?_, fun k => ?_, fun g => ?_, fun n => ?_,
      rfl, rfl, rfl, rfl, rfl, rfl, rfl, ?_⟩
    · simp only [imageOf, updAll_get, Tank.saved_eq]
    iterate 5 · simp only [imageOf, updAll_get]
    · have sameImage : imageOf (takeLine ln s) = imageOf s := by cases ln <;> rfl
      refine (configuration_answered ownSaveConfiguration ln tag [] s may rfl rfl).trans ?_
      rw [show ownSaveConfiguration.run [] (takeLine ln s) = runSaveConfiguration [] (takeLine ln s) from rfl,
        runSaveConfiguration, sameImage]; rfl
  · have answered : exec (.setNoticeTrigger ln tag (enc1 n)) s =
        .next (answeredBy ln 0x2C tag (runSetNoticeTrigger (enc1 n) (takeLine ln s))) :=
      configuration_answered ownSetNoticeTrigger ln tag (enc1 n) s may rfl rfl
    rw [answered]
    refine ⟨fun low high => ?_, fun out => ?_⟩
    · rw [runSetNoticeTrigger_inRange low high]; rfl
    · rw [runSetNoticeTrigger_outOfRange small out]; rfl

end Sys2Proof.Machine
end


section
/-!
The requests to the tanks: SEED TANK and RESEED TANK (R20, R22, R23), TANK SERVICE (R17), DEFINE TANK (R5 to R8) and LOAD STRAPPING
(R50, R51). Each request is answered by its owner; the owner's answer is told from the checks it makes.
-/

namespace Sys2Proof.Machine

/-! ### What an owner's answer makes of a request -/

theorem operation_outcome {own : Owner} {ln : LinkLine} {tag : Byte} {body : List Byte} {s : State} {answered : State × Reply}
    (h : InControl ln s) (operation : own.class_ = .operation) (length : own.lengthOk body = true)
    (run : own.run body (takeLine ln s) = answered) :
    done (takeRequest own ln tag body s) = .next (answeredBy ln own.kind tag answered) := by
  rw [operation_answered own ln tag body s h operation length, run]

theorem configuration_outcome {own : Owner} {ln : LinkLine} {tag : Byte} {body : List Byte} {s : State}
    {answered : State × Reply} (h : MayDefine ln s) (configuration : own.class_ = .configuration)
    (length : own.lengthOk body = true) (run : own.run body (takeLine ln s) = answered) :
    done (takeRequest own ln tag body s) = .next (answeredBy ln own.kind tag answered) := by
  rw [configuration_answered own ln tag body s h configuration length, run]

theorem okOr_eq {adjusted unchanged : Bool} (h : adjusted = !unchanged) : okOr adjusted = acceptedAs unchanged := by
  subst h; cases unchanged <;> rfl

/-! ### Seeds (R20, R22, R23) -/

theorem Tank.defined_iff {k : Tank} : k.defined = true ↔ k.state ≠ .unconfigured := by simp [Tank.defined]

theorem Tank.defined_eq_false_iff {k : Tank} : k.defined = false ↔ k.state = .unconfigured := by simp [Tank.defined]

theorem runSeedTank_eq {t : Fin 12} {amount : Nat} (small : amount < 4294967296) (s : State) :
    runSeedTank (enc1 t.val ++ enc4 amount) s = checked [(s.tanks[t].defined, .notConfigured)] s
      (acceptWith (s.tanks[t].defn.capacity < amount) (enc2 (min amount s.tanks[t].defn.capacity)) (seedWith t amount .seed s)) := by
  have named : u32At (enc1 t.val ++ enc4 amount) 1 = amount := by
    rw [u32At_enc1_succ, u32At_enc4_last, Nat.mod_eq_of_lt small]
  simp only [runSeedTank, u8At_enc1_zero, tank_byte, indexOf_val, named]

theorem runSeedTank_unconfigured {t : Fin 12} {s : State} (unconfigured : s.tanks[t].state = .unconfigured) (amount : Nat) :
    runSeedTank (enc1 t.val ++ enc4 amount) s = refuse .notConfigured s := by
  simp only [runSeedTank, u8At_enc1_zero, tank_byte, indexOf_val, checked_fail (Tank.defined_eq_false_iff.mpr unconfigured)]

theorem runReseedTank_eq (t : Fin 12) (s : State) : runReseedTank (enc1 t.val) s = reseedTank t s := by
  simp only [runReseedTank, u8At_enc1_last, tank_byte, indexOf_val]

theorem reseedTank_unconfigured {t : Fin 12} {s : State} (unconfigured : s.tanks[t].state = .unconfigured) :
    reseedTank t s = refuse .notConfigured s := by
  simp only [reseedTank, Tank.defined_eq_false_iff.mpr unconfigured, Bool.not_false, if_true]

theorem reseedTank_of_defined {t : Fin 12} {s : State} (defined : s.tanks[t].state ≠ .unconfigured) :
    reseedTank t s = match s.tanks[t].levelVolume with
      | none => refuse .wrongState s
      | some lv => acceptWith false (enc2 (min lv s.tanks[t].defn.capacity)) (seedWith t lv .reseed s) := by
  simp only [reseedTank, Tank.defined_iff.mpr defined, Bool.not_true, Bool.false_eq_true, if_false] <;> rfl

/-- The state after a seed, by the state table of R20. -/
def seededState (k : Tank) : TankState := if k.state = .unknown then k.defn.startState.toTankState else k.state

theorem Tank.seed_state (k : Tank) (amount : Nat) (origin : SeedOrigin) : (k.seed amount origin).state = seededState k := by
  simp [Tank.seed, seededState]

theorem seedWith_eq (t : Fin 12) (amount : Nat) (origin : SeedOrigin) (s : State) :
    seedWith t amount origin s =
      tankChange (post (.tankState t (seedCause origin) (seededState s.tanks[t])) (s.modTank t fun k => k.seed amount origin)) := by
  simp only [seedWith, modTank_tanks, upd_get_same, Tank.seed_state]

/-- Settles O17: the refusals by their checks; an accepted seed is `seedWith`. -/
theorem seedRequestsSeedTheTank : Obligations.SeedRequestsSeedTheTank := by
  intro ln tag t s control
  have tanks : (takeLine ln s).tanks = s.tanks := takeLine_tanks ln s
  refine ⟨fun unconfigured => ⟨fun amount => ?_, ?_⟩, fun defined noLevel => ?_, fun amount origin after t' defined hafter ht' => ?_⟩
  · exact operation_outcome (own := ownSeedTank) control rfl rfl (runSeedTank_unconfigured (by rw [tanks]; exact unconfigured) amount)
  · exact operation_outcome (own := ownReseedTank) control rfl rfl
      ((runReseedTank_eq t _).trans (reseedTank_unconfigured (by rw [tanks]; exact unconfigured)))
  · refine operation_outcome (own := ownReseedTank) control rfl rfl ((runReseedTank_eq t _).trans ?_)
    rw [reseedTank_of_defined (by rw [tanks]; exact defined), tanks, noLevel]; rfl
  · have seeded : seedWith t amount origin (takeLine ln s) = t' := by
      rw [seedWith_eq, ht', tanks, hafter]
      refine congrArg (fun u => tankChange (post _ u)) (modTank_congr _ t ?_)
      simp [Tank.seed]
    constructor
    · rintro rfl small
      refine operation_outcome (own := ownSeedTank) control rfl rfl ((runSeedTank_eq small _).trans ?_)
      rw [checked_pass (by rw [tanks]; exact Tank.defined_iff.mpr defined), checked_nil, seeded, tanks, acceptWith,
        okOr_eq (unchanged := amount ≤ s.tanks[t].defn.capacity) (by simp [← decide_not])]
    · rintro rfl level
      refine operation_outcome (own := ownReseedTank) control rfl rfl ((runReseedTank_eq t _).trans ?_)
      rw [reseedTank_of_defined (by rw [tanks]; exact defined), tanks, level]
      simp only [seeded, acceptWith]; rfl

/-! ### TANK SERVICE (R17 to R19) -/

theorem runTankService_eq (t : Fin 12) (wanted : ServiceState) (s : State) :
    runTankService (enc1 t.val ++ enc1 wanted.toTankState.code) s = tankService t wanted s := by
  simp only [runTankService, u8At_enc1_zero, u8At_enc1_succ, u8At_enc1_last, tank_byte, indexOf_val, serviceStateOf_code]

theorem tankService_refused {t : Fin 12} {wanted : ServiceState} {s : State} {st : Status}
    (h : serviceTable s.tanks[t] wanted = .error st) : tankService t wanted s = refuse st s := by
  simp only [tankService, h]

theorem tankService_accepted {t : Fin 12} {wanted : ServiceState} {s : State} {changes : Bool}
    (h : serviceTable s.tanks[t] wanted = .ok changes) :
    tankService t wanted s =
      okReply (if changes then changeTankState t .service (fun k => { k with state := wanted.toTankState }) s else s) := by
  simp only [tankService, h]

theorem changeTankState_eq {t : Fin 12} {f : Tank → Tank} {s : State} {st : TankState} (h : (f s.tanks[t]).state = st)
    (cause : TankCause) : changeTankState t cause f s = tankChange (post (.tankState t cause st) (s.modTank t f)) := by
  subst h; simp only [changeTankState, modTank_tanks, upd_get_same]

theorem serviceTable_unconfigured {k : Tank} (h : k.state = .unconfigured) (wanted : ServiceState) :
    serviceTable k wanted = .error .notConfigured := by simp only [serviceTable, h]

theorem serviceTable_notSeeded {k : Tank} (h : k.state = .unknown ∨ k.state = .isolated ∧ k.seeded = false)
    {wanted : ServiceState} (other : wanted ≠ .isolated) : serviceTable k wanted = .error .notSeeded := by
  obtain unknown | ⟨isolated, unseeded⟩ := h
  · simp only [serviceTable, unknown, if_neg other]
  · simp only [serviceTable, isolated, unseeded, if_neg other]; rfl

theorem serviceTable_same {k : Tank} {wanted : ServiceState} (same : k.state = wanted.toTankState)
    (h : wanted = .isolated ∨ k.state ≠ .isolated) : serviceTable k wanted = .ok false := by
  cases wanted <;> simp_all [serviceTable, ServiceState.toTankState]

theorem serviceTable_changes {k : Tank} {wanted : ServiceState} (defined : k.state ≠ .unconfigured)
    (moves : k.state ≠ wanted.toTankState) (unknown : k.state = .unknown → wanted = .isolated)
    (isolated : k.state = .isolated → k.seeded = true) : serviceTable k wanted = .ok true := by
  cases state : k.state with
  | unconfigured => exact absurd state defined
  | unknown => simp only [serviceTable, state, unknown state, if_true]
  | isolated =>
    have other : wanted ≠ .isolated := by rintro rfl; exact moves state
    simp only [serviceTable, state, if_neg other, isolated state, if_true]
  | inService => rw [state] at moves; simpa [serviceTable, state] using moves
  | quarantine => rw [state] at moves; simpa [serviceTable, state] using moves

theorem exec_tankService_of_run {ln : LinkLine} {tag : Byte} {t : Fin 12} {wanted : ServiceState} {s : State} {answered : State × Reply}
    (control : InControl ln s) (run : tankService t wanted (takeLine ln s) = answered) :
    exec (.tankService ln tag (enc1 t.val ++ enc1 wanted.toTankState.code)) s = .next (answeredBy ln 0x42 tag answered) :=
  operation_outcome (own := ownTankService) control rfl rfl ((runTankService_eq t wanted _).trans run)

/-! ### DEFINE TANK (R5 to R8) -/

theorem u8At_append_right {front : List Byte} {n : Nat} (h : front.length = n) (rest : List Byte) (i : Nat) :
    u8At (front ++ rest) (i + n) = u8At rest i := by
  subst h
  simp [u8At, List.getD_eq_getElem?_getD, List.getElem?_append_right]

theorem u16At_append_right {front : List Byte} {n : Nat} (h : front.length = n) (rest : List Byte) (i : Nat) :
    u16At (front ++ rest) (i + n) = u16At rest i := by
  rw [u16At, u16At, u8At_append_right h, Nat.add_right_comm, u8At_append_right h]

theorem tagAt_append {front tag : List Byte} {n : Nat} (h : front.length = n) (length : tag.length = 8) (rest : List Byte) :
    tagAt (front ++ (tag ++ rest)) n = tag := by
  subst h
  apply List.ext_getElem
  · simp [tagAt, length]
  · intro i hi hj
    simp [tagAt, List.getD_eq_getElem?_getD, List.getElem?_append_right, List.getElem?_append_left hj,
      List.getElem?_eq_getElem hj]

section
variable {t : Fin 12} {d : TankDef}

theorem tankBody_index : u8At (tankBody t d) 0 = t.val := by simp [tankBody]

theorem tankBody_fields (length : d.tag.length = 8) :
    tagAt (tankBody t d) 1 = d.tag ∧ u8At (tankBody t d) 9 = d.side.code % 256 ∧ u16At (tankBody t d) 10 = d.capacity % 65536 ∧
      u16At (tankBody t d) 12 = d.lowMark % 65536 ∧ u16At (tankBody t d) 14 = d.fillStop % 65536 ∧
      u16At (tankBody t d) 16 = d.tolerance % 65536 ∧ u16At (tankBody t d) 18 = d.quietTime % 65536 ∧
      u8At (tankBody t d) 20 = d.startState.toTankState.code % 256 := by
  have front : (enc1 t.val ++ d.tag).length = 9 := by simp [length]
  have body : tankBody t d = (enc1 t.val ++ d.tag) ++ (enc1 d.side.code ++ (enc2 d.capacity ++ (enc2 d.lowMark ++ (enc2 d.fillStop ++
      (enc2 d.tolerance ++ (enc2 d.quietTime ++ enc1 d.startState.toTankState.code)))))) := by
    simp only [tankBody, List.append_assoc]
  have byte (i : Nat) := u8At_append_right front (i := i)
  have word (i : Nat) := u16At_append_right front (i := i)
  refine ⟨?_, ?_, ?_, ?_, ?_, ?_, ?_, ?_⟩
  · rw [body, List.append_assoc]; exact tagAt_append rfl length _
  · rw [body]; exact (byte 0 _).trans (by simp)
  · rw [body]; exact (word 1 _).trans (by simp)
  · rw [body]; exact (word 3 _).trans (by simp)
  · rw [body]; exact (word 5 _).trans (by simp)
  · rw [body]; exact (word 7 _).trans (by simp)
  · rw [body]; exact (word 9 _).trans (by simp)
  · rw [body]; exact (byte 11 _).trans (by simp)

end

theorem Tank.holdsRole_iff {k : Tank} : k.holdsRole = true ↔
    k.duty = true ∨ k.fillTrains ≠ [] ∨ k.transferRole ≠ .none ∨ k.shoreTarget = true := by
  simp [Tank.holdsRole, or_assoc]

theorem Tank.holdsRole_eq_false {k : Tank} (duty : k.duty = false) (fill : k.fillTrains = []) (transfer : k.transferRole = .none)
    (shore : k.shoreTarget = false) : k.holdsRole = false := by simp [Tank.holdsRole, duty, fill, transfer, shore]

theorem lastVolume_le_iff {points : List StrapPoint} {bound : Nat} :
    lastVolume points ≤ bound ↔ ∀ p, points.getLast? = some p → p.volume ≤ bound := by
  unfold lastVolume; cases points.getLast? <;> simp

/-- Every field of a definition is in order for the tank that is to take it (R5). -/
def TankDef.inOrder (d : TankDef) (k : Tank) : Bool :=
  inRange 500 60000 d.capacity && tagOk d.tag && marksOk d.capacity d.lowMark d.fillStop d.tolerance
    && decide (lastVolume k.strapping ≤ d.capacity)

theorem TankDef.inOrder_iff {d : TankDef} {k : Tank} : d.inOrder k = true ↔
    (∀ b ∈ d.tag, 0x20 ≤ b.toNat ∧ b.toNat ≤ 0x7E) ∧ 500 ≤ d.capacity ∧ d.capacity ≤ 60000 ∧ d.lowMark < d.fillStop ∧
      d.fillStop ≤ d.capacity ∧ 20 ≤ d.tolerance ∧ d.tolerance ≤ 5000 ∧
      ∀ p, k.strapping.getLast? = some p → p.volume ≤ d.capacity := by
  simp only [TankDef.inOrder, tagOk, marksOk, Bool.and_eq_true, List.all_eq_true, inRange_eq_true_iff, decide_eq_true_eq,
    lastVolume_le_iff]
  constructor
  · rintro ⟨⟨⟨cap, printable⟩, marks⟩, table⟩
    exact ⟨printable, cap.1, cap.2, marks.1.1.2, marks.1.2, marks.2.1, marks.2.2, table⟩
  · rintro ⟨printable, capLow, capHigh, marks, fillStop, tolLow, tolHigh, table⟩
    exact ⟨⟨⟨⟨capLow, capHigh⟩, printable⟩, ⟨⟨by omega, marks⟩, fillStop⟩, tolLow, tolHigh⟩, table⟩

/-- A definition in order is read from its body, its quiet time clamped; any other is refused (R5). -/
theorem tankDefOf_tankBody {t : Fin 12} {d : TankDef} (k : Tank) (length : d.tag.length = 8) (capacity : d.capacity < 65536)
    (lowMark : d.lowMark < 65536) (fillStop : d.fillStop < 65536) (tolerance : d.tolerance < 65536) (quiet : d.quietTime < 65536) :
    tankDefOf (tankBody t d) k =
      if d.inOrder k then some { d with quietTime := max 30 (min 600 d.quietTime) } else none := by
  obtain ⟨htag, hside, hcap, hlow, hfill, htol, hquiet, hstart⟩ := tankBody_fields (t := t) length
  rw [Nat.mod_eq_of_lt (by omega)] at hcap hlow hfill htol hquiet
  simp only [tankDefOf, hside, hstart, htag, hcap, hlow, hfill, htol, hquiet, sideOf_code, serviceStateOf_code, clampTo,
    TankDef.inOrder]
  rfl

theorem runDefineTank_tankBody (t : Fin 12) (d : TankDef) (s : State) :
    runDefineTank (tankBody t d) s = defineTank t (tankBody t d) s := by
  simp only [runDefineTank, tankBody_index, indexOf_val]

theorem defineTank_removal {t : Fin 12} {d : TankDef} {s : State} (length : d.tag.length = 8) (removal : d.capacity = 0)
    (noRole : s.tanks[t].holdsRole = false) : defineTank t (tankBody t d) s = okReply (removeTankDef t s) := by
  obtain ⟨-, -, hcap, -⟩ := tankBody_fields (t := t) length
  have zero : u16At (tankBody t d) 10 = 0 := by rw [hcap, removal]
  simp only [defineTank, zero, if_true]
  rw [checked_pass (by rw [noRole]; rfl), checked_nil]

theorem defineTank_definition {t : Fin 12} {d d' : TankDef} {s : State} (length : d.tag.length = 8) (nonzero : d.capacity % 65536 ≠ 0)
    (quiet : d.quietTime < 65536) (read : tankDefOf (tankBody t d) s.tanks[t] = some d') (noRole : s.tanks[t].holdsRole = false) :
    defineTank t (tankBody t d) s = accept (clamps 30 600 d.quietTime) (applyTankDef t d' s) := by
  obtain ⟨-, -, hcap, -, -, -, hquiet, -⟩ := tankBody_fields (t := t) length
  rw [Nat.mod_eq_of_lt quiet] at hquiet
  have nonzero' : ¬ u16At (tankBody t d) 10 = 0 := by rwa [hcap]
  simp only [defineTank, if_neg nonzero', read, hquiet]
  rw [checked_pass (by rw [noRole]; rfl), checked_nil]

theorem exec_defineTank_of_run {ln : LinkLine} {tag : Byte} {t : Fin 12} {d : TankDef} {s : State} {answered : State × Reply}
    (may : MayDefine ln s) (length : d.tag.length = 8) (run : defineTank t (tankBody t d) (takeLine ln s) = answered) :
    exec (.defineTank ln tag (tankBody t d)) s = .next (answeredBy ln 0x20 tag answered) :=
  configuration_outcome (own := ownDefineTank) may rfl (by simp [ownDefineTank, bodyLength, tankBody, length])
    ((runDefineTank_tankBody t d _).trans run)

theorem applyTankDef_new {t : Fin 12} {s : State} (h : s.tanks[t].state = .unconfigured) (d : TankDef) :
    applyTankDef t d s = tankChange (post (.tankState t .defined .unknown) (s.modTank t fun _ => .fresh d [] .unknown)) := by
  simp only [applyTankDef, Tank.defined_eq_false_iff.mpr h, Bool.not_false, if_true]
  exact changeTankState_eq rfl _

theorem applyTankDef_capacity {t : Fin 12} {s : State} (h : s.tanks[t].state ≠ .unconfigured) {d : TankDef}
    (moves : s.tanks[t].defn.capacity ≠ d.capacity) :
    applyTankDef t d s =
      tankChange (post (.tankState t .redefined .unknown) (s.modTank t fun k => { k.unseed with defn := d })) := by
  simp only [applyTankDef, Tank.defined_iff.mpr h, Bool.not_true, Bool.false_eq_true, if_false, if_pos moves]
  exact changeTankState_eq rfl _

theorem applyTankDef_same {t : Fin 12} {s : State} (h : s.tanks[t].state ≠ .unconfigured) {d : TankDef}
    (same : s.tanks[t].defn.capacity = d.capacity) :
    applyTankDef t d s = tankChange (s.modTank t fun k => { k with defn := d }) := by
  simp only [applyTankDef, Tank.defined_iff.mpr h, Bool.not_true, Bool.false_eq_true, if_false, same, ne_eq, not_true_eq_false]

theorem removeTankDef_defined {t : Fin 12} {s : State} (h : s.tanks[t].state ≠ .unconfigured) :
    removeTankDef t s = tankChange (post (.tankState t .undefined .unconfigured) (s.modTank t fun _ => .unconfigured)) := by
  rw [removeTankDef, if_pos (Tank.defined_iff.mpr h)]; exact changeTankState_eq rfl _

theorem removeTankDef_unconfigured {t : Fin 12} {s : State} (h : s.tanks[t].state = .unconfigured) : removeTankDef t s = s := by
  rw [removeTankDef, Tank.defined_eq_false_iff.mpr h]; rfl

/-! ### LOAD STRAPPING (R50, R51) -/

theorem getLast_le_of_pairwise {points : List StrapPoint} {bound : Nat} (h : ∀ p ∈ points, p.volume ≤ bound) :
    lastVolume points ≤ bound := by
  rw [lastVolume_le_iff]; exact fun p last => h p (List.mem_of_getLast? last)

/-- The heads and volumes of two points of a table, the first before the second (R50). -/
theorem pointsRise_iff : ∀ {points : List StrapPoint},
    pointsRise points = true ↔ points.Pairwise fun p q => p.head < q.head ∧ p.volume ≤ q.volume
  | [] => by simp [pointsRise]
  | [_] => by simp [pointsRise]
  | p :: q :: rest => by
    rw [pointsRise, Bool.and_eq_true, Bool.and_eq_true, decide_eq_true_eq, decide_eq_true_eq, pointsRise_iff, List.pairwise_cons (a := p)]
    refine ⟨fun ⟨first, rises⟩ => ⟨fun r mem => ?_, rises⟩, fun ⟨above, rises⟩ => ⟨above q List.mem_cons_self, rises⟩⟩
    obtain rfl | later := List.mem_cons.mp mem
    · exact first
    · obtain ⟨heads, volumes⟩ := (List.pairwise_cons.mp rises).1 r later
      exact ⟨first.1.trans heads, first.2.trans volumes⟩

/-- The bytes of the points of a table. -/
def pointBytes (points : List StrapPoint) : List Byte := points.flatMap fun p => enc2 p.head ++ enc2 p.volume

theorem pointBytes_length (points : List StrapPoint) : (pointBytes points).length = 4 * points.length := by
  induction points with
  | nil => rfl
  | cons p points ih => simp [pointBytes] at ih ⊢; omega

theorem pointBytes_fields : ∀ (points : List StrapPoint) (i : Nat) (h : i < points.length),
    u16At (pointBytes points) (4 * i) = points[i].head % 65536 ∧ u16At (pointBytes points) (2 + 4 * i) = points[i].volume % 65536
  | p :: points, 0, _ => by simp [pointBytes]
  | p :: points, i + 1, h => by
    obtain ⟨head, volume⟩ := pointBytes_fields points i (by simpa using h)
    have front : (enc2 p.head ++ enc2 p.volume).length = 4 := rfl
    have bytes : pointBytes (p :: points) = (enc2 p.head ++ enc2 p.volume) ++ pointBytes points := by
      simp [pointBytes]
    rw [bytes, show 4 * (i + 1) = 4 * i + 4 by omega, show 2 + (4 * i + 4) = 2 + 4 * i + 4 by omega, u16At_append_right front,
      u16At_append_right front]
    exact ⟨head, volume⟩

/-- The points of a body are those it was built from. -/
theorem pointsOf_strappingBody (t : Fin 12) {points : List StrapPoint} (short : points.length < 256)
    (heads : ∀ p ∈ points, p.head < 65536) (volumes : ∀ p ∈ points, p.volume < 65536) :
    pointsOf (strappingBody t points) = points := by
  have front : (enc1 t.val ++ enc1 points.length).length = 2 := rfl
  have count : u8At (strappingBody t points) 1 = points.length := by
    simp [strappingBody, Nat.mod_eq_of_lt short]
  have field (i : Nat) : u16At (strappingBody t points) (i + 2) = u16At (pointBytes points) i := u16At_append_right front _ i
  apply List.ext_getElem
  · simp [pointsOf, count]
  · intro i hi hj
    obtain ⟨head, volume⟩ := pointBytes_fields points i hj
    have mem : points[i] ∈ points := List.getElem_mem hj
    rw [← field, Nat.mod_eq_of_lt (heads _ mem)] at head
    rw [← field, Nat.mod_eq_of_lt (volumes _ mem)] at volume
    simp only [pointsOf, List.getElem_map, List.getElem_range]
    rw [show 2 + 4 * i = 4 * i + 2 by omega, head, show 4 + 4 * i = 2 + 4 * i + 2 by omega, volume]

theorem strappingBody_lengthOk (t : Fin 12) {points : List StrapPoint} (short : points.length < 256) :
    ownLoadStrapping.lengthOk (strappingBody t points) = true := by
  rw [loadStrapping_lengthOk]
  refine ⟨_, _, pointBytes points, rfl, ?_⟩
  rw [pointBytes_length, BitVec.toNat_ofNat, Nat.mod_eq_of_lt short]

theorem runLoadStrapping_strappingBody (t : Fin 12) {points : List StrapPoint} (short : points.length < 256)
    (heads : ∀ p ∈ points, p.head < 65536) (volumes : ∀ p ∈ points, p.volume < 65536) (s : State) :
    runLoadStrapping (strappingBody t points) s =
      checked (strappingChecks s.tanks[t] points) s (okReply (loadStrapping t points s)) := by
  have index : u8At (strappingBody t points) 0 = t.val := by simp [strappingBody]
  simp only [runLoadStrapping, index, indexOf_val, pointsOf_strappingBody t short heads volumes]

theorem emptyWindow_inputs (t : Fin 12) (s : State) (i : Fin 16) :
    (emptyWindow t s).inputs[i] = if s.inputs[i].defined = true ∧ s.inputs[i].role = .level t then
      { s.inputs[i] with window := [], head := none } else s.inputs[i] := by
  simp only [emptyWindow, updAll_get, Bool.and_eq_true, beq_iff_eq]

/-- Settles O18: TANK SERVICE by its state table, DEFINE TANK and LOAD STRAPPING from the fields of their bodies. -/
theorem tankRequestsAct : Obligations.TankRequestsAct := by
  refine ⟨fun ln tag t wanted s control => ?_, fun ln tag t d s may duty fill transfer shore => ?_,
    fun ln tag t points s may defined duty fill transfer shore notOne short heads rise volumes => ?_⟩
  all_goals have tanks : (takeLine ln s).tanks = s.tanks := takeLine_tanks ln s
  · refine ⟨fun unconfigured => ?_, fun notSeeded other => ?_, fun same h => ?_, fun defined moves unknown isolated => ?_⟩
    · exact exec_tankService_of_run control (tankService_refused (by rw [tanks]; exact serviceTable_unconfigured unconfigured _))
    · exact exec_tankService_of_run control (tankService_refused (by rw [tanks]; exact serviceTable_notSeeded notSeeded other))
    · exact exec_tankService_of_run control (tankService_accepted (by rw [tanks]; exact serviceTable_same same h))
    · refine exec_tankService_of_run control ((tankService_accepted
        (by rw [tanks]; exact serviceTable_changes defined moves unknown isolated)).trans ?_)
      rw [if_pos rfl, changeTankState_eq rfl]; rfl
  · have noRole : (takeLine ln s).tanks[t].holdsRole = false := by
      rw [tanks]; exact Tank.holdsRole_eq_false duty fill transfer shore
    refine ⟨fun d' reply length printable capLow capHigh marks fillStop tolLow tolHigh quiet table hd' hreply => ?_,
      fun length removal => ⟨fun unconfigured => ?_, fun defined => ?_⟩⟩
    · have read : tankDefOf (tankBody t d) (takeLine ln s).tanks[t] = some d' := by
        rw [tanks, hd']; rw [tankDefOf_tankBody _ length (by omega) (by omega) (by omega) (by omega) quiet]
        exact if_pos (TankDef.inOrder_iff.mpr ⟨printable, capLow, capHigh, marks, fillStop, tolLow, tolHigh, table⟩)
      have run := defineTank_definition length (by omega) quiet read noRole
      have clamped : okOr (clamps 30 600 d.quietTime) = acceptedAs (30 ≤ d.quietTime && d.quietTime ≤ 600) := okOr_eq rfl
      rw [accept, clamped, ← hreply] at run
      have capacity : d'.capacity = d.capacity := by rw [hd']
      refine ⟨fun unconfigured => ?_, fun defined moves => ?_, fun defined same => ?_⟩
      · rw [applyTankDef_new (by rw [tanks]; exact unconfigured)] at run
        exact exec_defineTank_of_run may length run
      · rw [applyTankDef_capacity (by rw [tanks]; exact defined) (by rw [tanks, capacity]; exact moves)] at run
        exact exec_defineTank_of_run may length run
      · rw [applyTankDef_same (by rw [tanks]; exact defined) (by rw [tanks, capacity]; exact same)] at run
        exact exec_defineTank_of_run may length run
    · refine exec_defineTank_of_run may length ((defineTank_removal length removal noRole).trans ?_)
      rw [removeTankDef_unconfigured (by rw [tanks]; exact unconfigured)]; rfl
    · refine exec_defineTank_of_run may length ((defineTank_removal length removal noRole).trans ?_)
      rw [removeTankDef_defined (by rw [tanks]; exact defined)]; rfl
  · have noRole : (takeLine ln s).tanks[t].holdsRole = false := by
      rw [tanks]; exact Tank.holdsRole_eq_false duty fill transfer shore
    have defined' : (takeLine ln s).tanks[t].defined = true := by rw [tanks]; exact Tank.defined_iff.mpr defined
    have run : runLoadStrapping (strappingBody t points) (takeLine ln s) = okReply (loadStrapping t points (takeLine ln s)) := by
      rw [runLoadStrapping_strappingBody t (by omega) (fun p mem => Nat.lt_of_le_of_lt (heads p mem) (by decide))
        fun p mem => (volumes p mem).2, strappingChecks]
      rw [checked_pass defined', checked_pass, checked_pass, checked_pass (pointsRise_iff.mpr rise), checked_pass,
        checked_pass (by rw [noRole]; rfl), checked_nil]
      · rw [decide_eq_true_eq, tanks]; exact getLast_le_of_pairwise fun p mem => (volumes p mem).1
      · simpa using heads
      · simp only [Bool.or_eq_true, beq_iff_eq, inRange_eq_true_iff]; omega
    have length := strappingBody_lengthOk t (points := points) (by omega)
    refine ⟨_, configuration_outcome (own := ownLoadStrapping) may rfl length run, fun i => ?_, ?_⟩
    · simp only [modTank_inputs, emptyWindow_inputs, takeLine_inputs]
    · simp only [State.modTank, emptyWindow, upd_upd]

end Sys2Proof.Machine
end


section
/-!
A new head at a tank (R53, R54), and the meter channels: the count of an edge (R27 to R29), the litre a count completes (R30 to R32),
the role a litre goes to (R33 to R38), and DEFINE METER (R39, R40).
-/

namespace Sys2Proof.Machine

/-! ### A new head (R53, R54) -/

section
variable {t : Fin 12} {h lv : Nat} {s : State}

theorem takeHead_unconfigured (unconfigured : s.tanks[t].state = .unconfigured) : takeHead t h s = s := by
  simp only [takeHead, Tank.defined_eq_false_iff.mpr unconfigured]; rfl

theorem takeHead_of_none (defined : s.tanks[t].state ≠ .unconfigured)
    (none : strapVolume s.tanks[t].defn.capacity s.tanks[t].strapping h = none) :
    takeHead t h s = s.modTank t fun k => { k with levelHead := some h } := by
  simp only [takeHead, if_pos (Tank.defined_iff.mpr defined), none]

theorem strapVolume_isSome {capacity : Nat} {points : List StrapPoint} (nonempty : points ≠ []) (h : Nat) :
    ∃ lv, strapVolume capacity points h = some lv := by
  match points with
  | [] => exact absurd rfl nonempty
  | _ :: _ => exact ⟨_, rfl⟩

/-- The tank record with a new head, the level volume it gives and an agreement. -/
def Tank.leveled (h lv : Nat) (a : Agreement) (k : Tank) : Tank := { k with levelHead := some h, levelVolume := some lv, agreement := a }

theorem takeHead_of_some (defined : s.tanks[t].state ≠ .unconfigured)
    (some : strapVolume s.tanks[t].defn.capacity s.tanks[t].strapping h = some lv) :
    takeHead t h s = if s.tanks[t].seeded = true
      then tankChange (reconcile t lv (s.modTank t (Tank.leveled h lv s.tanks[t].agreement)))
      else seedWith t lv .automatic (s.modTank t (Tank.leveled h lv s.tanks[t].agreement)) := by
  have leveled : ((s.modTank t fun k => { k with levelHead := .some h }).modTank t fun k => { k with levelVolume := .some lv }) =
      s.modTank t (Tank.leveled h lv s.tanks[t].agreement) := by
    rw [modTank_modTank]; exact modTank_congr s t rfl
  simp only [takeHead, if_pos (Tank.defined_iff.mpr defined), some, leveled]

theorem Tank.quiet_iff {k : Tank} : k.quiet = true ↔ k.defined = true ∧ k.defn.quietTime ≤ k.quietTimer := by simp [Tank.quiet]

theorem reconcile_unquiet (h : s.tanks[t].quietTimer < s.tanks[t].defn.quietTime) : reconcile t lv s = s := by
  have unquiet : s.tanks[t].quiet = false := by rw [← Bool.not_eq_true, Tank.quiet_iff]; omega
  simp only [reconcile, unquiet]; rfl

/-- The check of a quiet tank: the agreement it gives is written, and a notice tells that DISAGREE is entered or left (R54). -/
theorem reconcile_quiet (defined : s.tanks[t].defined = true) (h : s.tanks[t].defn.quietTime ≤ s.tanks[t].quietTimer) {after : Agreement}
    (gives : checkedAgreement s.tanks[t] lv = after) :
    reconcile t lv s =
      if after = .disagree ∧ s.tanks[t].agreement ≠ .disagree then
        post (.disagree t true ((s.tanks[t].volume : Int) - lv)) (s.modTank t fun k => { k with agreement := after })
      else if after = .agree ∧ s.tanks[t].agreement = .disagree then
        post (.disagree t false ((s.tanks[t].volume : Int) - lv)) (s.modTank t fun k => { k with agreement := after })
      else s.modTank t fun k => { k with agreement := after } := by
  have quiet : s.tanks[t].quiet = true := Tank.quiet_iff.mpr ⟨defined, h⟩
  simp only [reconcile, quiet, if_true, gives, Bool.and_eq_true, beq_iff_eq, bne_iff_ne]

theorem checkedAgreement_agree {k : Tank} (h : ((k.volume : Int) - lv).natAbs ≤ k.defn.tolerance) :
    checkedAgreement k lv = .agree := if_neg h.not_gt

theorem checkedAgreement_disagree {k : Tank} (h : k.defn.tolerance < ((k.volume : Int) - lv).natAbs) :
    checkedAgreement k lv = .disagree := if_pos h

end

/-- Settles O20. -/
theorem newHeadReconcilesOrSeeds : Obligations.NewHeadReconcilesOrSeeds := by
  intro t h s
  refine ⟨takeHead_unconfigured, fun defined empty => takeHead_of_none defined (by rw [empty]; rfl),
    fun nonempty => strapVolume_isSome nonempty h, fun lv defined level put hput => ?_⟩
  have put_eq (a : Agreement) : put a = s.modTank t (Tank.leveled h lv a) := hput a
  have taken := takeHead_of_some defined level
  refine ⟨fun unseeded => ?_, fun seeded => ?_⟩
  · rw [taken, if_neg (by rw [unseeded]; exact Bool.false_ne_true), put_eq]
  · rw [if_pos seeded] at taken
    let u := s.modTank t (Tank.leveled h lv s.tanks[t].agreement)
    have record : u.tanks[t] = s.tanks[t].leveled h lv s.tanks[t].agreement := upd_get_same ..
    have written (a : Agreement) : (u.modTank t fun k => { k with agreement := a }) = put a := by
      rw [put_eq]; exact (modTank_modTank ..).trans (modTank_congr s t rfl)
    refine ⟨fun unquiet => ?_, fun quiet => ?_⟩
    · rw [taken, reconcile_unquiet (by rw [record]; exact unquiet), put_eq]
    · have check {after : Agreement} (gives : checkedAgreement s.tanks[t] lv = after) :=
        reconcile_quiet (s := u) (t := t) (by rw [record]; exact Tank.defined_iff.mpr defined) (by rw [record]; exact quiet)
          (after := after) (lv := lv) (by rw [record]; exact gives)
      simp only [record, Tank.leveled, written] at check
      refine ⟨fun near => ⟨fun agreed => ?_, fun disagreed => ?_⟩, fun far => ⟨fun disagreed => ?_, fun agreed => ?_⟩⟩
      · rw [taken, check (checkedAgreement_agree near), if_neg (by simp), if_neg fun left => agreed left.2]
      · rw [taken, check (checkedAgreement_agree near), if_neg (by simp), if_pos ⟨rfl, disagreed⟩]
      · rw [taken, check (checkedAgreement_disagree far), if_neg fun entered => entered.2 disagreed, if_neg (by simp)]
      · rw [taken, check (checkedAgreement_disagree far), if_pos ⟨rfl, agreed⟩]

/-! ### The count of an edge (R27 to R29) -/

theorem countOf_single {m : Meter} (mode : m.defn.mode = .single) (a b bFirst : Bool) :
    countOf m a b bFirst = if a = true ∧ m.phaseA = false then some true else none := by
  cases a <;> cases ha : m.phaseA <;> simp [countOf, mode, ha]

theorem countOf_quad1 {m : Meter} (mode : m.defn.mode = .quad1) (a b bFirst : Bool) :
    countOf m a b bFirst =
      if a = true ∧ m.phaseA = false then some (if bFirst then !b else !m.phaseB) else none := by
  cases a <;> cases ha : m.phaseA <;> simp [countOf, mode, ha]

theorem countOf_quad4 {m : Meter} (mode : m.defn.mode = .quad4) (a b bFirst : Bool) :
    countOf m a b bFirst =
      if a = m.phaseA then (if b = m.phaseB then none else some (b == m.phaseA))
      else if b = m.phaseB then some (a != m.phaseB) else none := by
  by_cases ha : a = m.phaseA <;> by_cases hb : b = m.phaseB <;> simp [countOf, mode, quadA, quadB, ha, hb]

/-- Unless both phases change at once, the order of the edges does not matter. -/
theorem countOf_order {m : Meter} {a b : Bool} (oneEdge : a = m.phaseA ∨ b = m.phaseB) (x y : Bool) :
    countOf m a b x = countOf m a b y := by
  cases mode : m.defn.mode with
  | single => rw [countOf_single mode, countOf_single mode]
  | quad4 => rw [countOf_quad4 mode, countOf_quad4 mode]
  | quad1 =>
    rw [countOf_quad1 mode, countOf_quad1 mode]
    obtain rfl | rfl := oneEdge
    · cases h : m.phaseA <;> simp
    · simp

theorem Meter.takeLevels_eq {m : Meter} {a b : Bool} (h : phaseError m a b = false) :
    m.takeLevels a b = { m with phaseA := a, phaseB := b } := by simp [Meter.takeLevels, h]

theorem takeEdge_undefined {m : Fin 24} {s : State} (undefined : s.meters[m].defined = false) (a b : Bool) :
    takeEdge m a b s = s.modMeter m fun c => c.takeLevels a b := by
  simp only [takeEdge, edgesRace, undefined, Bool.false_and]; rfl

theorem takeEdge_ordered {m : Fin 24} {s : State} (defined : s.meters[m].defined = true) {a b : Bool}
    (noRace : edgesRace s.meters[m] a b = false) :
    takeEdge m a b s = match countOf s.meters[m] a b true with
      | some forward => takeCount m forward (s.modMeter m fun c => c.takeLevels a b)
      | none => s.modMeter m fun c => c.takeLevels a b := by
  simp only [takeEdge, noRace, defined, if_true, Bool.false_eq_true, if_false] <;> rfl

theorem takeEdge_race {m : Fin 24} {s : State} (defined : s.meters[m].defined = true) {a b : Bool}
    (race : edgesRace s.meters[m] a b = true) {bFirst forward : Bool} (order : ((takeChoice 2 s).1 == 0) = bFirst)
    (counts : countOf s.meters[m] a b bFirst = some forward) :
    takeEdge m a b s = takeCount m forward ((takeChoice 2 s).2.modMeter m fun c => c.takeLevels a b) := by
  simp only [takeEdge, race, defined, if_true, order, counts]

theorem edgesRace_iff {m : Meter} {a b : Bool} : edgesRace m a b = true ↔
    m.defined = true ∧ m.defn.mode = .quad1 ∧ a = true ∧ m.phaseA = false ∧ b ≠ m.phaseB := by
  simp [edgesRace, and_assoc]

theorem phaseError_iff {m : Meter} {a b : Bool} : phaseError m a b = true ↔
    m.defined = true ∧ m.defn.mode = .quad4 ∧ a ≠ m.phaseA ∧ b ≠ m.phaseB := by
  simp [phaseError, and_assoc]

/-! ### The litre a count completes (R30 to R32) -/

theorem takeCount_partial {m : Fin 24} {forward : Bool} {s : State} (h : litreOf s.meters[m] forward = none) :
    takeCount m forward s = s.modMeter m fun c => c.count forward := by simp only [takeCount, h]

theorem takeCount_litre {m : Fin 24} {forward litre : Bool} {s : State} (h : litreOf s.meters[m] forward = some litre) :
    takeCount m forward s = applyLitre m litre (s.modMeter m fun c => (c.count forward).litre litre) := by
  simp only [takeCount, h]

/-- A channel with new phase levels and a residue. -/
def leveledMeter (m : Fin 24) (a b : Bool) (r : Nat) (u : State) : State :=
  u.modMeter m fun c => { c with phaseA := a, phaseB := b, residue := r }

theorem takeCount_forward {m : Fin 24} {a b : Bool} {u : State} :
    takeCount m true (leveledMeter m a b u.meters[m].residue u) =
      if u.meters[m].residue + 1 = u.meters[m].defn.kFactor then
        applyLitre m true ((leveledMeter m a b 0 u).modMeter m fun c =>
          { c with netTotal := c.netTotal + 1, openSlot := c.openSlot + 1 })
      else leveledMeter m a b (u.meters[m].residue + 1) u := by
  have record : (leveledMeter m a b u.meters[m].residue u).meters[m] =
      { u.meters[m] with phaseA := a, phaseB := b } := upd_get_same ..
  split
  · rename_i full
    rw [takeCount_litre (litre := true) (by rw [record]; simp [-Fin.getElem_fin, litreOf, full])]
    refine congrArg _ ?_
    rw [leveledMeter, leveledMeter, modMeter_modMeter, modMeter_modMeter]
    exact modMeter_congr _ _ (by simp [-Fin.getElem_fin, Meter.count, Meter.litre, full, addSign, signOf])
  · rename_i notFull
    rw [takeCount_partial (by rw [record]; simp [-Fin.getElem_fin, litreOf, notFull]), leveledMeter, leveledMeter, modMeter_modMeter]
    exact modMeter_congr _ _ (by simp [-Fin.getElem_fin, Meter.count, notFull])

theorem takeCount_backward {m : Fin 24} {a b : Bool} {u : State} :
    takeCount m false (leveledMeter m a b u.meters[m].residue u) =
      if u.meters[m].residue = 0 then
        applyLitre m false ((leveledMeter m a b (u.meters[m].defn.kFactor - 1) u).modMeter m fun c =>
          { c with netTotal := c.netTotal - 1, openSlot := c.openSlot - 1 })
      else leveledMeter m a b (u.meters[m].residue - 1) u := by
  have record : (leveledMeter m a b u.meters[m].residue u).meters[m] =
      { u.meters[m] with phaseA := a, phaseB := b } := upd_get_same ..
  split
  · rename_i empty
    rw [takeCount_litre (litre := false) (by rw [record]; simp [-Fin.getElem_fin, litreOf, empty])]
    refine congrArg _ ?_
    rw [leveledMeter, leveledMeter, modMeter_modMeter, modMeter_modMeter]
    exact modMeter_congr _ _ (by simp [-Fin.getElem_fin, Meter.count, Meter.litre, empty, addSign, signOf]; rfl)
  · rename_i notEmpty
    rw [takeCount_partial (by rw [record]; simp [-Fin.getElem_fin, litreOf, notEmpty]), leveledMeter, leveledMeter, modMeter_modMeter]
    exact modMeter_congr _ _ (by simp [-Fin.getElem_fin, Meter.count, notEmpty])

theorem takeLevels_leveled {m : Fin 24} {a b : Bool} {s : State} (h : phaseError s.meters[m] a b = false) :
    (s.modMeter m fun c => c.takeLevels a b) = leveledMeter m a b s.meters[m].residue s :=
  modMeter_congr s m (Meter.takeLevels_eq h)

/-- Settles O22: the count by the mode, the edge by its count, and the litre by the residue. -/
theorem meterEdgeCounts : Obligations.MeterEdgeCounts := by
  refine ⟨⟨fun m a b c mode => countOf_single mode a b c, fun m a c mode => ?_, fun m c mode low => ?_, fun m b c mode => ?_,
    fun m c mode => ⟨?_, ?_, ?_, ?_⟩⟩, fun m s defined mode => ?_, fun m a b s put counted hput hcounted => ?_⟩
  · rw [countOf_quad1 mode]; simp
  · rw [countOf_quad1 mode, if_pos ⟨rfl, low⟩, Bool.not_not]
  · cases h : m.defn.mode with
    | single => rw [countOf_single h]; simp
    | quad1 => rw [countOf_quad1 h]; simp
    | quad4 => exact absurd h mode
  · rw [countOf_quad4 mode, if_neg (by simp), if_pos rfl]; cases m.phaseA <;> cases m.phaseB <;> rfl
  · rw [countOf_quad4 mode, if_pos rfl, if_neg (by simp)]; cases m.phaseA <;> cases m.phaseB <;> rfl
  · rw [countOf_quad4 mode, if_pos rfl, if_pos rfl]
  · rw [countOf_quad4 mode, if_neg (by simp), if_neg (by simp)]
  · have noRace : edgesRace s.meters[m] (!s.meters[m].phaseA) (!s.meters[m].phaseB) = false := by
      rw [← Bool.not_eq_true, edgesRace_iff]; rintro ⟨-, quad1, -⟩; rw [mode] at quad1; cases quad1
    have error : phaseError s.meters[m] (!s.meters[m].phaseA) (!s.meters[m].phaseB) = true :=
      phaseError_iff.mpr ⟨defined, mode, by simp, by simp⟩
    change done (takeEdge ..) = _
    rw [takeEdge_ordered defined noRace, countOf_quad4 mode, if_neg (by simp), if_neg (by simp)]
    exact congrArg (fun u => Host.Outcome.next (finish u)) (modMeter_congr s m (by simp only [Meter.takeLevels, error]; rfl))
  · obtain rfl : put = leveledMeter m a b := funext₂ hput
    have counts (forward : Bool) (u : State) : takeCount m forward (leveledMeter m a b u.meters[m].residue u) = counted forward u := by
      obtain ⟨more, full, less, empty⟩ := hcounted u
      cases forward
      · rw [takeCount_backward]; split
        · exact (empty ‹_›).symm
        · exact (less ‹_›).symm
      · rw [takeCount_forward]; split
        · exact (full ‹_›).symm
        · exact (more ‹_›).symm
    have edge : exec (.meterEdge m a b) s = done (takeEdge m a b s) := rfl
    refine ⟨fun undefined => ?_, fun defined oneEdge => ?_, fun defined mode hA hB => ?_⟩
    · have noError : phaseError s.meters[m] a b = false := by
        rw [← Bool.not_eq_true, phaseError_iff]; rintro ⟨defined, -⟩; rw [undefined] at defined; cases defined
      rw [edge, takeEdge_undefined undefined, takeLevels_leveled noError, done]
    · have noRace : edgesRace s.meters[m] a b = false := by
        rw [← Bool.not_eq_true, edgesRace_iff]; rintro ⟨-, -, rfl, low, moved⟩
        exact oneEdge.elim (fun h => by rw [low] at h; cases h) moved
      have noError : phaseError s.meters[m] a b = false := by
        rw [← Bool.not_eq_true, phaseError_iff]; rintro ⟨-, -, movedA, movedB⟩
        exact oneEdge.elim movedA movedB
      have taken := takeEdge_ordered defined noRace
      rw [countOf_order oneEdge true false, takeLevels_leveled noError] at taken
      refine ⟨fun nothing => ?_, fun forward counted => ?_⟩
      · rw [nothing] at taken; rw [edge, taken]; rfl
      · rw [counted] at taken; rw [edge, taken, done]; simp only [counts]
    · have noError : phaseError s.meters[m] a b = false := by
        rw [← Bool.not_eq_true, phaseError_iff]; rintro ⟨-, quad4, -⟩; exact mode quad4
      refine ⟨fun falls => ?_, fun rises single => ?_, fun rises quad1 => ?_⟩
      · have noRace : edgesRace s.meters[m] a b = false := by
          rw [← Bool.not_eq_true, edgesRace_iff]; rintro ⟨-, -, rises, -⟩; rw [falls] at rises; cases rises
        have nothing : countOf s.meters[m] a b true = none := by
          cases h : s.meters[m].defn.mode with
          | single => rw [countOf_single h, if_neg (by simp [falls])]
          | quad1 => rw [countOf_quad1 h, if_neg (by simp [falls])]
          | quad4 => exact absurd h mode
        rw [edge, takeEdge_ordered defined noRace, nothing, takeLevels_leveled noError]; rfl
      · have low : s.meters[m].phaseA = false := by rw [rises] at hA; simpa using hA.symm
        have noRace : edgesRace s.meters[m] a b = false := by
          rw [← Bool.not_eq_true, edgesRace_iff]; rintro ⟨-, quad1, -⟩; rw [single] at quad1; cases quad1
        rw [edge, takeEdge_ordered defined noRace, countOf_single single, if_pos ⟨rises, low⟩, takeLevels_leveled noError, done]
        simp only [counts]
      · have low : s.meters[m].phaseA = false := by rw [rises] at hA; simpa using hA.symm
        have race : edgesRace s.meters[m] a b = true := edgesRace_iff.mpr ⟨defined, quad1, rises, low, by rw [hB]; simp⟩
        have counting := countOf_quad1 quad1 a b ((takeChoice 2 s).1 == 0)
        rw [if_pos ⟨rises, low⟩] at counting
        refine ⟨_, _, counting, ?_⟩
        have levels := takeLevels_leveled (s := (takeChoice 2 s).2) (m := m) (a := a) (b := b) noError
        rw [edge, takeEdge_race defined race rfl counting, levels, counts, done]; rfl

/-! ### Division rounding down (R30) -/

/-- The litre a count completes, as a number. -/
def litreSign (m : Meter) (forward : Bool) : Int := match litreOf m forward with | some l => signOf l | none => 0

theorem count_kFactor (m : Meter) (forward : Bool) : (m.count forward).defn.kFactor = m.defn.kFactor := rfl

/-- One count moves the residue by its sign, less the K-factor for the litre it completes. -/
theorem count_balance {m : Meter} (h : m.residue < m.defn.kFactor) (forward : Bool) :
    (m.count forward).residue < m.defn.kFactor ∧
      ((m.count forward).residue : Int) + m.defn.kFactor * litreSign m forward = m.residue + signOf forward := by
  cases forward
  · by_cases empty : m.residue = 0
    · simp [Meter.count, litreSign, litreOf, empty, signOf]; omega
    · simp [Meter.count, litreSign, litreOf, empty, signOf]; omega
  · by_cases full : m.residue + 1 = m.defn.kFactor
    · simp [Meter.count, litreSign, litreOf, full, signOf]; omega
    · simp [Meter.count, litreSign, litreOf, full, signOf]; omega

/-- A channel and the net of its litres after a list of counts. -/
def countAll (counts : List Bool) (p : Meter × Int) : Meter × Int :=
  counts.foldl (fun p c => (p.1.count c, p.2 + litreSign p.1 c)) p

theorem countAll_balance : ∀ (counts : List Bool) (p : Meter × Int), p.1.residue < p.1.defn.kFactor →
    (countAll counts p).1.residue < p.1.defn.kFactor ∧
      ((countAll counts p).1.residue : Int) + p.1.defn.kFactor * (countAll counts p).2 =
        p.1.residue + p.1.defn.kFactor * p.2 + (counts.map signOf).sum
  | [], p, h => ⟨h, by simp [countAll]⟩
  | c :: counts, p, h => by
    obtain ⟨below, one⟩ := count_balance h c
    obtain ⟨range, rest⟩ := countAll_balance counts (p.1.count c, p.2 + litreSign p.1 c) below
    refine ⟨range, ?_⟩
    rw [show countAll (c :: counts) p = countAll counts (p.1.count c, p.2 + litreSign p.1 c) from rfl, List.map_cons, List.sum_cons]
    rw [count_kFactor] at rest
    linarith [rest, one, mul_add (p.1.defn.kFactor : Int) p.2 (litreSign p.1 c)]

/-- Settles O23, by induction on the list of counts. -/
theorem residueIsDivisionRoundingDown : Obligations.ResidueIsDivisionRoundingDown := by
  intro counts m below final hfinal
  have folded : final = countAll counts (m, 0) := hfinal
  obtain ⟨range, balance⟩ := countAll_balance counts (m, 0) below
  rw [← folded] at range balance
  have same : final.1.defn.kFactor = m.defn.kFactor := by
    rw [folded]
    exact List.foldlRecOn counts _ (motive := fun p : Meter × Int => p.1.defn.kFactor = m.defn.kFactor) rfl fun _ h _ _ => h
  rw [mul_zero, add_zero] at balance
  refine ⟨same ▸ range, balance, fun zero => ?_⟩
  rw [zero, Nat.cast_zero, zero_add] at balance
  have positive : (0 : Int) < m.defn.kFactor := by omega
  obtain ⟨quotient, -⟩ := (Int.ediv_emod_unique positive).mpr ⟨balance, by omega, by exact_mod_cast range⟩
  refine ⟨quotient.symm, ?_⟩
  rw [quotient]; linarith

/-! ### Where a litre goes (R33 to R38) -/

theorem book_eq (t : Fin 12) (into : Bool) (s : State) :
    book t into s = s.modTank t fun k => if into then k.credit else k.debit := rfl

theorem book_out (t : Fin 12) (forward : Bool) (s : State) :
    book t (!forward) s = s.modTank t fun k => if forward then k.debit else k.credit := by cases forward <;> rfl

section
variable {m : Fin 24} {forward : Bool} {s : State}

theorem applyLitre_none (role : s.meters[m].defn.role = .none) : applyLitre m forward s = s := by
  simp only [applyLitre, role]

theorem applyLitre_supply (role : s.meters[m].defn.role = .supply) : applyLitre m forward s = match s.eval.dutyTank with
    | some t => tankChange (book t (!forward) s)
    | none => strayLitre m .supply forward s := by simp only [applyLitre, role] <;> rfl

theorem applyLitre_product {n : Fin 3} (role : s.meters[m].defn.role = .product n) :
    applyLitre m forward s = productLitre n forward s := by simp only [applyLitre, role]

theorem applyLitre_transfer (role : s.meters[m].defn.role = .transfer) : applyLitre m forward s = match s.transfer.run with
    | some r => transferLitre r forward s
    | none => strayLitre m .transfer forward s := by simp only [applyLitre, role] <;> rfl

theorem applyLitre_shore (role : s.meters[m].defn.role = .shore) : applyLitre m forward s = match s.shore.run with
    | some r => shoreLitre r forward s
    | none => strayLitre m .shore forward s := by simp only [applyLitre, role] <;> rfl

theorem applyLitre_line {k : Fin 16} (role : s.meters[m].defn.role = .line k) :
    applyLitre m forward s = if s.lines[k].state = .flowing then lineLitre k forward s else strayLitre m .line forward s := by
  simp only [applyLitre, role, isFlowing, beq_iff_eq]

end

theorem productLitre_producing {n : Fin 3} {t : Fin 12} {s : State} (producing : s.trains[n].state = .producing)
    (target : s.trains[n].target = some t) (forward : Bool) :
    productLitre n forward s = tankChange (book t forward (s.modTrain n fun w =>
      { w with produced := addSign w.produced forward, stall := { w.stall with count := 0 } })) := by
  simp only [productLitre, producing, target]

theorem productLitre_diverted {n : Fin 3} {s : State} (notProducing : s.trains[n].state ≠ .producing) (forward : Bool) :
    productLitre n forward s = s.modTrain n fun w => { w with diverted := addSign w.diverted forward } := by
  unfold productLitre; dsimp only; split
  · exact absurd ‹_› notProducing
  · rfl

theorem lineLitre_of_draw {k : Fin 16} {d : Draw} {s : State} (drawn : s.lines[k].draw = some d) (forward : Bool) :
    lineLitre k forward s =
      if drawCompletes { d with delivered := deliveredAfter d.delivered forward, stall := 0 } forward = true then
        endDraw k .complete (s.modLine k fun l =>
          { l with draw := some { d with delivered := deliveredAfter d.delivered forward, stall := 0 } })
      else s.modLine k fun l => { l with draw := some { d with delivered := deliveredAfter d.delivered forward, stall := 0 } } := by
  have counted : (s.modDraw k fun d => { d with delivered := deliveredAfter d.delivered forward, stall := 0 }) =
      s.modLine k fun l => { l with draw := some { d with delivered := deliveredAfter d.delivered forward, stall := 0 } } :=
    modLine_congr s k (by rw [drawn]; rfl)
  simp only [lineLitre, counted, modLine_lines, upd_get_same]

theorem drawCompletes_iff {d : Draw} {forward : Bool} :
    drawCompletes d forward = true ↔ forward = true ∧ ∃ q, d.requested = some q ∧ q ≤ d.delivered := by
  unfold drawCompletes; cases d.requested <;> simp

theorem strayLitre_again {m : Fin 24} {s : State} (noticed : s.meters[m].strayNoticed = true) (cause : StrayCause) (forward : Bool) :
    strayLitre m cause forward s = { s with strayTotal := addSign s.strayTotal forward } := by
  simp only [strayLitre, if_pos noticed]

theorem strayLitre_first {m : Fin 24} {s : State} (unnoticed : s.meters[m].strayNoticed = false) (cause : StrayCause)
    (forward : Bool) : strayLitre m cause forward s = post (.strayFlow m cause (addSign s.strayTotal forward))
      (({ s with strayTotal := addSign s.strayTotal forward } : State).modMeter m fun c => { c with strayNoticed := true }) := by
  simp only [strayLitre, unnoticed, Bool.false_eq_true, if_false]

/-- Settles O24, role by role. -/
theorem litreGoesToItsRole : Obligations.LitreGoesToItsRole := by
  refine ⟨fun m forward s => ⟨applyLitre_none, fun role => ⟨fun t duty => ?_, fun duty => ?_⟩,
    fun n role => ⟨fun t producing target => ?_, fun notProducing => ?_⟩, fun role => ⟨fun r runs => ?_, fun idle => ?_⟩,
    fun role => ⟨fun r runs => ?_, fun idle => ?_⟩, fun k role notFlowing => ?_,
    fun k d d' role flowing drawn hd' => ⟨fun ahead complete => ?_, fun goesOn => ?_⟩⟩,
    fun m cause forward s total htotal => ⟨fun noticed => ?_, fun unnoticed => ?_⟩⟩
  · rw [applyLitre_supply role, duty]; exact congrArg tankChange (book_out t forward s)
  · rw [applyLitre_supply role, duty]
  · rw [applyLitre_product role, productLitre_producing producing target, book_eq]
  · rw [applyLitre_product role, productLitre_diverted notProducing]
  · rw [applyLitre_transfer role, runs]
  · rw [applyLitre_transfer role, idle]
  · rw [applyLitre_shore role, runs]; rfl
  · rw [applyLitre_shore role, idle]
  · rw [applyLitre_line role, if_neg notFlowing]
  · have written : { d with delivered := deliveredAfter d.delivered forward, stall := 0 } = d' := hd'.symm
    rw [applyLitre_line role, if_pos flowing, lineLitre_of_draw drawn, written, if_pos]
    obtain ⟨q, requested, reached⟩ := complete
    exact drawCompletes_iff.mpr ⟨ahead, q, by rw [hd']; exact requested, reached⟩
  · have written : { d with delivered := deliveredAfter d.delivered forward, stall := 0 } = d' := hd'.symm
    rw [applyLitre_line role, if_pos flowing, lineLitre_of_draw drawn, written, if_neg]
    rw [drawCompletes_iff]
    rintro ⟨ahead, q, requested, reached⟩
    obtain back | short := goesOn
    · rw [ahead] at back; cases back
    · have := short q (by rw [hd'] at requested; exact requested); omega
  · rw [htotal]; exact strayLitre_again noticed cause forward
  · rw [htotal]; exact strayLitre_first unnoticed cause forward

/-! ### DEFINE METER (R39, R40) -/

theorem meterBody_fields (m : Fin 24) (d : MeterDef) :
    u8At (meterBody m d) 0 = m.val ∧ u8At (meterBody m d) 1 = d.mode.code % 256 ∧ u16At (meterBody m d) 2 = d.kFactor % 65536 ∧
      u8At (meterBody m d) 4 = d.role.code.1 % 256 ∧ u8At (meterBody m d) 5 = d.role.code.2 % 256 := by
  simp [meterBody]

theorem meterRoleOf_code (r : MeterRole) : meterRoleOf (r.code.1 % 256) (r.code.2 % 256) = .ok r := by
  cases r <;> simp [MeterRole.code, meterRoleOf]

theorem runDefineMeter_meterBody (m : Fin 24) (d : MeterDef) (s : State) :
    runDefineMeter (meterBody m d) s = defineMeter m (meterBody m d) s := by
  obtain ⟨index, -⟩ := meterBody_fields m d
  simp only [runDefineMeter, index, indexOf_val]

theorem exec_defineMeter_of_run {ln : LinkLine} {tag : Byte} {m : Fin 24} {d : MeterDef} {s : State} {answered : State × Reply}
    (may : MayDefine ln s) (run : defineMeter m (meterBody m d) (takeLine ln s) = answered) :
    exec (.defineMeter ln tag (meterBody m d)) s = .next (answeredBy ln 0x22 tag answered) :=
  configuration_outcome (own := ownDefineMeter) may rfl rfl ((runDefineMeter_meterBody m d _).trans run)

theorem defineMeter_definition {m : Fin 24} {d : MeterDef} {s : State} (low : 1 ≤ d.kFactor) (high : d.kFactor ≤ 1000)
    (free : roleTaken s m d.role = false) (oldIdle : roleBusy s.meters[m].defn.role s = false) (newIdle : roleBusy d.role s = false) :
    defineMeter m (meterBody m d) s = okReply (applyMeterDef m (some d) s) := by
  obtain ⟨-, mode, kFactor, kind, index⟩ := meterBody_fields m d
  rw [Nat.mod_eq_of_lt (by omega)] at kFactor
  simp only [defineMeter, mode, kFactor, kind, index, meterModeOf_code, meterRoleOf_code, if_neg (show ¬ d.kFactor = 0 by omega),
    if_neg (show ¬ 1000 < d.kFactor by omega), meterChecks]
  rw [checked_pass (by rw [free]; rfl), checked_pass (by rw [oldIdle]; rfl), checked_pass (by rw [newIdle]; rfl), checked_nil]

theorem defineMeter_removal {m : Fin 24} {d : MeterDef} {s : State} (removal : d.kFactor = 0)
    (idle : roleBusy s.meters[m].defn.role s = false) :
    defineMeter m (meterBody m d) s = okReply (if s.meters[m].defined then applyMeterDef m none s else s) := by
  obtain ⟨-, -, kFactor, -⟩ := meterBody_fields m d
  rw [removal] at kFactor
  simp only [defineMeter, kFactor, Nat.zero_mod, if_true, removeMeter]
  rw [checked_pass (by rw [idle]; rfl), checked_nil]

theorem roleTaken_iff {s : State} {m : Fin 24} {r : MeterRole} :
    roleTaken s m r = true ↔ r ≠ .none ∧ ∃ j : Fin 24, j ≠ m ∧ s.meters[j].defined = true ∧ s.meters[j].defn.role = r := by
  simp only [roleTaken, allMeters, Bool.and_eq_true, bne_iff_ne, List.any_eq_true, beq_iff_eq, List.mem_finRange, true_and, and_assoc]

/-- The line of a role loses its meter (R40, R81). -/
def roleLost (r : MeterRole) (s : State) : State := match lineOfRole r with
  | some k => setMetered k false s
  | none => s

/-- The line of a role gets its meter (R40, R81). -/
def roleGained (r : MeterRole) (s : State) : State := match lineOfRole r with
  | some k => setMetered k true s
  | none => s

theorem handRoles_eq (old new : MeterRole) (s : State) :
    handRoles old new s = if old = new then s else roleGained new (roleLost old s) := rfl

theorem setMetered_true (k : Fin 16) (s : State) : setMetered k true s = s.modLine k fun l => { l with metered := true, state :=
    if l.defined then (if l.defn.source = .contact ∧ l.asserted = true then .releaseWait else .idle) else .unconfigured } := by
  simp only [setMetered, restState, Bool.true_and, Bool.and_eq_true, beq_iff_eq]

/-- The state of the channels does not depend on the line that asked. -/
theorem roleBusy_takeLine (r : MeterRole) (ln : LinkLine) (s : State) : roleBusy r (takeLine ln s) = roleBusy r s := by
  cases r <;> simp [roleBusy]

/-- Settles O26. -/
theorem defineMeterGivesTheRole : Obligations.DefineMeterGivesTheRole := by
  intro ln tag m d s may idle lose gain hlose hgain
  have meters : (takeLine ln s).meters = s.meters := takeLine_meters ln s
  have lose_eq (u : State) : lose u = roleLost s.meters[m].defn.role u := by
    rw [hlose]; unfold roleLost; cases s.meters[m].defn.role <;> rfl
  have gain_eq (u : State) : gain u = roleGained d.role u := by
    rw [hgain]; unfold roleGained; cases d.role with
    | line k => exact (setMetered_true k u).symm
    | _ => rfl
  have idle' : roleBusy (takeLine ln s).meters[m].defn.role (takeLine ln s) = false := by
    rw [meters, roleBusy_takeLine]; exact idle
  refine ⟨fun low high newIdle free => ?_, fun removal defined => ?_, fun removal undefined => ?_⟩
  · have free' : roleTaken (takeLine ln s) m d.role = false := by
      rw [← Bool.not_eq_true, roleTaken_iff, meters]
      rintro ⟨some, j, other, defined, same⟩
      exact free some j other defined same
    refine exec_defineMeter_of_run may ((defineMeter_definition low high free' idle' (by rw [roleBusy_takeLine]; exact newIdle)).trans ?_)
    simp only [okReply, applyMeterDef, meters, Option.getD_some, handRoles_eq, lose_eq, gain_eq]
  · refine exec_defineMeter_of_run may ((defineMeter_removal removal idle').trans ?_)
    have kept {r : MeterRole} (none : r = .none) (u : State) : roleLost r u = u := by rw [none]; rfl
    simp only [okReply, applyMeterDef, meters, defined, if_true, Option.getD_none, handRoles_eq, lose_eq]
    split
    · rw [kept ‹_›]
    · rfl
  · refine exec_defineMeter_of_run may ((defineMeter_removal removal idle').trans ?_)
    simp only [okReply, meters, undefined, Bool.false_eq_true, if_false]

end Sys2Proof.Machine
end


section
/-!
The frequency inputs: the gate end with its band and fault state (R44, R45), the values and readings handed on (R48, R49, R139 to
R141), and DEFINE FREQUENCY INPUT (R46, R47).
-/

namespace Sys2Proof.Machine

/-! ### The gate end (R44, R45) -/

theorem inBand_iff {f : Nat} : inBand f = true ↔ 900 ≤ f ∧ f ≤ 5100 := by simp [inBand]

theorem inBand_eq_false_iff {f : Nat} : inBand f = false ↔ f < 900 ∨ 5100 < f := by
  rw [← Bool.not_eq_true, inBand_iff]; omega

theorem entersFault_iff {x : FrequencyInput} {f : Nat} :
    entersFault x f = true ↔ x.defined = true ∧ x.fault = .good ∧ inBand f = false ∧ 2 ≤ x.outRun := by
  simp [entersFault, and_assoc]

theorem clearsFault_iff {x : FrequencyInput} {f : Nat} :
    clearsFault x f = true ↔ x.defined = true ∧ x.fault = .fault ∧ inBand f = true ∧ 2 ≤ x.inRun := by
  simp [clearsFault, and_assoc]

theorem FrequencyInput.gate_undefined {x : FrequencyInput} (h : x.defined = false) (f : Nat) :
    x.gate f = { x with lastFrequency := some f } := by simp [FrequencyInput.gate, h]

theorem FrequencyInput.gate_in {x : FrequencyInput} (h : x.defined = true) {f : Nat} (band : inBand f = true) :
    x.gate f = { x with lastFrequency := some f, lastRaw := some (rawOf f) } := by simp [FrequencyInput.gate, h, band]

theorem FrequencyInput.gate_out {x : FrequencyInput} (h : x.defined = true) {f : Nat} (band : inBand f = false) :
    x.gate f = { x with lastFrequency := some f, lastRaw := none } := by simp [FrequencyInput.gate, h, band]

section
variable {i : Fin 16} {f : Nat} {s : State}

/-- The gate's record, then another write of it, as one write. -/
theorem gate_then {g target : FrequencyInput → FrequencyInput} (h : g (s.inputs[i].gate f) = target s.inputs[i]) :
    ((s.modInput i fun x => x.gate f).modInput i g) = s.modInput i target := by
  rw [modInput_modInput]; exact modInput_congr s i h

theorem gateEnd_undefined (undefined : s.inputs[i].defined = false) :
    gateEnd i f s = s.modInput i fun x => { x with lastFrequency := some f } := by
  simp only [gateEnd, undefined, Bool.not_false, if_true]
  exact modInput_congr s i (FrequencyInput.gate_undefined undefined f)

theorem gateEnd_defined (defined : s.inputs[i].defined = true) :
    gateEnd i f s = if entersFault s.inputs[i] f then
        handFaultEntry i (post (.levelFault i true f) ((s.modInput i fun x => x.gate f).modInput i .enterFault))
      else if clearsFault s.inputs[i] f then
        takeValue i (rawOf f) (post (.levelFault i false f) ((s.modInput i fun x => x.gate f).modInput i .clearFault))
      else match s.inputs[i].fault, inBand f with
        | .good, true => takeValue i (rawOf f) ((s.modInput i fun x => x.gate f).modInput i fun x => { x with outRun := 0 })
        | .good, false => (s.modInput i fun x => x.gate f).modInput i fun x => { x with outRun := x.outRun + 1 }
        | .fault, true => handFault i ((s.modInput i fun x => x.gate f).modInput i fun x => { x with inRun := x.inRun + 1 })
        | .fault, false => handFault i ((s.modInput i fun x => x.gate f).modInput i fun x => { x with inRun := 0 }) := by
  simp only [gateEnd, defined, Bool.not_true, Bool.false_eq_true, if_false] <;> rfl

variable (defined : s.inputs[i].defined = true)
include defined

theorem gateEnd_good_in (good : s.inputs[i].fault = .good) (band : inBand f = true) :
    gateEnd i f s = takeValue i (rawOf f) (s.modInput i fun x =>
      { x with lastFrequency := some f, lastRaw := some (rawOf f), outRun := 0 }) := by
  have stays : ¬ entersFault s.inputs[i] f = true := by rw [entersFault_iff, band]; simp
  have noClear : ¬ clearsFault s.inputs[i] f = true := by rw [clearsFault_iff, good]; simp
  rw [gateEnd_defined defined, if_neg stays, if_neg noClear]
  simp only [good, band]
  exact congrArg _ (gate_then (by rw [FrequencyInput.gate_in defined band]))

theorem gateEnd_good_out (good : s.inputs[i].fault = .good) (band : inBand f = false) (few : s.inputs[i].outRun < 2) :
    gateEnd i f s = s.modInput i fun x => { x with lastFrequency := some f, lastRaw := none, outRun := x.outRun + 1 } := by
  have stays : ¬ entersFault s.inputs[i] f = true := by rw [entersFault_iff]; rintro ⟨-, -, -, many⟩; omega
  have noClear : ¬ clearsFault s.inputs[i] f = true := by rw [clearsFault_iff, good]; simp
  rw [gateEnd_defined defined, if_neg stays, if_neg noClear]
  simp only [good, band]
  exact gate_then (by rw [FrequencyInput.gate_out defined band])

theorem gateEnd_fault_in (fault : s.inputs[i].fault = .fault) (band : inBand f = true) (few : s.inputs[i].inRun < 2) :
    gateEnd i f s = handFault i (s.modInput i fun x =>
      { x with lastFrequency := some f, lastRaw := some (rawOf f), inRun := x.inRun + 1 }) := by
  have stays : ¬ entersFault s.inputs[i] f = true := by rw [entersFault_iff, fault]; simp
  have noClear : ¬ clearsFault s.inputs[i] f = true := by rw [clearsFault_iff]; rintro ⟨-, -, -, many⟩; omega
  rw [gateEnd_defined defined, if_neg stays, if_neg noClear]
  simp only [fault, band]
  exact congrArg _ (gate_then (by rw [FrequencyInput.gate_in defined band]))

theorem gateEnd_fault_out (fault : s.inputs[i].fault = .fault) (band : inBand f = false) :
    gateEnd i f s = handFault i (s.modInput i fun x => { x with lastFrequency := some f, lastRaw := none, inRun := 0 }) := by
  have stays : ¬ entersFault s.inputs[i] f = true := by rw [entersFault_iff, fault]; simp
  have noClear : ¬ clearsFault s.inputs[i] f = true := by rw [clearsFault_iff, band]; simp
  rw [gateEnd_defined defined, if_neg stays, if_neg noClear]
  simp only [fault, band]
  exact congrArg _ (gate_then (by rw [FrequencyInput.gate_out defined band]))

theorem gateEnd_enters (good : s.inputs[i].fault = .good) (band : inBand f = false) (many : 2 ≤ s.inputs[i].outRun) :
    gateEnd i f s = handFaultEntry i (post (.levelFault i true f) (s.modInput i fun x =>
      { x with lastFrequency := some f, lastRaw := none, fault := .fault, outRun := 0, inRun := 0, window := [], head := none })) := by
  rw [gateEnd_defined defined, if_pos (entersFault_iff.mpr ⟨defined, good, band, many⟩)]
  exact congrArg (fun u => handFaultEntry i (post (.levelFault i true f) u))
    (gate_then (by rw [FrequencyInput.gate_out defined band]; rfl))

theorem gateEnd_clears (fault : s.inputs[i].fault = .fault) (band : inBand f = true) (many : 2 ≤ s.inputs[i].inRun) :
    gateEnd i f s = takeValue i (rawOf f) (post (.levelFault i false f) (s.modInput i fun x =>
      { x with lastFrequency := some f, lastRaw := some (rawOf f), fault := .good, outRun := 0, inRun := 0 })) := by
  have stays : ¬ entersFault s.inputs[i] f = true := by rw [entersFault_iff, fault]; simp
  rw [gateEnd_defined defined, if_neg stays, if_pos (clearsFault_iff.mpr ⟨defined, fault, band, many⟩)]
  exact congrArg (fun u => takeValue i (rawOf f) (post (.levelFault i false f) u))
    (gate_then (by rw [FrequencyInput.gate_in defined band]; rfl))

end

theorem handFaultEntry_eq {i : Fin 16} {s v : State} (none : s.inputs[i].role = .none → v = s)
    (level : ∀ t, s.inputs[i].role = .level t → v = levelLost t s)
    (salinity : ∀ n, s.inputs[i].role = .salinity n → v = takeReading .fault n s) : handFaultEntry i s = v := by
  cases role : s.inputs[i].role with
  | none => simp only [handFaultEntry, role, none role]
  | level t => simp only [handFaultEntry, role, level t role]
  | salinity n => simp only [handFaultEntry, role, salinity n role]

/-- Settles O28: every gate end by the band and the runs, and the two rows as such gate ends. -/
theorem gateEndReadsTheInput : Obligations.GateEndReadsTheInput := by
  have gate (i : Fin 16) (f : Nat) (s : State) : exec (.frequencyGateEnd i f) s = done (gateEnd i f s) := rfl
  refine ⟨fun i f s => ⟨fun undefined => ?_, fun defined good low high => ?_, fun defined good out few => ?_,
    fun defined fault low high few => ?_, fun defined fault out => ?_⟩,
    fun i f s defined => ⟨fun good out many u hu v none level salinity => ?_, fun fault low high many v hv => ?_⟩⟩
  · rw [gate, gateEnd_undefined undefined, done]
  · rw [gate, gateEnd_good_in defined good (inBand_iff.mpr ⟨low, high⟩)]; rfl
  · rw [gate, gateEnd_good_out defined good (inBand_eq_false_iff.mpr out) few, done]
  · rw [gate, gateEnd_fault_in defined fault (inBand_iff.mpr ⟨low, high⟩) few]; rfl
  · rw [gate, gateEnd_fault_out defined fault (inBand_eq_false_iff.mpr out), done]
  · have band := inBand_eq_false_iff.mpr out
    have role : u.inputs[i].role = s.inputs[i].role := by rw [hu, post_inputs, modInput_inputs, upd_get_same]
    have ended : gateEnd i f s = v := by
      rw [gateEnd_enters defined good band many, ← hu]
      exact handFaultEntry_eq (by rw [role]; exact none) (by rw [role]; exact level) (by rw [role]; exact salinity)
    refine ⟨?_, by rw [gate, ended, done]⟩
    change done (if entersFault s.inputs[i] f then gateEnd i f s else s) = _
    rw [if_pos (entersFault_iff.mpr ⟨defined, good, band, many⟩), ended, done]
  · have band := inBand_iff.mpr ⟨low, high⟩
    have ended : gateEnd i f s = v := by rw [gateEnd_clears defined fault band many, hv]; rfl
    refine ⟨?_, by rw [gate, ended, done]⟩
    change done (if clearsFault s.inputs[i] f then gateEnd i f s else s) = _
    rw [if_pos (clearsFault_iff.mpr ⟨defined, fault, band, many⟩), ended, done]

/-! ### Values and readings (R44, R48, R49, R139 to R141) -/

section
variable {i : Fin 16} {u : Nat} {s : State}

theorem takeValue_none (role : s.inputs[i].role = .none) : takeValue i u s = s := by simp only [takeValue, role]

theorem takeValue_salinity {n : Fin 3} (role : s.inputs[i].role = .salinity n) :
    takeValue i u s = takeReading (.ppm u) n s := by simp only [takeValue, role]

theorem windowWith_short {window : List Nat} (short : window.length < 8) (u : Nat) : windowWith window u = window ++ [u] := by
  rw [windowWith, show window.length + 1 - 8 = 0 by omega, List.drop_zero]

theorem windowWith_full {window : List Nat} (full : window.length = 8) (u : Nat) :
    windowWith window u = window.drop 1 ++ [u] := by
  rw [windowWith, full, List.drop_append_of_le_length (by omega)]

theorem takeValue_level_short {t : Fin 12} (role : s.inputs[i].role = .level t) {window : List Nat}
    (joins : windowWith s.inputs[i].window u = window) (short : window.length ≠ 8) :
    takeValue i u s = s.modInput i fun x => { x with window := window, head := none } := by
  have written : (s.modInput i fun x => { x with window := windowWith x.window u, head := headOf (windowWith x.window u) }) =
      s.modInput i fun x => { x with window := window, head := none } :=
    modInput_congr s i (by simp only [joins, headOf, if_neg short])
  simp only [takeValue, role, written, modInput_inputs, upd_get_same]

theorem takeValue_level_full {t : Fin 12} (role : s.inputs[i].role = .level t) {window : List Nat}
    (joins : windowWith s.inputs[i].window u = window) (full : window.length = 8) :
    takeValue i u s = takeHead t (window.sum / 8) (s.modInput i fun x => { x with window := window, head := some (window.sum / 8) }) := by
  have written : (s.modInput i fun x => { x with window := windowWith x.window u, head := headOf (windowWith x.window u) }) =
      s.modInput i fun x => { x with window := window, head := some (window.sum / 8) } :=
    modInput_congr s i (by simp only [joins, headOf, if_pos full])
  simp only [takeValue, role, written, modInput_inputs, upd_get_same]

end

theorem Salinity.within_iff {r : Salinity} {limit : Nat} : r.within limit = true ↔ ∃ v, r = .ppm v ∧ v ≤ limit := by
  cases r <;> simp [Salinity.within]

section
variable {r : Salinity} {n : Fin 3} {s : State}

theorem takeReading_kept (notDiverting : s.trains[n].state ≠ .diverting)
    (h : s.trains[n].state ≠ .producing ∨ r.within s.trains[n].defn.salinityLimit = true) :
    takeReading r n s = s.modTrain n fun w => { w with reading := r } := by
  simp only [takeReading, modTrain_trains, upd_get_same]; split
  · exact absurd ‹_› notDiverting
  · rw [if_pos (h.resolve_left fun other => other ‹_›)]
  · rfl

theorem takeReading_above (diverting : s.trains[n].state = .diverting)
    (above : r.within s.trains[n].defn.salinityLimit = false) :
    takeReading r n s =
      s.modTrain n fun w => { w with reading := r, qualification := { w.qualification with count := 0 } } := by
  simp only [takeReading, modTrain_trains, upd_get_same, diverting, above, Bool.false_eq_true, if_false, modTrain_modTrain]

theorem takeReading_within (diverting : s.trains[n].state = .diverting)
    (within : r.within s.trains[n].defn.salinityLimit = true) {u : State}
    (hu : u = s.modTrain n fun w =>
      { w with reading := r, qualification := { w.qualification with count := w.qualification.count + 1 } }) :
    takeReading r n s =
      if s.trains[n].qualification.length ≤ s.trains[n].qualification.count + 1 then holdComplete n u else u := by
  subst hu
  simp only [takeReading, modTrain_trains, upd_get_same, diverting, within, if_true, modTrain_modTrain, Timer.expired,
    decide_eq_true_eq]

theorem takeReading_excursion (producing : s.trains[n].state = .producing)
    (above : r.within s.trains[n].defn.salinityLimit = false) :
    takeReading r n s = excursion n (s.modTrain n fun w => { w with reading := r }) := by
  simp only [takeReading, modTrain_trains, upd_get_same, producing, above, Bool.false_eq_true, if_false]

end

/-- A change of a tank and one of a train do not meet. -/
theorem modTank_modTrain (s : State) (t : Fin 12) (n : Fin 3) (f : Train → Train) (g : Tank → Tank) :
    (s.modTrain n f).modTank t g = (s.modTank t g).modTrain n f := rfl

theorem giveUpTarget_of_target {n : Fin 3} {t : Fin 12} {s : State} (target : s.trains[n].target = some t) :
    giveUpTarget n s = (s.modTank t fun k => { k with fillTrains := k.fillTrains.filter (· != n) }).modTrain n fun w =>
      { w with target := none, producingSince := none } := by
  simp only [giveUpTarget, target]

theorem completesHold_iff {s : State} {i : Fin 16} {f : Nat} {n : Fin 3} (role : s.inputs[i].role = .salinity n) :
    completesHold s i f = true ↔ s.inputs[i].defined = true ∧ inBand f = true ∧
      (s.inputs[i].fault = .good ∨ clearsFault s.inputs[i] f = true) ∧ s.trains[n].state = .diverting ∧
      rawOf f ≤ s.trains[n].defn.salinityLimit ∧ s.trains[n].qualification.length ≤ s.trains[n].qualification.count + 1 := by
  simp only [completesHold, role, Bool.and_eq_true, Bool.or_eq_true, beq_iff_eq, decide_eq_true_eq, and_assoc]

/-- A choice of a fill target looks at the tanks and the Evaluator only (R71). -/
theorem selectFill_congr {s u : State} (tanks : u.tanks = s.tanks) (eval : u.eval = s.eval) : selectFill u = selectFill s := by
  have lower : ratioLower u = ratioLower s := by funext a b; simp only [ratioLower, tanks]
  have side : fillSide u = fillSide s := by simp only [fillSide, eval]
  have pool (d : Option Side) (cands : List (Fin 12)) : preferSide u d cands = preferSide s d cands := by
    simp only [preferSide, tanks]
  rw [selectFill, selectFill, lower, side, eval, pool]

/-- The gate end whose reading completes a hold is that hold's end (R140, log 7). -/
theorem exec_qualificationHoldComplete {i : Fin 16} {n : Fin 3} {f : Nat} {s u : State} (defined : s.inputs[i].defined = true)
    (role : s.inputs[i].role = .salinity n) (good : s.inputs[i].fault = .good) (band : inBand f = true)
    (diverting : s.trains[n].state = .diverting)
    (complete : s.trains[n].qualification.length ≤ s.trains[n].qualification.count + 1)
    (within : rawOf f ≤ s.trains[n].defn.salinityLimit)
    (hu : u = (s.modInput i fun x => { x with lastFrequency := some f, lastRaw := some (rawOf f), outRun := 0 }).modTrain n fun w =>
      { w with reading := .ppm (rawOf f), qualification := { w.qualification with count := w.qualification.count + 1 } }) :
    exec (.qualificationHoldComplete i f) s = done (holdComplete n u) := by
  have completes := (completesHold_iff role).mpr ⟨defined, band, .inl good, diverting, within, complete⟩
  have ended : gateEnd i f s = holdComplete n u := by
    rw [gateEnd_good_in defined good band, takeValue_salinity (n := n) (by rw [modInput_inputs, upd_get_same]; exact role)]
    exact (takeReading_within (s := s.modInput i _) diverting (Salinity.within_iff.mpr ⟨_, rfl, within⟩) hu).trans (if_pos complete)
  change done (if completesHold s i f then gateEnd i f s else s) = _
  rw [if_pos completes, ended]

theorem holdComplete_of_some {n : Fin 3} {t : Fin 12} {s : State} (chosen : selectFill s = some t) :
    holdComplete n s = if isAuto (produced n t s) n then stopCheck (produced n t s) else produced n t s := by
  simp only [holdComplete, chosen, enterProducing_eq]

theorem holdComplete_of_none {n : Fin 3} {s : State} (none : selectFill s = none) :
    holdComplete n s = haltTrain n .noTarget s := by simp only [holdComplete, none]

theorem producedAt_eq {n : Fin 3} {t : Fin 12} {u v : State} {now : Word32} (same : u.now = now)
    (hv : v = (u.modTank t fun k => { k with fillTrains := k.fillTrains ++ [n] }).modTrain n fun w =>
      { w with state := .producing, target := some t, producingSince := some now, stage := none, qualification := ⟨0, 0⟩,
               stall := ⟨0, w.defn.productStall⟩ }) : produced n t u = v := by subst same hv; rfl

theorem isAuto_iff {s : State} {n : Fin 3} : isAuto s n = true ↔ s.trains[n].mode = .auto := by rw [isAuto, beq_iff_eq]

/-- A train's mode through the writes of a reading and of an entry to PRODUCING. -/
theorem isAuto_held {s : State} {i : Fin 16} {n : Fin 3} {t : Fin 12} (g : FrequencyInput → FrequencyInput) (k : Tank → Tank)
    (r : Salinity) (q q' : Train → Timer) (p : Option Word32) (z : Train → Timer) :
    isAuto ((((s.modInput i g).modTrain n fun w => { w with reading := r, qualification := q w }).modTank t k).modTrain n fun w =>
      { w with state := .producing, target := some t, producingSince := p, stage := none, qualification := q' w, stall := z w }) n =
      isAuto s n := by
  simp only [isAuto, modTrain_trains, modTank_trains, modInput_trains, upd_get_same]

/-- Settles O29: a value by the role, a reading by the train's state, and the reading that completes a hold. -/
theorem readingsReachTheirOwners : Obligations.ReadingsReachTheirOwners := by
  refine ⟨fun i u s => ⟨takeValue_none, fun n => takeValue_salinity, fun t role => ⟨fun short => ?_, fun seven h hh => ?_,
    fun eight h hh => ?_⟩⟩, fun r n s ok hok => ?_, fun i n f s u defined role good low high diverting within complete hu => ?_⟩
  · rw [takeValue_level_short role (windowWith_short (by omega) u) (by rw [List.length_append, List.length_singleton]; omega)]
    exact modInput_congr s i rfl
  · have summed : (s.inputs[i].window ++ [u]).sum / 8 = h := by rw [hh]; simp
    rw [takeValue_level_full role (windowWith_short (by omega) u) (by rw [List.length_append, seven]; rfl), summed]
    exact congrArg (takeHead t h) (modInput_congr s i rfl)
  · have summed : (s.inputs[i].window.drop 1 ++ [u]).sum / 8 = h := by rw [hh]; simp
    rw [takeValue_level_full role (windowWith_full eight u) (by rw [List.length_append, List.length_drop, eight]; rfl), summed]
    exact congrArg (takeHead t h) (modInput_congr s i rfl)
  · obtain rfl : ok = r.within s.trains[n].defn.salinityLimit := Bool.eq_iff_iff.mpr (hok.trans Salinity.within_iff.symm)
    refine ⟨takeReading_kept, takeReading_above, fun diverting within short => ?_, fun producing above t target => ?_⟩
    · rw [takeReading_within diverting within rfl, if_neg (by omega)]
    · have target' : (s.modTrain n fun w => { w with reading := r }).trains[n].target = some t := by
        rw [modTrain_trains, upd_get_same]; exact target
      rw [takeReading_excursion producing above, excursion, giveUpTarget_of_target target']
      simp only [enterDiverting, modTrain_modTrain, modTank_modTrain]
      rfl
  · have fill : selectFill u = selectFill s := selectFill_congr (by rw [hu]; rfl) (by rw [hu]; rfl)
    have held := exec_qualificationHoldComplete defined role good (inBand_iff.mpr ⟨low, high⟩) diverting complete within hu
    refine ⟨fun t v chosen hv => ?_, fun none => ?_⟩
    · rw [held, holdComplete_of_some (fill.trans chosen), producedAt_eq (by rw [hu]; rfl) hv, done]
      have mode : isAuto v n = isAuto s n := by rw [hv, hu]; exact isAuto_held ..
      rw [mode]
      exact ⟨fun auto => by rw [if_pos (isAuto_iff.mpr auto)], fun other => by rw [if_neg (mt isAuto_iff.mp other)]⟩
    · rw [held, holdComplete_of_none (fill.trans none), done]

/-! ### DEFINE FREQUENCY INPUT (R46, R47) -/

theorem inputBody_fields (i : Fin 16) (role : Option InputRole) :
    u8At (inputBody i role) 0 = i.val ∧ inputRoleOf (u8At (inputBody i role) 1) (u8At (inputBody i role) 2) = .ok role := by
  cases role with
  | none => simp [inputBody, inputRoleOf]
  | some r => cases r <;> simp [inputBody, inputRoleOf, inputRoleCode]

theorem inputRoleTaken_iff {s : State} {i : Fin 16} {r : InputRole} :
    inputRoleTaken s i r = true ↔ r ≠ .none ∧ ∃ j : Fin 16, j ≠ i ∧ s.inputs[j].defined = true ∧ s.inputs[j].role = r := by
  simp only [inputRoleTaken, allInputs, Bool.and_eq_true, bne_iff_ne, List.any_eq_true, beq_iff_eq, List.mem_finRange, true_and,
    and_assoc]

theorem runDefineFrequencyInput_inputBody (i : Fin 16) (role : Option InputRole) (s : State) :
    runDefineFrequencyInput (inputBody i role) s = checked [(!inputRoleTaken s i (role.getD .none), .badValue)] s
      (okReply (if role.isNone && !s.inputs[i].defined then s else applyInputDef i role s)) := by
  obtain ⟨index, named⟩ := inputBody_fields i role
  simp only [runDefineFrequencyInput, index, indexOf_val, defineInput, named]

theorem inputBody_lengthOk (i : Fin 16) (role : Option InputRole) : ownDefineFrequencyInput.lengthOk (inputBody i role) = true := by
  cases role <;> rfl

theorem runDefineFrequencyInput_free {s : State} {i : Fin 16} {role : Option InputRole}
    (free : inputRoleTaken s i (role.getD .none) = false) :
    runDefineFrequencyInput (inputBody i role) s =
      okReply (if role.isNone && !s.inputs[i].defined then s else applyInputDef i role s) := by
  rw [runDefineFrequencyInput_inputBody, checked_pass (by rw [free]; rfl), checked_nil]

/-- The role an input held before is given up when it changes (R47). -/
def roleGivenUp (old new : InputRole) (s : State) : State := if old ≠ new then giveUpInput old s else s

theorem applyInputDef_eq (i : Fin 16) (role : Option InputRole) (s : State) :
    applyInputDef i role s = takeUpInput (s.inputs[i].role != role.getD .none) s.inputs[i].fault (role.getD .none)
      (roleGivenUp s.inputs[i].role (role.getD .none) (s.modInput i fun x => x.define role)) := by
  simp only [applyInputDef, roleGivenUp, bne_iff_ne]

/-- Settles O30. -/
theorem defineFrequencyInputSetsTheRole : Obligations.DefineFrequencyInputSetsTheRole := by
  intro ln tag i role s may free
  have inputs : (takeLine ln s).inputs = s.inputs := takeLine_inputs ln s
  have free' : inputRoleTaken (takeLine ln s) i (role.getD .none) = false := by
    rw [← Bool.not_eq_true, inputRoleTaken_iff, inputs]
    rintro ⟨some, j, other, defined, same⟩
    cases role with
    | none => exact absurd rfl some
    | some r => exact free r rfl some j other defined same
  have answered {answer : State × Reply} (run : okReply (if role.isNone && !s.inputs[i].defined then takeLine ln s
      else applyInputDef i role (takeLine ln s)) = answer) :
      exec (.defineFrequencyInput ln tag (inputBody i role)) s = .next (answeredBy ln 0x23 tag answer) := by
    refine configuration_outcome (own := ownDefineFrequencyInput) may rfl (inputBody_lengthOk i role)
      ((runDefineFrequencyInput_free free').trans ?_)
    rw [inputs]; exact run
  refine ⟨fun none undefined => answered ?_, fun changes u v hu same level salinity => ?_⟩
  · rw [none, undefined]; rfl
  · have applies : ¬ (role.isNone && !s.inputs[i].defined) = true := by
      rw [Bool.and_eq_true, Option.isNone_iff_eq_none, Bool.not_eq_true']
      rintro ⟨none, undefined⟩
      exact changes.elim (fun h => h none) fun h => by rw [undefined] at h; cases h
    rw [if_neg applies, applyInputDef_eq, inputs] at answered
    have hu' : ((takeLine ln s).modInput i fun x => x.define role) = u := by rw [hu]; cases role <;> rfl
    rw [hu'] at answered
    have givenUp : roleGivenUp s.inputs[i].role (role.getD .none) u = v := by
      cases old : s.inputs[i].role with
      | none => rw [same (.inl old)]; exact ite_self u
      | level t =>
        by_cases kept : role = some (.level t)
        · rw [same (.inr (old ▸ kept)), roleGivenUp, kept]; exact if_neg fun h => h rfl
        · rw [level t old kept, roleGivenUp, if_pos]; · rfl
          intro h; cases role <;> simp_all
      | salinity n =>
        by_cases kept : role = some (.salinity n)
        · rw [same (.inr (old ▸ kept)), roleGivenUp, kept]; exact if_neg fun h => h rfl
        · rw [salinity n old kept, roleGivenUp, if_pos]; · rfl
          intro h; cases role <;> simp_all
    rw [givenUp] at answered
    refine ⟨fun none => answered ?_, fun t level => answered ?_, fun n salinity => answered ?_⟩
    · obtain rfl | rfl := none <;> rfl
    · rw [level]; rfl
    · rw [salinity]
      simp only [Option.getD_some, takeUpInput, okReply, Bool.and_eq_true, bne_iff_ne, beq_iff_eq]

end Sys2Proof.Machine
end


section
/-!
The settings of the Supply Evaluator, the groups and the transfer pump: SET SUPPLY BANDS, SET PRODUCTION BANDS, SET BALANCE, SET
SUPPLY FLOOR, DEFINE GROUP and DEFINE TRANSFER PUMP (R64, R73 to R76, R84, R163).
-/

namespace Sys2Proof.Machine

/-! ### Bodies of two-byte numbers -/

theorem flatMap_enc2_length (xs : List Nat) : (xs.flatMap enc2).length = 2 * xs.length := by
  induction xs with
  | nil => rfl
  | cons x xs ih => rw [List.flatMap_cons, List.length_append, ih, enc2_length, List.length_cons]; omega

theorem u16At_flatMap_enc2 : ∀ (xs : List Nat) (rest : List Byte) (i : Nat) (h : i < xs.length),
    u16At (xs.flatMap enc2 ++ rest) (2 * i) = xs[i] % 65536
  | x :: xs, rest, 0, _ => by simp
  | x :: xs, rest, i + 1, h => by
    have later := u16At_flatMap_enc2 xs rest i (by simpa using h)
    rw [List.flatMap_cons, List.append_assoc, show 2 * (i + 1) = 2 * i + 2 by omega, u16At_enc2_succ, later]; rfl

theorem u8At_after_flatMap_enc2 {xs : List Nat} {n : Nat} (length : xs.length = n) (rest : List Byte) (i : Nat) :
    u8At (xs.flatMap enc2 ++ rest) (i + 2 * n) = u8At rest i :=
  u8At_append_right (by rw [flatMap_enc2_length, length]) rest i

theorem bandsOf_flatMap_enc2 {bands : List Nat} {n : Nat} (length : bands.length = n) (small : ∀ x ∈ bands, x < 65536)
    (rest : List Byte) : bandsOf n (bands.flatMap enc2 ++ rest) = bands := by
  apply List.ext_getElem
  · simp [bandsOf, length]
  · intro i hi hj
    simp only [bandsOf, List.getElem_map, List.getElem_range]
    rw [u16At_flatMap_enc2 _ _ _ hj, Nat.mod_eq_of_lt (small _ (List.getElem_mem hj))]

theorem nonIncreasing_iff : ∀ {bands : List Nat}, nonIncreasing bands = true ↔ bands.Pairwise fun a b => b ≤ a
  | [] => by simp [nonIncreasing]
  | [_] => by simp [nonIncreasing]
  | x :: y :: rest => by
    rw [nonIncreasing, Bool.and_eq_true, decide_eq_true_eq, nonIncreasing_iff, List.pairwise_cons (a := x)]
    refine ⟨fun ⟨first, falls⟩ => ⟨fun z mem => ?_, falls⟩, fun ⟨above, falls⟩ => ⟨above y List.mem_cons_self, falls⟩⟩
    obtain rfl | later := List.mem_cons.mp mem
    · exact first
    · exact ((List.pairwise_cons.mp falls).1 z later).trans first

theorem bandsOk_iff {bands : List Nat} {h limit : Nat} :
    bandsOk bands h limit = true ↔ (∀ x ∈ bands, x ≤ 1000) ∧ h ≤ limit ∧ bands.Pairwise fun a b => b ≤ a := by
  simp only [bandsOk, Bool.and_eq_true, List.all_eq_true, decide_eq_true_eq, nonIncreasing_iff, and_assoc]

section
variable {bands : List Nat} {h : Nat} (words : ∀ x ∈ bands, x < 65536) (byte : h < 256)
include words byte

theorem runSetSupplyBands_eq (seven : bands.length = 7) (s : State) : runSetSupplyBands (bands.flatMap enc2 ++ enc1 h) s =
    checked [(bandsOk bands h 100, .badValue)] s (okReply (applySupplyBands bands h s)) := by
  have hysteresis : u8At (bands.flatMap enc2 ++ enc1 h) 14 = h :=
    (u8At_after_flatMap_enc2 seven (enc1 h) 0).trans (by rw [u8At_enc1_last]; exact Nat.mod_eq_of_lt byte)
  rw [runSetSupplyBands, hysteresis, bandsOf_flatMap_enc2 seven words]

theorem runSetProductionBands_eq (three : bands.length = 3) (s : State) : runSetProductionBands (bands.flatMap enc2 ++ enc1 h) s =
    checked [(bandsOk bands h 200, .badValue)] s (okReply (applyProductionBands bands h s)) := by
  have hysteresis : u8At (bands.flatMap enc2 ++ enc1 h) 6 = h :=
    (u8At_after_flatMap_enc2 three (enc1 h) 0).trans (by rw [u8At_enc1_last]; exact Nat.mod_eq_of_lt byte)
  rw [runSetProductionBands, hysteresis, bandsOf_flatMap_enc2 three words]

end

theorem setSupplyBands_lengthOk {bands : List Nat} (seven : bands.length = 7) (h : Nat) :
    ownSetSupplyBands.lengthOk (bands.flatMap enc2 ++ enc1 h) = true := by
  simp only [ownSetSupplyBands, bodyLength, List.length_append, flatMap_enc2_length, seven, enc1_length]; rfl

theorem setProductionBands_lengthOk {bands : List Nat} (three : bands.length = 3) (h : Nat) :
    ownSetProductionBands.lengthOk (bands.flatMap enc2 ++ enc1 h) = true := by
  simp only [ownSetProductionBands, bodyLength, List.length_append, flatMap_enc2_length, three, enc1_length]; rfl

/-! ### Changes of the Evaluator's settings -/

theorem modEval_congr (s : State) {f g : Evaluator → Evaluator} (h : f s.eval = g s.eval) : s.modEval f = s.modEval g := by
  simp only [State.modEval, h]

theorem workOutLevel_same {cause : LevelCause} {s : State} {level : Nat} (h : max s.eval.computed s.eval.floor = level)
    (same : level = s.eval.level) : workOutLevel cause s = s := by
  subst h; exact if_pos same

theorem workOutLevel_moved {cause : LevelCause} {s : State} {level : Nat} (h : max s.eval.computed s.eval.floor = level)
    (moved : level ≠ s.eval.level) : workOutLevel cause s =
      takeLevel level (post (.supplyLevel cause level) (s.modEval fun e => { e with level := level })) := by
  subst h; exact if_neg moved

/-- The computed supply level a ratio gives (R62). -/
def computedLevel (e : Evaluator) : Nat := match e.ratio with
  | none => 7
  | some r => gradedLevel e.settings.supplyBands e.settings.hysteresis e.computed r

/-- The call count a ratio gives (R65). -/
def computedCall (e : Evaluator) : Nat := match e.ratio with
  | none => 0
  | some r => gradedLevel e.settings.productionBands e.settings.productionHysteresis e.callCount r

theorem workOutComputed_eq (cause : LevelCause) (s : State) :
    workOutComputed cause s = workOutLevel cause (s.modEval fun e => { e with computed := computedLevel e }) := rfl

theorem workOutCall_eq (s : State) : workOutCall s = s.modEval fun e => { e with callCount := computedCall e } := rfl

theorem applySupplyBands_eq (bands : List Nat) (h : Nat) (s : State) {computed : Nat}
    (hcomputed : computed = match s.eval.ratio with | none => 7 | some r => gradedLevel bands h s.eval.computed r) :
    applySupplyBands bands h s = workOutLevel .bands (s.modEval fun e =>
      { e with settings := { e.settings with supplyBands := bands, hysteresis := h }, computed := computed }) := by
  have same : computedLevel { s.eval with settings := { s.eval.settings with supplyBands := bands, hysteresis := h } } = computed := by
    rw [hcomputed, computedLevel]
  rw [applySupplyBands, workOutComputed_eq]
  exact congrArg _ (modEval_congr (f := fun e => _) s (by rw [← same]; rfl))

theorem applyProductionBands_eq (bands : List Nat) (h : Nat) (s : State) {call : Nat} {u : State}
    (hcall : call = match s.eval.ratio with | none => 0 | some r => gradedLevel bands h s.eval.callCount r)
    (hu : u = s.modEval fun e =>
      { e with settings := { e.settings with productionBands := bands, productionHysteresis := h }, callCount := call }) :
    applyProductionBands bands h s = if call = s.eval.callCount then u else stopCheck (startCheck u) := by
  have same : computedCall { s.eval with settings := { s.eval.settings with productionBands := bands, productionHysteresis := h } } =
      call := by
    rw [hcall, computedCall]
  have written : workOutCall (s.modEval fun e =>
      { e with settings := { e.settings with productionBands := bands, productionHysteresis := h } }) = u := by
    rw [workOutCall_eq, hu]; exact modEval_congr (f := fun e => _) s (by rw [← same]; rfl)
  have count : u.eval.callCount = call := by rw [hu]; rfl
  rw [applyProductionBands, written, handCall, count]

theorem clamps_eq (lo hi x : Nat) : clamps lo hi x = !(lo ≤ x && x ≤ hi) := rfl

theorem runDefineGroup_eq {g : Fin 6} {given patience : Nat} (byte : given < 256) (word : patience < 65536) (s : State) :
    runDefineGroup (enc1 g.val ++ enc1 given ++ enc2 patience) s =
      checked [(g == 0 || inRange 1 7 given, .badValue)] s (accept (clamps 10 3600 patience)
        (applyGroupDef g (admitLevelFor g s.groups[g].defn.admitLevel given) (clampTo 10 3600 patience) s)) := by
  have index : u8At (enc1 g.val ++ enc1 given ++ enc2 patience) 0 = g.val := by simp
  have level : u8At (enc1 g.val ++ enc1 given ++ enc2 patience) 1 = given := by simp [Nat.mod_eq_of_lt byte]
  have wait : u16At (enc1 g.val ++ enc1 given ++ enc2 patience) 2 = patience := by simp [Nat.mod_eq_of_lt word]
  simp only [runDefineGroup, index, indexOf_val, level, wait]

theorem runDefineTransferPump_eq {power stall : Nat} (byte : power < 256) (word : stall < 65536) (s : State) :
    runDefineTransferPump (enc1 power ++ enc2 stall) s =
      checked [(power ≤ 100, .badValue), (s.transfer.run.isNone, .busy)] s (accept (clamps 10 300 stall)
        { s with transfer := { s.transfer with pump := ⟨power, clampTo 10 300 stall⟩ } }) := by
  have first : u8At (enc1 power ++ enc2 stall) 0 = power := by simp [Nat.mod_eq_of_lt byte]
  have second : u16At (enc1 power ++ enc2 stall) 1 = stall := by simp [Nat.mod_eq_of_lt word]
  simp only [runDefineTransferPump, first, second]

/-- Settles O36, request by request. -/
theorem settingsAreWritten : Obligations.SettingsAreWritten := by
  refine ⟨fun ln tag bands h s may small falls => ⟨fun seven limit computed level u hcomputed hlevel hu => ?_,
    fun three limit call u hcall hu => ?_⟩, fun ln tag band limit period s may bandSmall limitOk periodSmall => ?_,
    fun ln tag n floor level s u control byte hfloor hlevel hu => ?_,
    fun ln tag g given admitted patience s u may byte word hadmitted hu => ⟨fun notG0 bad => ?_, fun good => ?_⟩,
    fun ln tag power stall s may byte word => ⟨fun high => ?_, fun low runs => ?_, fun low idle => ?_⟩⟩
  · have words : ∀ x ∈ bands, x < 65536 := fun x mem => Nat.lt_of_le_of_lt (small x mem) (by decide)
    have run : runSetSupplyBands (bands.flatMap enc2 ++ enc1 h) (takeLine ln s) = okReply (workOutLevel .bands u) := by
      rw [runSetSupplyBands_eq words (by omega) seven, checked_pass (bandsOk_iff.mpr ⟨small, limit, falls⟩), checked_nil,
        applySupplyBands_eq bands h (takeLine ln s) (computed := computed) (by rw [takeLine_eval]; exact hcomputed), hu]
    have figures : max u.eval.computed u.eval.floor = level := by
      simp only [hu, hlevel, modEval_eval, takeLine_eval]
    have held : u.eval.level = s.eval.level := by simp only [hu, modEval_eval, takeLine_eval]
    have length := setSupplyBands_lengthOk seven h
    refine ⟨fun same => ?_, fun moved => ?_⟩
    · rw [workOutLevel_same figures (by rw [held]; exact same)] at run
      exact configuration_outcome (own := ownSetSupplyBands) may rfl length run
    · rw [workOutLevel_moved figures (by rw [held]; exact moved)] at run
      exact configuration_outcome (own := ownSetSupplyBands) may rfl length run
  · have words : ∀ x ∈ bands, x < 65536 := fun x mem => Nat.lt_of_le_of_lt (small x mem) (by decide)
    have run : runSetProductionBands (bands.flatMap enc2 ++ enc1 h) (takeLine ln s) =
        okReply (if call = s.eval.callCount then u else stopCheck (startCheck u)) := by
      rw [runSetProductionBands_eq words (by omega) three, checked_pass (bandsOk_iff.mpr ⟨small, limit, falls⟩),
        checked_nil, applyProductionBands_eq bands h (takeLine ln s) (call := call) (by rw [takeLine_eval]; exact hcall) hu, takeLine_eval]
    have length := setProductionBands_lengthOk three h
    exact configuration_outcome (own := ownSetProductionBands) may rfl length run
  · have fields : u16At (enc2 band ++ enc2 limit ++ enc2 period) 0 = band ∧ u16At (enc2 band ++ enc2 limit ++ enc2 period) 2 = limit ∧
        u16At (enc2 band ++ enc2 limit ++ enc2 period) 4 = period := by
      simp; omega
    obtain ⟨hband, hlimit, hperiod⟩ := fields
    have ok : balanceOk band limit = true := by
      simp only [balanceOk, Bool.and_eq_true, Bool.or_eq_true, decide_eq_true_eq, beq_iff_eq, inRange_eq_true_iff]; omega
    refine configuration_outcome (own := ownSetBalance) may rfl rfl ?_
    change runSetBalance _ _ = _
    rw [runSetBalance, hband, hlimit, hperiod, checked_pass ok, checked_nil, accept, okOr_eq (clamps_eq ..)]; rfl
  · have byte' : u8At (enc1 n) 0 = n := by rw [u8At_enc1_last]; omega
    have worked : applyFloor floor (takeLine ln s) = workOutLevel .floor u := by rw [applyFloor, hu]
    have figures : max u.eval.computed u.eval.floor = level := by
      simp only [hu, hlevel, modEval_eval, takeLine_eval]
    have held : u.eval.level = s.eval.level := by simp only [hu, modEval_eval, takeLine_eval]
    have run : runSetSupplyFloor (enc1 n) (takeLine ln s) =
        (workOutLevel .floor u, ⟨acceptedAs (n ≤ 7), enc1 floor ++ enc1 (workOutLevel .floor u).eval.level⟩) := by
      rw [runSetSupplyFloor, byte', ← hfloor, worked, acceptWith, okOr_eq (unchanged := n ≤ 7) (by simp [← decide_not])]
    refine ⟨fun same => ?_, fun moved => ?_⟩
    · rw [workOutLevel_same figures (by rw [held]; exact same), held, ← same] at run
      exact operation_outcome (own := ownSetSupplyFloor) control rfl rfl run
    · have after : (workOutLevel .floor u).eval.level = level := by
        rw [workOutLevel_moved figures (by rw [held]; exact moved), (takeLevel_besideArbiter level _).eval, post_eval]; rfl
      rw [after, workOutLevel_moved figures (by rw [held]; exact moved)] at run
      exact operation_outcome (own := ownSetSupplyFloor) control rfl rfl run
  · refine configuration_outcome (own := ownDefineGroup) may rfl rfl ((runDefineGroup_eq byte word _).trans ?_)
    refine checked_fail ?_ _ _ _ _
    rw [← Bool.not_eq_true, Bool.or_eq_true, beq_iff_eq, inRange_eq_true_iff]; omega
  · refine configuration_outcome (own := ownDefineGroup) may rfl rfl ((runDefineGroup_eq byte word _).trans ?_)
    have passes : (g == 0 || inRange 1 7 given) = true := by
      rw [Bool.or_eq_true, beq_iff_eq, inRange_eq_true_iff]; exact good
    have level : admitLevelFor g (takeLine ln s).groups[g].defn.admitLevel given = admitted := by
      rw [takeLine_groups, hadmitted]; rfl
    rw [checked_pass passes, checked_nil, level, accept, okOr_eq (clamps_eq ..), applyGroupDef, takeLine_groups, hu]; rfl
  · refine configuration_outcome (own := ownDefineTransferPump) may rfl rfl ((runDefineTransferPump_eq byte word _).trans ?_)
    exact checked_fail (by simpa using high) _ _ _ _
  · refine configuration_outcome (own := ownDefineTransferPump) may rfl rfl ((runDefineTransferPump_eq byte word _).trans ?_)
    rw [checked_pass (by simpa using low), checked_fail]
    · rfl
    · rw [takeLine_transfer, Option.isNone_eq_false_iff, Option.isSome_iff_ne_none]; exact runs
  · refine configuration_outcome (own := ownDefineTransferPump) may rfl rfl ((runDefineTransferPump_eq byte word _).trans ?_)
    rw [checked_pass (by simpa using low), checked_pass (by rw [takeLine_transfer]; simpa using idle), checked_nil, accept,
      okOr_eq (clamps_eq ..), takeLine_transfer]; rfl

end Sys2Proof.Machine
end


section
/-!
DEFINE LINES (R81, R85, R86): the lines and the rotation orders after every line of a set has been defined or removed, and what the
request's body carries.
-/

namespace Sys2Proof.Machine

/-! ### The lines of a set, one after the other (R86) -/

theorem moveGroup_frame (k : Fin 16) (old new : Fin 6) (s : State) :
    moveGroup k old new s = { s with groups := (moveGroup k old new s).groups } := by unfold moveGroup; split <;> rfl

theorem defineLine_frame (d : LineDef) (s : State) (k : Fin 16) : defineLine d s k =
    { s with lines := (defineLine d s k).lines, groups := (defineLine d s k).groups } := by
  by_cases defined : s.lines[k].defined = true
  · rw [defineLine_redefines defined, redefineLine, moveGroup_frame]; rfl
  · rw [defineLine_adds defined]; rfl

theorem removeLine_frame (s : State) (k : Fin 16) : removeLine s k =
    { s with lines := (removeLine s k).lines, groups := (removeLine s k).groups } := by unfold removeLine; split <;> rfl

theorem removeLine_groups (s : State) (k : Fin 16) (g : Fin 6) : (removeLine s k).groups[g] =
    if s.lines[k].defined = true ∧ g = s.lines[k].defn.group then { s.groups[g] with rotation := s.groups[g].rotation.filter (· != k) }
    else s.groups[g] := by
  by_cases defined : s.lines[k].defined = true
  · rw [removeLine_defined defined, modLine_groups, modGroup_groups, upd_get]
    by_cases old : g = s.lines[k].defn.group
    · rw [if_pos old, if_pos ⟨defined, old⟩]; subst g; rfl
    · rw [if_neg old, if_neg fun both => old both.2]
  · rw [removeLine_undefined defined, if_neg fun both => defined both.1]

/-- A line stands defined in a group. -/
def standsIn (s : State) (g : Fin 6) (k : Fin 16) : Bool := s.lines[k].defined && s.lines[k].defn.group == g

theorem standsIn_iff {s : State} {g : Fin 6} {k : Fin 16} :
    standsIn s g k = true ↔ s.lines[k].defined = true ∧ s.lines[k].defn.group = g := by simp [standsIn]

/-- A rotation order without the lines of a list that stand in the group. -/
def withoutListed (s : State) (L : List (Fin 16)) (g : Fin 6) (order : List (Fin 16)) : List (Fin 16) :=
  order.filter fun k => !(decide (k ∈ L) && standsIn s g k)

theorem withoutListed_congr {s u : State} {L : List (Fin 16)} (same : ∀ k ∈ L, u.lines[k] = s.lines[k]) (g : Fin 6)
    (order : List (Fin 16)) : withoutListed u L g order = withoutListed s L g order := by
  refine List.filter_congr fun k _ => ?_
  by_cases mem : k ∈ L
  · rw [standsIn, standsIn, same k mem]
  · rw [decide_eq_false mem]; rfl

theorem withoutListed_nil (s : State) (g : Fin 6) (order : List (Fin 16)) : withoutListed s [] g order = order := by
  simp [withoutListed]

theorem withoutListed_cons (s : State) (k : Fin 16) (L : List (Fin 16)) (g : Fin 6) (order : List (Fin 16)) :
    withoutListed s (k :: L) g order = withoutListed s L g (if standsIn s g k then order.filter (· != k) else order) := by
  unfold withoutListed; split
  · rename_i stands
    rw [List.filter_filter]
    refine List.filter_congr fun j _ => ?_
    by_cases same : j = k
    · subst same; simp [stands]
    · simp [same]
  · rename_i stands
    refine List.filter_congr fun j _ => ?_
    by_cases same : j = k
    · subst same; simp [stands]
    · simp [same]

/-- The lines of a list that do not stand in a group yet. -/
def newcomers (s : State) (g : Fin 6) (L : List (Fin 16)) : List (Fin 16) := L.filter fun k => !standsIn s g k

theorem newcomers_congr {s u : State} {L : List (Fin 16)} (same : ∀ k ∈ L, u.lines[k] = s.lines[k]) (g : Fin 6) :
    newcomers u g L = newcomers s g L :=
  List.filter_congr fun k mem => by rw [standsIn, standsIn, same k mem]

theorem ne_of_mem_tail {k j : Fin 16} {L : List (Fin 16)} (nodup : (k :: L).Nodup) (mem : j ∈ L) : j ≠ k := by
  rintro rfl; exact (List.nodup_cons.mp nodup).1 mem

theorem removeLine_others {s : State} {k : Fin 16} {L : List (Fin 16)} (nodup : (k :: L).Nodup) :
    ∀ j ∈ L, (removeLine s k).lines[j] = s.lines[j] := fun j mem => by
  rw [removeLine_lines, if_neg fun both => ne_of_mem_tail nodup mem both.1]

theorem defineLine_others {d : LineDef} {s : State} {k : Fin 16} {L : List (Fin 16)} (nodup : (k :: L).Nodup) :
    ∀ j ∈ L, (defineLine d s k).lines[j] = s.lines[j] := fun j mem => by
  rw [defineLine_lines, if_neg (ne_of_mem_tail nodup mem)]

theorem foldl_removeLine_lines (j : Fin 16) : ∀ (L : List (Fin 16)) (s : State), L.Nodup → (L.foldl removeLine s).lines[j] =
    if j ∈ L ∧ s.lines[j].defined = true then { s.lines[j] with defined := false, defn := .default, state := .unconfigured }
    else s.lines[j]
  | [], s, _ => by rw [if_neg (by simp)]; rfl
  | k :: L, s, nodup => by
    rw [List.foldl_cons, foldl_removeLine_lines j L _ (List.nodup_cons.mp nodup).2]
    by_cases mem : j ∈ L
    · rw [removeLine_others nodup j mem]; simp only [mem, List.mem_cons, or_true]
    · rw [if_neg fun both => mem both.1, removeLine_lines]
      by_cases same : j = k
      · subst same; simp only [List.mem_cons, true_or]
      · rw [if_neg fun both => same both.1, if_neg fun both => (List.mem_cons.mp both.1).elim same mem]

theorem foldl_removeLine_groups (g : Fin 6) : ∀ (L : List (Fin 16)) (s : State), L.Nodup → (L.foldl removeLine s).groups[g] =
    { s.groups[g] with rotation := withoutListed s L g s.groups[g].rotation }
  | [], s, _ => by rw [withoutListed_nil]; rfl
  | k :: L, s, nodup => by
    rw [List.foldl_cons, foldl_removeLine_groups g L _ (List.nodup_cons.mp nodup).2,
      withoutListed_congr (removeLine_others nodup), withoutListed_cons, removeLine_groups]
    by_cases stands : s.lines[k].defined = true ∧ g = s.lines[k].defn.group
    · rw [if_pos stands, if_pos (standsIn_iff.mpr ⟨stands.1, stands.2.symm⟩)]
    · rw [if_neg stands, if_neg fun h => stands ⟨(standsIn_iff.mp h).1, (standsIn_iff.mp h).2.symm⟩]

theorem foldl_defineLine_lines (d : LineDef) (j : Fin 16) : ∀ (L : List (Fin 16)) (s : State), L.Nodup →
    (L.foldl (defineLine d) s).lines[j] = if j ∈ L then s.lines[j].define d else s.lines[j]
  | [], s, _ => by rw [if_neg (by simp)]; rfl
  | k :: L, s, nodup => by
    rw [List.foldl_cons, foldl_defineLine_lines d j L _ (List.nodup_cons.mp nodup).2]
    by_cases mem : j ∈ L
    · rw [if_pos mem, defineLine_others nodup j mem, if_pos (List.mem_cons_of_mem k mem)]
    · rw [if_neg mem, defineLine_lines]
      by_cases same : j = k
      · subst same; rw [if_pos rfl, if_pos List.mem_cons_self]
      · rw [if_neg same, if_neg (by simp [same, mem])]

/-- After a definition of every line of a list, the lines that changed group or are new stand at the bottom of the group's order,
and each other order has lost those that stood in it (R86). -/
theorem foldl_defineLine_groups (d : LineDef) (g : Fin 6) : ∀ (L : List (Fin 16)) (s : State), L.Nodup →
    (L.foldl (defineLine d) s).groups[g] = { s.groups[g] with
      rotation := if g = d.group then s.groups[g].rotation ++ newcomers s g L else withoutListed s L g s.groups[g].rotation }
  | [], s, _ => by rw [withoutListed_nil, newcomers, List.filter_nil, List.append_nil, ite_self]; rfl
  | k :: L, s, nodup => by
    rw [List.foldl_cons, foldl_defineLine_groups d g L _ (List.nodup_cons.mp nodup).2,
      withoutListed_congr (defineLine_others nodup), newcomers_congr (defineLine_others nodup), withoutListed_cons, defineLine_groups]
    by_cases new : g = d.group
    · subst new
      simp only [if_true]
      by_cases stands : s.lines[k].defined = true ∧ s.lines[k].defn.group = d.group
      · rw [if_pos stands, newcomers, newcomers, List.filter_cons_of_neg (by simp [standsIn_iff.mpr stands])]
      · rw [if_neg stands, newcomers, newcomers, List.filter_cons_of_pos (by rw [Bool.not_eq_true', ← Bool.not_eq_true, standsIn_iff]; exact stands)]
        simp only [List.append_assoc, List.singleton_append]
    · simp only [if_neg new]
      by_cases old : s.lines[k].defined = true ∧ g = s.lines[k].defn.group
      · have apart : ¬ (s.lines[k].defined = true ∧ s.lines[k].defn.group = d.group) := fun both => new (old.2.trans both.2)
        rw [if_neg apart, if_pos old, if_pos (standsIn_iff.mpr ⟨old.1, old.2.symm⟩)]
      · rw [if_neg old, ite_self, if_neg fun h => old ⟨(standsIn_iff.mp h).1, (standsIn_iff.mp h).2.symm⟩]

theorem foldl_frame {op : State → Fin 16 → State}
    (frame : ∀ s k, op s k = { s with lines := (op s k).lines, groups := (op s k).groups }) :
    ∀ (L : List (Fin 16)) (s : State), L.foldl op s = { s with lines := (L.foldl op s).lines, groups := (L.foldl op s).groups }
  | [], _ => rfl
  | k :: L, s => by
    have first := frame s k
    have rest := foldl_frame frame L (op s k)
    rw [List.foldl_cons]
    generalize op s k = u at first rest ⊢
    generalize L.foldl op u = t at rest ⊢
    exact rest.trans (by rw [first])

/-! ### The body of a DEFINE LINES (R85, R184) -/

/-- What a body of DEFINE LINES holds after the line indices. -/
def lineDefBytes (d : LineDef) : List Byte :=
  enc1 d.group.val ++ enc1 d.flow ++ enc2 d.defaultBatch ++ enc2 d.maxBatch ++ enc2 d.maxDuration ++ enc2 d.stallTime
    ++ enc1 d.source.code.1 ++ enc1 d.source.code.2

theorem linesBody_eq (ks : List (Fin 16)) (d : LineDef) :
    linesBody ks d = enc1 ks.length ++ (ks.flatMap fun k => enc1 k.val) ++ lineDefBytes d := by
  simp only [linesBody, lineDefBytes, List.append_assoc]

theorem flatMap_enc1_length (ks : List (Fin 16)) : (ks.flatMap fun k => enc1 k.val).length = ks.length := by
  induction ks with
  | nil => rfl
  | cons k ks ih => rw [List.flatMap_cons, List.length_append, ih, enc1_length, List.length_cons]; omega

theorem u8At_flatMap_enc1 : ∀ (ks : List (Fin 16)) (rest : List Byte) (i : Nat) (h : i < ks.length),
    u8At ((ks.flatMap fun k => enc1 k.val) ++ rest) i = ks[i].val
  | k :: ks, rest, 0, _ => by simp
  | k :: ks, rest, i + 1, h => by
    have later := u8At_flatMap_enc1 ks rest i (by simpa using h)
    rw [List.flatMap_cons, List.append_assoc, u8At_enc1_succ, later]; rfl

section
variable {ks : List (Fin 16)} {d : LineDef} (short : ks.length < 256)
include short

theorem linesBody_count : u8At (linesBody ks d) 0 = ks.length := by
  simp [linesBody, Nat.mod_eq_of_lt short]

theorem listedLines_linesBody : listedLines (linesBody ks d) = ks.map (·.val) := by
  apply List.ext_getElem
  · simp [listedLines, linesBody_count short]
  · intro i hi hj
    have inRange : i < ks.length := by simpa using hj
    simp only [listedLines, List.getElem_map, List.getElem_range]
    rw [linesBody_eq, List.append_assoc, Nat.add_comm 1 i, u8At_enc1_succ, u8At_flatMap_enc1 _ _ _ inRange]

theorem lineSet_linesBody : lineSet (linesBody ks d) = allLines.filter fun k => decide (k ∈ ks) := by
  rw [lineSet, listedLines_linesBody short]
  refine List.filter_congr fun k _ => ?_
  rw [Bool.eq_iff_iff, List.contains_iff_mem, decide_eq_true_eq, List.mem_map]
  exact ⟨fun ⟨j, mem, same⟩ => Fin.ext same ▸ mem, fun mem => ⟨k, mem, rfl⟩⟩

end

theorem linesBody_u8At (ks : List (Fin 16)) (d : LineDef) (i : Nat) :
    u8At (linesBody ks d) (1 + ks.length + i) = u8At (lineDefBytes d) i := by
  rw [linesBody_eq, Nat.add_comm (1 + ks.length) i]
  exact u8At_append_right (by rw [List.length_append, flatMap_enc1_length, enc1_length]) _ i

theorem linesBody_u16At (ks : List (Fin 16)) (d : LineDef) (i : Nat) :
    u16At (linesBody ks d) (1 + ks.length + i) = u16At (lineDefBytes d) i := by
  rw [linesBody_eq, Nat.add_comm (1 + ks.length) i]
  exact u16At_append_right (by rw [List.length_append, flatMap_enc1_length, enc1_length]) _ i

theorem lineDefBytes_fields (d : LineDef) :
    u8At (lineDefBytes d) 0 = d.group.val ∧ u8At (lineDefBytes d) 1 = d.flow % 256 ∧
      u16At (lineDefBytes d) 2 = d.defaultBatch % 65536 ∧ u16At (lineDefBytes d) 4 = d.maxBatch % 65536 ∧
      u16At (lineDefBytes d) 6 = d.maxDuration % 65536 ∧ u16At (lineDefBytes d) 8 = d.stallTime % 65536 ∧
      u8At (lineDefBytes d) 10 = d.source.code.1 % 256 ∧ u8At (lineDefBytes d) 11 = d.source.code.2 % 256 := by
  simp [lineDefBytes]

theorem sourceOf_code (src : Source) : sourceOf (src.code.1 % 256) (src.code.2 % 256) = .ok src := by
  cases src <;> simp [Source.code, sourceOf]

/-- The max batch and the default batch of a definition lie in their ranges (R85). -/
def LineDef.batchesOk (d : LineDef) : Bool := inRange 1 20000 d.maxBatch && inRange 1 d.maxBatch d.defaultBatch

theorem LineDef.batchesOk_iff {d : LineDef} :
    d.batchesOk = true ↔ 1 ≤ d.defaultBatch ∧ d.defaultBatch ≤ d.maxBatch ∧ d.maxBatch ≤ 20000 := by
  rw [LineDef.batchesOk, Bool.and_eq_true, inRange_eq_true_iff, inRange_eq_true_iff]; omega

/-- The definition that a body built from one carries, its time fields clamped (R85). -/
def LineDef.carried (d : LineDef) : LineDef :=
  { d with flow := d.flow % 256, maxDuration := max 10 (min 7200 (d.maxDuration % 65536))
           stallTime := max 10 (min 300 (d.stallTime % 65536)) }

theorem LineDef.carried_eq {d : LineDef} (flow : d.flow < 256) (duration : d.maxDuration < 65536) (stall : d.stallTime < 65536) :
    d.carried = { d with maxDuration := max 10 (min 7200 d.maxDuration), stallTime := max 10 (min 300 d.stallTime) } := by
  rw [LineDef.carried, Nat.mod_eq_of_lt flow, Nat.mod_eq_of_lt duration, Nat.mod_eq_of_lt stall]

theorem lineDefOf_linesBody (ks : List (Fin 16)) {d : LineDef} (default : d.defaultBatch < 65536) (max : d.maxBatch < 65536) :
    lineDefOf (linesBody ks d) (1 + ks.length) = if d.batchesOk then .ok d.carried else .error .badValue := by
  obtain ⟨hgroup, hflow, hdefault, hmax, hduration, hstall, hkind, htrain⟩ := lineDefBytes_fields d
  rw [Nat.mod_eq_of_lt (by omega)] at hdefault hmax
  have group := linesBody_u8At ks d 0
  rw [Nat.add_zero] at group
  simp only [lineDefOf, group, linesBody_u8At, linesBody_u16At, hgroup, hflow, hdefault, hmax, hduration, hstall, hkind, htrain,
    indexOf_val, sourceOf_code, clampTo, LineDef.batchesOk, LineDef.carried]
  rfl

/-! ### The request (R85) -/

theorem linesFree_iff {s : State} {ks : List (Fin 16)} : linesFree s ks = true ↔ ∀ k ∈ ks, s.lines[k].state.holdsDraw = false := by
  simp only [linesFree, List.all_eq_true]
  refine forall₂_congr fun k _ => ?_
  cases s.lines[k].state <;> decide

theorem exec_defineLines_of_run {ln : LinkLine} {tag : Byte} {ks : List (Fin 16)} {d : LineDef} {s : State} {answered : State × Reply}
    (may : MayDefine ln s) (short : ks.length < 256) (run : runDefineLines (linesBody ks d) (takeLine ln s) = answered) :
    exec (.defineLines ln tag (linesBody ks d)) s = .next (answeredBy ln 0x24 tag answered) := by
  refine configuration_outcome (own := ownDefineLines) may rfl ?_ run
  rw [defineLines_lengthOk]
  refine ⟨BitVec.ofNat 8 ks.length, (ks.flatMap fun k => enc1 k.val) ++ lineDefBytes d, linesBody_eq ks d, ?_⟩
  rw [List.length_append, flatMap_enc1_length, BitVec.toNat_ofNat, Nat.mod_eq_of_lt short, Nat.add_comm]; rfl

theorem runDefineLines_linesBody {ks : List (Fin 16)} {d : LineDef} (nonempty : ks ≠ []) (short : ks.length < 256) (s : State) :
    runDefineLines (linesBody ks d) s =
      if d.flow % 256 = 0 then checked [(linesFree s (allLines.filter fun k => decide (k ∈ ks)), .busy)] s
        (okReply ((allLines.filter fun k => decide (k ∈ ks)).foldl removeLine s))
      else if 200 < d.flow % 256 then refuse .badValue s
      else defineLineSet (allLines.filter fun k => decide (k ∈ ks)) (linesBody ks d) (1 + ks.length) s := by
  obtain ⟨-, hflow, -⟩ := lineDefBytes_fields d
  have some : ¬ ks.length = 0 := by simpa using nonempty
  have inRange : ((ks.map (·.val)).any fun k => decide (15 < k)) = false := by
    rw [List.any_eq_false]
    intro x mem
    obtain ⟨k, -, rfl⟩ := List.mem_map.mp mem
    rw [decide_eq_true_eq]; omega
  simp only [runDefineLines, linesBody_count short, if_neg some, listedLines_linesBody short, inRange, Bool.false_eq_true, if_false,
    lineSet_linesBody short, linesBody_u8At, hflow]

theorem mem_setOf {ks : List (Fin 16)} {k : Fin 16} : k ∈ (allLines.filter fun k => decide (k ∈ ks)) ↔ k ∈ ks := by
  simp [allLines]

theorem setOf_nodup (ks : List (Fin 16)) : (allLines.filter fun k => decide (k ∈ ks)).Nodup := (List.nodup_finRange 16).filter _

theorem length_eq_one_of_nodup {α : Type} {k : α} : ∀ {L : List α}, L.Nodup → L ≠ [] → (∀ j ∈ L, j = k) → L.length = 1
  | [], _, nonempty, _ => absurd rfl nonempty
  | [_], _, _, _ => rfl
  | x :: y :: rest, nodup, _, same => by
    have xk := same x List.mem_cons_self
    have yk := same y (List.mem_cons_of_mem x List.mem_cons_self)
    exact absurd (List.mem_cons.mpr (.inl (xk.trans yk.symm))) (List.nodup_cons.mp nodup).1

theorem eq_of_mem_of_length_eq_one {α : Type} {k : α} : ∀ {L : List α}, L.length = 1 → k ∈ L → ∀ j ∈ L, j = k
  | [_], _, mem, _, memj => (List.mem_singleton.mp memj).trans (List.mem_singleton.mp mem).symm

/-- A set of one line, for a flush source (R85). -/
theorem setOf_length_eq_one_iff {ks : List (Fin 16)} (nonempty : ks ≠ []) :
    (allLines.filter fun k => decide (k ∈ ks)).length = 1 ↔ ∃ k, ∀ j ∈ ks, j = k := by
  obtain ⟨i, mem⟩ := List.exists_mem_of_ne_nil ks nonempty
  refine ⟨fun one => ⟨i, fun j listed => ?_⟩, fun ⟨k, single⟩ => ?_⟩
  · exact eq_of_mem_of_length_eq_one one (mem_setOf.mpr mem) j (mem_setOf.mpr listed)
  · exact length_eq_one_of_nodup (setOf_nodup ks) (List.ne_nil_of_mem (mem_setOf.mpr mem)) fun j mem => single j (mem_setOf.mp mem)

theorem flushSourceOk_iff {s : State} {ks : List (Fin 16)} {src : Source} (nonempty : ks ≠ []) :
    flushSourceOk s (allLines.filter fun k => decide (k ∈ ks)) src = true ↔ ∀ n, src = .flush n → (∃ k, ∀ j ∈ ks, j = k) ∧
      ∀ j : Fin 16, j ∉ ks → s.lines[j].defined = true → s.lines[j].defn.source ≠ .flush n := by
  cases src with
  | contact => simp [flushSourceOk]
  | message => simp [flushSourceOk]
  | flush n =>
    simp only [flushSourceOk, Bool.and_eq_true, beq_iff_eq, setOf_length_eq_one_iff nonempty, List.all_eq_true, Bool.or_eq_true,
      List.contains_iff_mem, mem_setOf, Bool.not_eq_true', bne_iff_ne, Source.flush.injEq, forall_eq']
    refine and_congr_right fun _ => forall_congr' fun j => ?_
    have every : j ∈ allLines := List.mem_finRange j
    rw [← Bool.not_eq_true]
    tauto

/-- The record of a line under a new definition (R81, R86). -/
theorem DrawLine.define_record (d : LineDef) (l : DrawLine) : l.define d = { l with
    defined := true
    defn := d
    state :=
      if l.defined = true then
        (if l.state = .idle ∧ d.source = .contact ∧ l.asserted = true then .releaseWait
         else if l.state = .releaseWait ∧ d.source ≠ .contact then .idle else l.state)
      else if l.metered = true then (if d.source = .contact ∧ l.asserted = true then .releaseWait else .idle)
      else .unconfigured } := by
  unfold DrawLine.define
  by_cases defined : l.defined = true
  · simp only [defined, if_true, redefinedState, Bool.and_eq_true, beq_iff_eq, bne_iff_ne, and_assoc]
  · simp only [defined, Bool.false_eq_true, if_false, restState, Bool.and_eq_true, beq_iff_eq]

/-- Settles O38. -/
theorem defineLinesWritesTheSet : Obligations.DefineLinesWritesTheSet := by
  intro ln tag ks d s may nonempty short
  have lines : (takeLine ln s).lines = s.lines := takeLine_lines ln s
  have groups : (takeLine ln s).groups = s.groups := takeLine_groups ln s
  have ran := runDefineLines_linesBody (d := d) nonempty short (takeLine ln s)
  refine ⟨fun held removal => ?_, fun free => ⟨fun removal => ?_, fun flow flowHigh low batch high duration stall flush => ?_⟩⟩
  · obtain ⟨k, mem, holds⟩ := held
    have busy : linesFree (takeLine ln s) (allLines.filter fun k => decide (k ∈ ks)) = false := by
      rw [← Bool.not_eq_true, linesFree_iff, lines]
      intro h; rw [h k (mem_setOf.mpr mem)] at holds; cases holds
    rw [removal, Nat.zero_mod, if_pos rfl, checked_fail busy] at ran
    exact exec_defineLines_of_run may short ran
  all_goals
    have free' : linesFree (takeLine ln s) (allLines.filter fun k => decide (k ∈ ks)) = true := by
      rw [linesFree_iff, lines]; exact fun k mem => free k (mem_setOf.mp mem)
  · rw [removal, Nat.zero_mod, if_pos rfl, checked_pass free', checked_nil] at ran
    refine ⟨_, exec_defineLines_of_run may short ran, fun k => ?_, fun g => ?_, foldl_frame removeLine_frame _ _⟩
    · rw [foldl_removeLine_lines k _ _ (setOf_nodup ks), lines]
      simp only [mem_setOf]
    · rw [foldl_removeLine_groups g _ _ (setOf_nodup ks), groups]
      refine congrArg (Group.mk _) (List.filter_congr fun k _ => ?_)
      rw [standsIn, lines]
      simp only [mem_setOf, Bool.decide_and, Bool.decide_eq_true, beq_eq_decide]
  · let d' : LineDef := { d with maxDuration := max 10 (min 7200 d.maxDuration), stallTime := max 10 (min 300 d.stallTime) }
    let L := allLines.filter fun k => decide (k ∈ ks)
    have run : runDefineLines (linesBody ks d) (takeLine ln s) =
        (L.foldl (defineLine d') (takeLine ln s),
          ⟨acceptedAs (10 ≤ d.maxDuration && d.maxDuration ≤ 7200 && 10 ≤ d.stallTime && d.stallTime ≤ 300), []⟩) := by
      obtain ⟨-, -, -, -, hduration, hstall, -⟩ := lineDefBytes_fields d
      rw [Nat.mod_eq_of_lt (by omega)] at hduration hstall
      rw [ran, Nat.mod_eq_of_lt (show d.flow < 256 by omega), if_neg (by omega), if_neg (by omega), defineLineSet,
        lineDefOf_linesBody ks (by omega) (by omega), if_pos (LineDef.batchesOk_iff.mpr ⟨low, batch, high⟩),
        LineDef.carried_eq (by omega) duration stall]
      dsimp only
      rw [checked_pass ((flushSourceOk_iff nonempty).mpr (by rw [lines]; exact flush)), checked_pass free', checked_nil, accept,
        linesBody_u16At, linesBody_u16At, hduration, hstall,
        okOr_eq (unchanged := 10 ≤ d.maxDuration && d.maxDuration ≤ 7200 && 10 ≤ d.stallTime && d.stallTime ≤ 300)
          (by rw [clamps_eq, clamps_eq, ← Bool.not_and, Bool.and_assoc (_ && _)])]
    have written (k : Fin 16) : (L.foldl (defineLine d') (takeLine ln s)).lines[k] =
        if k ∈ ks then s.lines[k].define d' else s.lines[k] := by
      rw [foldl_defineLine_lines d' k L _ (setOf_nodup ks), lines]; simp only [L, mem_setOf]
    refine ⟨_, exec_defineLines_of_run may short run, fun k other => ?_, fun k mem => ?_, fun g other => ?_, ?_,
      foldl_frame (defineLine_frame d') _ _⟩
    · rw [written, if_neg other]
    · rw [written, if_pos mem, DrawLine.define_record]
    · rw [foldl_defineLine_groups d' g L _ (setOf_nodup ks), groups, if_neg other]
      refine congrArg (Group.mk _) (List.filter_congr fun k _ => ?_)
      rw [standsIn, lines]
      simp only [L, mem_setOf, Bool.decide_and, Bool.decide_eq_true, beq_eq_decide]
    · rw [foldl_defineLine_groups d' d.group L _ (setOf_nodup ks), groups, if_pos rfl]
      refine congrArg (fun r => Group.mk _ (_ ++ r)) ?_
      rw [newcomers, List.filter_filter]
      refine List.filter_congr fun k _ => ?_
      rw [standsIn, lines]
      simp only [Bool.decide_and, Bool.decide_eq_true, beq_eq_decide, decide_not]
      rw [Bool.and_comm]

end Sys2Proof.Machine
end


section
/-!
The requests to the Draw Arbiter and the ends of draws: DRAW, the contacts, CANCEL DRAW and END DRAW (R88, R89, R108 to R111, R118), MASK
LINES, SET ROTATION, ARBITER MODE, DISPATCH and RESET LINE (R94, R95, R100, R101, R112), and the ageing of a draw (R114).
-/

namespace Sys2Proof.Machine

/-! ### DRAW and CANCEL DRAW (R89, R109, R111) -/

theorem runDraw_eq {litres : Nat} (word : litres < 65536) (k : Fin 16) (s : State) :
    runDraw (enc1 k.val ++ enc2 litres) s = drawLine k litres s := by
  have index : u8At (enc1 k.val ++ enc2 litres) 0 = k.val := by simp
  have amount : u16At (enc1 k.val ++ enc2 litres) 1 = litres := by simp [Nat.mod_eq_of_lt word]
  simp only [runDraw, index, indexOf_val, amount]

theorem runCancelDraw_eq (k : Fin 16) (s : State) : runCancelDraw (enc1 k.val) s = cancelDraw k s := by
  simp only [runCancelDraw, u8At_enc1_last, line_byte, indexOf_val]

theorem runEndDraw_eq (k : Fin 16) (s : State) : runEndDraw (enc1 k.val) s = endSpecific k s := by
  have specific : ¬ k.val = 0xFF := by omega
  simp only [runEndDraw, u8At_enc1_last, line_byte, indexOf_val, if_neg specific]

theorem isFlushSource_iff {src : Source} : isFlushSource src = true ↔ ∃ n, src = .flush n := by
  cases src <;> simp [isFlushSource]

section
variable {k : Fin 16} {s : State}

theorem drawLine_flush (litres : Nat) {n : Fin 3} (defined : s.lines[k].defined = true) (flush : s.lines[k].defn.source = .flush n) :
    drawLine k litres s = refuse .badValue s := by
  refine checked_fail ?_ _ _ _ _
  rw [defined, isFlushSource_iff.mpr ⟨n, flush⟩]; rfl

theorem drawLine_notFlush (litres : Nat) (notFlush : ∀ n, ¬(s.lines[k].defined = true ∧ s.lines[k].defn.source = .flush n)) :
    drawLine k litres s = checked [(s.lines[k].state == .idle, .wrongState)] s
      (acceptWith (s.lines[k].defn.maxBatch < litres) (enc1 k.val ++ enc2 ((drawRequest s.lines[k].defn litres).getD 0))
        (register k (drawRequest s.lines[k].defn litres) .message s)) := by
  refine checked_pass ?_ _ _ _ _
  rw [Bool.not_eq_true', ← Bool.not_eq_true, Bool.and_eq_true, isFlushSource_iff]
  rintro ⟨defined, n, flush⟩
  exact notFlush n ⟨defined, flush⟩

theorem deliveredOf_of_draw {d : Draw} (drawn : s.lines[k].draw = some d) : deliveredOf s k = d.delivered := by
  simp only [deliveredOf, drawn, Option.map_some, Option.getD_some]

theorem cancelDraw_pending {d : Draw} (pending : s.lines[k].state = .pending) (drawn : s.lines[k].draw = some d) :
    cancelDraw k s =
      (grantPass (handToTrain (some d.origin) (flushEnded .cancelled d.delivered) (withdraw k s)), ⟨.ok, enc2 d.delivered⟩) := by
  simp only [cancelDraw, pending, cancelPending, drawn, deliveredOf_of_draw drawn]; rfl

theorem cancelDraw_inService {d : Draw} (serves : s.lines[k].state = .flowing ∨ s.lines[k].state = .suspended)
    (drawn : s.lines[k].draw = some d) : cancelDraw k s = (endDraw k .cancelled s, ⟨.ok, enc2 d.delivered⟩) := by
  obtain flowing | suspended := serves
  · simp only [cancelDraw, flowing, deliveredOf_of_draw drawn]; rfl
  · simp only [cancelDraw, suspended, deliveredOf_of_draw drawn]; rfl

theorem cancelDraw_refused (notFlowing : s.lines[k].state ≠ .flowing) (notSuspended : s.lines[k].state ≠ .suspended)
    (notPending : s.lines[k].state ≠ .pending) : cancelDraw k s = refuse .wrongState s := by
  unfold cancelDraw; split
  · exact absurd ‹_› notPending
  · exact absurd ‹_› notFlowing
  · exact absurd ‹_› notSuspended
  all_goals rfl

theorem endByHost_of_draw {d : Draw} (drawn : s.lines[k].draw = some d) :
    endByHost k s = (endDraw k .ended s, ⟨.ok, enc1 k.val ++ enc2 d.delivered⟩) := by
  rw [endByHost, deliveredOf_of_draw drawn]; rfl

theorem endSpecific_inService (serves : s.lines[k].state = .flowing ∨ s.lines[k].state = .suspended) :
    endSpecific k s = endByHost k s := by
  obtain flowing | suspended := serves
  · simp only [endSpecific, flowing]
  · simp only [endSpecific, suspended]

theorem endSpecific_refused (notFlowing : s.lines[k].state ≠ .flowing) (notSuspended : s.lines[k].state ≠ .suspended) :
    endSpecific k s = refuse .wrongState s := by
  unfold endSpecific; split
  · exact absurd ‹_› notFlowing
  · exact absurd ‹_› notSuspended
  all_goals rfl

end

/-! ### Contacts (R87, R88) -/

section
variable {k : Fin 16} {s : State}

theorem exec_contactAssertion_due (due : .contactAssertion k ∈ s.due) (closed : s.lines[k].contactClosed = true)
    (released : s.lines[k].asserted = false) :
    exec (.contactAssertion k) s = done (contactAsserted k (took (.contactAssertion k) s)) := by
  change done (takeDue _ _ _ s) = _
  rw [takeDue_taken _ due (by rw [closed, released]; rfl)]

theorem exec_contactRelease_due (due : .contactRelease k ∈ s.due) (opened : s.lines[k].contactClosed = false)
    (asserted : s.lines[k].asserted = true) :
    exec (.contactRelease k) s = done (contactReleased k (took (.contactRelease k) s)) := by
  change done (takeDue _ _ _ s) = _
  rw [takeDue_taken _ due (by rw [opened, asserted]; rfl)]

theorem contactAsserted_eq {u : State} (hu : u = s.modLine k fun l => { l with asserted := true }) :
    contactAsserted k s =
      if s.lines[k].defined = true ∧ s.lines[k].defn.source = .contact ∧ s.lines[k].state = .idle then
        register k (some s.lines[k].defn.defaultBatch) .contact u
      else u := by
  subst hu
  simp only [contactAsserted, modLine_lines, upd_get_same, Bool.and_eq_true, beq_iff_eq, and_assoc]

theorem contactReleased_eq {u : State} (hu : u = s.modLine k fun l => { l with asserted := false }) :
    contactReleased k s =
      if s.lines[k].defined = true ∧ s.lines[k].defn.source = .contact then
        if s.lines[k].state = .pending ∧ s.lines[k].draw.map (·.origin) = some .contact then grantPass (withdraw k u)
        else if s.lines[k].state = .releaseWait then u.modLine k fun l => { l with state := .idle }
        else u
      else u := by
  subst hu
  simp only [contactReleased, drawOrigin, modLine_lines, upd_get_same, Bool.and_eq_true, beq_iff_eq]

end

/-- Settles O39. -/
theorem drawsAreRegisteredAndWithdrawn : Obligations.DrawsAreRegisteredAndWithdrawn := by
  intro k s enter leave henter hleave
  have entered (q : Option Nat) (o : Source) (u : State) : register k q o u = grantPass (refreshPending (enter q o u)) := by
    rw [henter]; rfl
  have left (u : State) : withdraw k u = leave u := (hleave u).symm
  refine ⟨fun ln tag litres control word => ⟨fun notFlush idle => ?_, fun n defined flush => ?_, fun notFlush notIdle => ?_⟩,
    fun ln tag d control pending drawn => ⟨fun notFlush => ?_, fun n flush => ?_⟩,
    fun due closed released u hu => ⟨fun defined contact idle => ?_, fun other => ?_⟩,
    fun due opened asserted u hu => ⟨fun other => ?_, fun defined contact => ⟨fun d pending drawn origin => ?_, fun waits => ?_,
      fun notWaiting other => ?_⟩⟩⟩
  · have accepted : drawLine k litres (takeLine ln s) = acceptWith (s.lines[k].defn.maxBatch < litres)
        (enc1 k.val ++ enc2 ((drawRequest s.lines[k].defn litres).getD 0))
        (register k (drawRequest s.lines[k].defn litres) .message (takeLine ln s)) := by
      rw [drawLine_notFlush litres (by rw [takeLine_lines]; exact notFlush), takeLine_lines, checked_pass (by rw [idle]; rfl),
        checked_nil]
    refine ⟨fun zero => ?_, fun positive => ?_⟩
    · refine operation_outcome (own := ownDraw) control rfl rfl ((runDraw_eq word k _).trans (accepted.trans ?_))
      rw [zero, drawRequest, if_pos rfl, entered]; rfl
    · refine operation_outcome (own := ownDraw) control rfl rfl ((runDraw_eq word k _).trans (accepted.trans ?_))
      rw [drawRequest, if_neg (by omega), entered, acceptWith, Option.getD_some,
        okOr_eq (unchanged := litres ≤ s.lines[k].defn.maxBatch) (by simp [← decide_not])]
  · exact operation_outcome (own := ownDraw) control rfl rfl ((runDraw_eq word k _).trans
      (drawLine_flush litres (by rw [takeLine_lines]; exact defined) (by rw [takeLine_lines]; exact flush)))
  · refine operation_outcome (own := ownDraw) control rfl rfl ((runDraw_eq word k _).trans
      ((drawLine_notFlush litres (by rw [takeLine_lines]; exact notFlush)).trans (checked_fail ?_ _ _ _ _)))
    rw [takeLine_lines, beq_eq_false_iff_ne]; exact notIdle
  · refine operation_outcome (own := ownCancelDraw) control rfl rfl ((runCancelDraw_eq k _).trans
      ((cancelDraw_pending (by rw [takeLine_lines]; exact pending) (by rw [takeLine_lines]; exact drawn)).trans ?_))
    rw [left]
    cases origin : d.origin with
    | contact | message => rfl
    | flush n => exact absurd origin (notFlush n)
  · refine operation_outcome (own := ownCancelDraw) control rfl rfl ((runCancelDraw_eq k _).trans
      ((cancelDraw_pending (by rw [takeLine_lines]; exact pending) (by rw [takeLine_lines]; exact drawn)).trans ?_))
    rw [left, flush]; rfl
  · rw [exec_contactAssertion_due due closed released, contactAsserted_eq hu, took_lines, if_pos ⟨defined, contact, idle⟩, entered, done]
  · rw [exec_contactAssertion_due due closed released, contactAsserted_eq hu, took_lines, if_neg other, done]
  · rw [exec_contactRelease_due due opened asserted, contactReleased_eq hu, took_lines, if_neg other, done]
  · rw [exec_contactRelease_due due opened asserted, contactReleased_eq hu, took_lines, if_pos ⟨defined, contact⟩,
      if_pos ⟨pending, by rw [drawn, Option.map_some, origin]⟩, left, done]
  · rw [exec_contactRelease_due due opened asserted, contactReleased_eq hu, took_lines, if_pos ⟨defined, contact⟩,
      if_neg (by rw [waits]; simp), if_pos waits, done]
  · have stays : ¬ (s.lines[k].state = .pending ∧ s.lines[k].draw.map (·.origin) = some .contact) := by
      rintro ⟨pending, origin⟩
      obtain ⟨d, drawn, origin⟩ := Option.map_eq_some_iff.mp origin
      exact other pending d drawn origin
    rw [exec_contactRelease_due due opened asserted, contactReleased_eq hu, took_lines, if_pos ⟨defined, contact⟩, if_neg stays,
      if_neg notWaiting, done]

/-! ### The rank of a draw (R92, R110) -/

theorem groups_before {g g' : Fin 6} {before after : List (Fin 6)} (split : allGroups = before ++ g :: after) (less : g' < g) :
    g' ∈ before := by
  have ascending : allGroups.Pairwise (· < ·) := (List.sortedLT_finRange 6).pairwise
  have mem : g' ∈ allGroups := List.mem_finRange g'
  rw [split] at ascending mem
  obtain ⟨-, later, -⟩ := List.pairwise_append.mp ascending
  obtain early | rfl | late := by simpa only [List.mem_append, List.mem_cons] using mem
  · exact early
  · exact absurd less (lt_irrefl _)
  · exact absurd less (lt_asymm ((List.pairwise_cons.mp later).1 g' late))

theorem idxOf_le_of_find? {L : List (Fin 16)} {p : Fin 16 → Bool} {x k : Fin 16} (found : L.find? p = some x) (mem : k ∈ L)
    (holds : p k = true) : L.idxOf x ≤ L.idxOf k := by
  obtain ⟨_, before, after, rfl, early⟩ := List.find?_eq_some_iff_append.mp found
  have first : k ∉ before := fun h => by simpa [holds] using early k h
  have x_first : x ∉ before := fun h => by
    have := early x h; simp_all
  rw [List.idxOf_append_of_notMem first, List.idxOf_append_of_notMem x_first, List.idxOf_cons_self]
  omega

/-- The first in rank order of which a property holds: of the lowest group, and in it the earliest to join. -/
theorem rankOrder_find? {s : State} {p : Fin 16 → Bool} {x k : Fin 16} (found : (rankOrder s).find? p = some x)
    (mem : k ∈ s.arb.inService) (holds : p k = true) :
    groupOf s x < groupOf s k ∨ groupOf s x = groupOf s k ∧ s.arb.inService.idxOf x ≤ s.arb.inService.idxOf k := by
  rw [rankOrder, List.find?_flatMap] at found
  obtain ⟨before, g, after, split, here, early⟩ := List.findSome?_eq_some_iff.mp found
  have group : groupOf s x = g := by
    obtain ⟨-, inGroup⟩ := List.mem_filter.mp (List.mem_of_find?_eq_some here)
    exact beq_iff_eq.mp inGroup
  have notEarlier : ¬ groupOf s k < g := fun less => by
    have none := early _ (groups_before split less)
    rw [List.find?_eq_none] at none
    exact none k (List.mem_filter.mpr ⟨mem, beq_self_eq_true _⟩) holds
  obtain less | same | greater := lt_trichotomy g (groupOf s k)
  · exact .inl (group ▸ less)
  · rw [List.find?_filter] at here
    exact .inr ⟨group.trans same, idxOf_le_of_find? here mem (by simp [same, holds])⟩
  · exact absurd greater notEarlier

theorem openMessageDraw_iff {s : State} {k : Fin 16} : openMessageDraw s k = true ↔
    ∃ d, s.lines[k].draw = some d ∧ d.requested = none ∧ d.origin = .message := by
  unfold openMessageDraw; split
  · rename_i d drawn; simp [-Fin.getElem_fin, drawn]
  · rename_i drawn; simp [-Fin.getElem_fin, drawn]

theorem endNonSpecific_none {s : State} (none : ∀ k ∈ s.arb.inService, openMessageDraw s k = false) :
    endNonSpecific s = (s, ⟨.none, []⟩) := by
  have notFound : (rankOrder s).find? (openMessageDraw s) = Option.none :=
    List.find?_eq_none.mpr fun k mem => by rw [none k (mem_rankOrder.mp mem)]; exact Bool.false_ne_true
  simp only [endNonSpecific, notFound]

theorem endNonSpecific_first {s : State} {k : Fin 16} (mem : k ∈ s.arb.inService) (opened : openMessageDraw s k = true)
    (first : ∀ j ∈ s.arb.inService, openMessageDraw s j = true → j ≠ k →
      groupOf s k < groupOf s j ∨ groupOf s k = groupOf s j ∧ s.arb.inService.idxOf k < s.arb.inService.idxOf j) :
    endNonSpecific s = endByHost k s := by
  obtain ⟨x, found⟩ : ∃ x, (rankOrder s).find? (openMessageDraw s) = some x := by
    rw [← Option.isSome_iff_exists, List.find?_isSome]; exact ⟨k, mem_rankOrder.mpr mem, opened⟩
  have same : x = k := by
    by_contra other
    have ranked := first x (mem_rankOrder.mp (List.mem_of_find?_eq_some found)) (List.find?_some found) other
    have least := rankOrder_find? found mem opened
    omega
  simp only [endNonSpecific, found, same]

/-- Settles O40. -/
theorem drawsEndByTheirCauses : Obligations.DrawsEndByTheirCauses := by
  refine ⟨fun ln tag k s control => ⟨fun d serves drawn => ⟨?_, ?_⟩, fun notFlowing notSuspended => ⟨?_, fun notPending => ?_⟩⟩,
    fun ln tag s reached control hreached => ⟨fun none => ?_, fun k d reach drawn first => ?_⟩,
    fun k d s flowing drawn => ⟨fun due long => ?_, fun due long => ?_⟩,
    fun s g due held expired => ⟨fun down => ?_, fun up => ?_⟩⟩
  · exact operation_outcome (own := ownCancelDraw) control rfl rfl ((runCancelDraw_eq k _).trans
      (cancelDraw_inService (by rw [takeLine_lines]; exact serves) (by rw [takeLine_lines]; exact drawn)))
  · exact operation_outcome (own := ownEndDraw) control rfl rfl ((runEndDraw_eq k _).trans
      ((endSpecific_inService (by rw [takeLine_lines]; exact serves)).trans (endByHost_of_draw (by rw [takeLine_lines]; exact drawn))))
  · exact operation_outcome (own := ownEndDraw) control rfl rfl ((runEndDraw_eq k _).trans
      (endSpecific_refused (by rw [takeLine_lines]; exact notFlowing) (by rw [takeLine_lines]; exact notSuspended)))
  · exact operation_outcome (own := ownCancelDraw) control rfl rfl ((runCancelDraw_eq k _).trans
      (cancelDraw_refused (by rw [takeLine_lines]; exact notFlowing) (by rw [takeLine_lines]; exact notSuspended)
        (by rw [takeLine_lines]; exact notPending)))
  · refine operation_outcome (own := ownEndDraw) control rfl rfl (endNonSpecific_none fun k mem => ?_)
    rw [takeLine_arb] at mem
    rw [← Bool.not_eq_true, openMessageDraw_iff, takeLine_lines]
    exact fun opened => none k ((hreached k).mpr ⟨mem, opened⟩)
  · obtain ⟨mem, opened⟩ := (hreached k).mp reach
    refine operation_outcome (own := ownEndDraw) control rfl rfl
      ((endNonSpecific_first (by rw [takeLine_arb]; exact mem) (by rw [openMessageDraw_iff, takeLine_lines]; exact opened)
        fun j listed openedJ other => ?_).trans (endByHost_of_draw (by rw [takeLine_lines]; exact drawn)))
    rw [takeLine_arb] at listed ⊢
    rw [openMessageDraw_iff, takeLine_lines] at openedJ
    rw [groupOf, groupOf, takeLine_lines]
    exact first j ((hreached j).mpr ⟨listed, openedJ⟩) other
  · have still : timedOutNow k s = true := by
      rw [timedOutNow, isFlowing, flowing, drawn]; simpa using long
    exact congrArg done (takeDue_taken (endDraw k .timedOut) due still)
  · have still : stalledNow k s = true := by
      rw [stalledNow, isFlowing, flowing, drawn]; simpa using long
    exact congrArg done (takeDue_taken (endDraw k .stalled) due still)
  · have still : s.arb.hold.any Timer.expired = true := by rw [held]; simpa [Timer.expired] using expired
    refine (congrArg done (takeDue_taken holdExpires due still)).trans ?_
    rw [holdExpires, took_arb, down]; rfl
  · have still : s.arb.hold.any Timer.expired = true := by rw [held]; simpa [Timer.expired] using expired
    refine (congrArg done (takeDue_taken holdExpires due still)).trans ?_
    rw [holdExpires, took_arb, up]; rfl

/-! ### MASK LINES, SET ROTATION, ARBITER MODE, DISPATCH and RESET LINE (R94, R95, R100, R101, R112) -/

theorem mem_maskedSet {word : Nat} {k : Fin 16} : k ∈ maskedSet word ↔ word.testBit k.val = true := by
  simp [maskedSet, allLines, List.mem_finRange]

theorem maskedSet_isEmpty {word : Nat} (small : word < 65536) : (maskedSet word).isEmpty = true ↔ word = 0 := by
  rw [List.isEmpty_iff, List.eq_nil_iff_forall_not_mem]
  refine ⟨fun empty => Nat.zero_of_testBit_eq_false fun i => ?_, fun zero k => by rw [mem_maskedSet, zero, Nat.zero_testBit]; simp⟩
  by_cases low : i < 16
  · exact Bool.eq_false_iff.mpr fun set => empty ⟨i, low⟩ (mem_maskedSet.mpr set)
  · exact Nat.testBit_lt_two_pow (lt_of_lt_of_le small (Nat.pow_le_pow_right (n := 2) (i := 16) (by omega) (by omega)))

theorem runMaskLines_eq {word : Nat} (small : word < 65536) (on : Bool) (s : State) :
    runMaskLines (enc2 word ++ encFlag on) s = checked [(!(maskedSet word).isEmpty, .badValue)] s (okReply (applyMask (maskedSet word) on s)) := by
  have lines : u16At (enc2 word ++ encFlag on) 0 = word := by simp [Nat.mod_eq_of_lt small]
  have setting : settingOf (u8At (enc2 word ++ encFlag on) 2) = some on := by cases on <;> simp [encFlag, settingOf]
  simp only [runMaskLines, lines, setting]

/-- The lines with their mask set, a line of the set taking the new one. -/
def maskedBy (word : Nat) (on : Bool) (lines : Vector DrawLine 16) : Vector DrawLine 16 :=
  updAll lines fun k l => if (maskedSet word).contains k then { l with masked := on } else l

theorem maskedBy_get (word : Nat) (on : Bool) (lines : Vector DrawLine 16) (k : Fin 16) :
    (maskedBy word on lines)[k] = if word.testBit k.val = true then { lines[k] with masked := on } else lines[k] := by
  rw [maskedBy, updAll_get]
  simp only [List.contains_iff_mem, mem_maskedSet]

theorem applyMask_same {word : Nat} {on : Bool} {s : State} (same : ∀ k : Fin 16, word.testBit k.val = true → s.lines[k].masked = on) :
    applyMask (maskedSet word) on s = { s with lines := maskedBy word on s.lines } := by
  refine if_neg ?_
  rw [List.any_eq_true]
  rintro ⟨k, mem, other⟩
  exact (bne_iff_ne.mp other) (same k (mem_maskedSet.mp mem))

theorem applyMask_changed {word : Nat} {on : Bool} {s : State} (changed : ∃ k : Fin 16, word.testBit k.val = true ∧ s.lines[k].masked ≠ on) :
    applyMask (maskedSet word) on s = grantPass { s with lines := maskedBy word on s.lines } := by
  obtain ⟨k, mem, other⟩ := changed
  exact if_pos (List.any_eq_true.mpr ⟨k, mem_maskedSet.mpr mem, by rw [bne_iff_ne]; exact other⟩)

theorem turnTo_split {k : Fin 16} {above below : List (Fin 16)} (first : k ∉ above) :
    turnTo k (above ++ k :: below) = below ++ above ++ [k] := by
  have place : (above ++ k :: below).idxOf k = above.length := by
    rw [List.idxOf_append_of_notMem first, List.idxOf_cons_self, Nat.add_zero]
  have cut : above ++ k :: below = (above ++ [k]) ++ below := by simp
  rw [turnTo, place, cut, List.drop_left' (by simp), List.take_left' (by simp), List.append_assoc]

theorem runSetRotation_eq (k : Fin 16) (s : State) : runSetRotation (enc1 k.val) s = checked [(s.lines[k].defined, .notConfigured)] s
    (okReply (refreshPending (s.modGroup (groupOf s k) fun g => { g with rotation := turnTo k g.rotation }))) := by
  simp only [runSetRotation, u8At_enc1_last, line_byte, indexOf_val]

theorem runResetLine_eq (k : Fin 16) (s : State) : runResetLine (enc1 k.val) s = checked [(s.lines[k].state == .fault, .wrongState)] s
    (acceptWith false (enc1 (restState s.lines[k]).code) (s.modLine k fun l => { l with state := restState l })) := by
  simp only [runResetLine, u8At_enc1_last, line_byte, indexOf_val]

theorem runArbiterMode_eq (mode : ArbiterMode) (s : State) :
    runArbiterMode (enc1 mode.code) s = okReply (applyMode mode s) := by
  simp only [runArbiterMode, u8At_enc1_last, arbiterModeOf_code]

/-- The lines DISPATCH looks for (R101). -/
def mayDispatch (s : State) (k : Fin 16) : Bool := groupOf s k != 0 && !s.lines[k].masked && levelAdmits s k

theorem mayDispatch_iff {s : State} {k : Fin 16} : mayDispatch s k = true ↔ s.lines[k].defn.group ≠ 0 ∧ s.lines[k].masked = false ∧
    s.arb.levelHeld ≤ s.groups[s.lines[k].defn.group].defn.admitLevel := by
  rw [mayDispatch, levelAdmits, Bool.and_eq_true, Bool.and_eq_true, bne_iff_ne, Bool.not_eq_true', Bool.or_eq_true, beq_iff_eq,
    decide_eq_true_eq]
  change (_ ∧ _) ∧ (s.lines[k].defn.group = 0 ∨ _) ↔ s.lines[k].defn.group ≠ 0 ∧ _
  tauto

theorem mayDispatch_takeLine (ln : LinkLine) (s : State) (k : Fin 16) : mayDispatch (takeLine ln s) k = mayDispatch s k := by
  simp only [mayDispatch, groupOf, levelAdmits, takeLine_lines, takeLine_arb, takeLine_groups]
  rfl

theorem fits_takeLine_iff {ln : LinkLine} {s : State} {k : Fin 16} : fits (takeLine ln s) k = true ↔
    s.arb.inService.length < 8 ∧ s.lines[k].defn.flow ≤ s.arb.capacityHeld - flowingFlow s := by
  have flows : flowOf (takeLine ln s) = flowOf s := by funext j; rw [flowOf, takeLine_lines]; rfl
  have flowing : isFlowing (takeLine ln s) = isFlowing s := by funext j; rw [isFlowing, takeLine_lines]; rfl
  rw [fits_iff, freeCapacity, flowingFlow, flowSum, flows, flowing, takeLine_arb]; rfl

theorem runDispatch_auto {s : State} (auto : s.arb.mode = .auto) : runDispatch [] s = refuse .wrongState s := by
  simp only [runDispatch, auto, reduceCtorEq, if_false]

theorem runDispatch_none {s : State} (manual : s.arb.mode = .manual) (none : ∀ k ∈ s.arb.pendingList, ¬ mayDispatch s k = true) :
    runDispatch [] s = (s, ⟨.none, []⟩) := by
  have found : dispatchLine s = Option.none := List.find?_eq_none.mpr none
  rw [runDispatch, if_pos manual, dispatchOne, found]

theorem runDispatch_first {s : State} {k : Fin 16} {before after : List (Fin 16)} (manual : s.arb.mode = .manual)
    (split : s.arb.pendingList = before ++ k :: after) (early : ∀ j ∈ before, ¬ mayDispatch s j = true) (may : mayDispatch s k = true) :
    runDispatch [] s = if fits s k = true then (grant k s, ⟨.ok, enc1 k.val⟩) else (s, ⟨.none, []⟩) := by
  have found : dispatchLine s = some k :=
    List.find?_eq_some_iff_append.mpr ⟨may, before, after, split, fun j mem => by rw [Bool.not_eq_true', ← Bool.not_eq_true]; exact early j mem⟩
  rw [runDispatch, if_pos manual, dispatchOne, found]; rfl

/-! ### The ageing of a draw (R114) -/

theorem ageDraw_of_draw {k : Fin 16} {d : Draw} {s : State} (drawn : s.lines[k].draw = some d) :
    ageDraw k s = post (.aged k s.lines[k].defn.group d.wait) (refreshPending
      ((s.modLine k fun l => { l with draw := some { d with aged := true } }).modGroup s.lines[k].defn.group fun g =>
        { g with rotation := k :: g.rotation.filter (· != k) })) := by
  have draw : (s.modDraw k fun d => { d with aged := true }) = s.modLine k fun l => { l with draw := some { d with aged := true } } :=
    modLine_congr s k (by rw [drawn]; rfl)
  have top (order : List (Fin 16)) : toTop [k] order = k :: order.filter (· != k) := by
    simp [toTop, bne, ← Bool.beq_eq_decide_eq]
  simp only [ageDraw, draw, top, groupOf, drawn, Option.map_some, Option.getD_some]

/-- Settles O42. -/
theorem arbiterRequestsAct : Obligations.ArbiterRequestsAct := by
  refine ⟨fun ln tag s control => ⟨fun word on small => ⟨fun zero => ?_, fun positive =>
      ⟨{ takeLine ln s with lines := maskedBy word on s.lines }, fun k => maskedBy_get .., rfl, fun same => ?_, fun changed => ?_⟩⟩,
      fun k => ⟨fun undefined => ?_, fun above below defined first order => ?_, fun fault after hafter => ?_, fun other => ?_⟩,
      fun mode => ⟨fun held => ?_, fun other => ?_⟩, fun auto => ?_,
      fun open_ manual hopen => ⟨fun none => ?_, fun k before after split early may => ⟨fun place room => ?_, fun full => ?_⟩⟩⟩,
    fun k d s due pending drawn young waited => ?_⟩
  · refine operation_outcome (own := ownMaskLines) control rfl rfl ((runMaskLines_eq small on _).trans (checked_fail ?_ _ _ _ _))
    rw [(maskedSet_isEmpty small).mpr zero]; rfl
  · refine operation_outcome (own := ownMaskLines) control rfl rfl ((runMaskLines_eq small on _).trans
      ((checked_pass ?_ _ _ _ _).trans ?_))
    · rw [Bool.not_eq_true', ← Bool.not_eq_true, maskedSet_isEmpty small]; exact positive
    · rw [checked_nil, applyMask_same (by rw [takeLine_lines]; exact same), takeLine_lines]; rfl
  · refine operation_outcome (own := ownMaskLines) control rfl rfl ((runMaskLines_eq small on _).trans
      ((checked_pass ?_ _ _ _ _).trans ?_))
    · rw [Bool.not_eq_true', ← Bool.not_eq_true, maskedSet_isEmpty small]; exact positive
    · rw [checked_nil, applyMask_changed (by rw [takeLine_lines]; exact changed), takeLine_lines]; rfl
  · refine operation_outcome (own := ownSetRotation) control rfl rfl ((runSetRotation_eq k _).trans (checked_fail ?_ _ _ _ _))
    rw [takeLine_lines]; exact undefined
  · refine operation_outcome (own := ownSetRotation) control rfl rfl ((runSetRotation_eq k _).trans ((checked_pass ?_ _ _ _ _).trans ?_))
    · rw [takeLine_lines]; exact defined
    · rw [checked_nil, groupOf, takeLine_lines, modGroup_congr]
      · rfl
      · rw [takeLine_groups, order, turnTo_split first]
  · refine operation_outcome (own := ownResetLine) control rfl rfl ((runResetLine_eq k _).trans ((checked_pass ?_ _ _ _ _).trans ?_))
    · rw [takeLine_lines, fault]; rfl
    · rw [checked_nil, modLine_congr _ k (g := fun l => { l with state := after }) (by rw [takeLine_lines, restState_eq, hafter]),
        takeLine_lines, restState_eq, ← hafter]
      rfl
  · refine operation_outcome (own := ownResetLine) control rfl rfl ((runResetLine_eq k _).trans (checked_fail ?_ _ _ _ _))
    rw [takeLine_lines, beq_eq_false_iff_ne]; exact other
  · refine operation_outcome (own := ownArbiterMode) control rfl rfl ((runArbiterMode_eq mode _).trans ?_)
    rw [applyMode, takeLine_arb, if_pos held]; rfl
  · refine operation_outcome (own := ownArbiterMode) control rfl rfl ((runArbiterMode_eq mode _).trans ?_)
    rw [applyMode, takeLine_arb, if_neg other]; rfl
  · exact operation_outcome (own := ownDispatch) control rfl rfl (runDispatch_auto (by rw [takeLine_arb]; exact auto))
  · refine operation_outcome (own := ownDispatch) control rfl rfl (runDispatch_none (by rw [takeLine_arb]; exact manual) fun k mem => ?_)
    rw [takeLine_arb] at mem
    rw [mayDispatch_takeLine, mayDispatch_iff, ← hopen]; exact none k mem
  · have found := runDispatch_first (s := takeLine ln s) (k := k) (by rw [takeLine_arb]; exact manual)
      (by rw [takeLine_arb]; exact split)
      (fun j mem => by rw [mayDispatch_takeLine, mayDispatch_iff, ← hopen]; exact early j mem)
      (by rw [mayDispatch_takeLine, mayDispatch_iff, ← hopen]; exact may)
    exact operation_outcome (own := ownDispatch) control rfl rfl (found.trans (if_pos (fits_takeLine_iff.mpr ⟨place, room⟩)))
  · have found := runDispatch_first (s := takeLine ln s) (k := k) (by rw [takeLine_arb]; exact manual)
      (by rw [takeLine_arb]; exact split)
      (fun j mem => by rw [mayDispatch_takeLine, mayDispatch_iff, ← hopen]; exact early j mem)
      (by rw [mayDispatch_takeLine, mayDispatch_iff, ← hopen]; exact may)
    refine operation_outcome (own := ownDispatch) control rfl rfl (found.trans (if_neg ?_))
    rw [fits_takeLine_iff]; omega
  · have still : agesNow k s = true := by
      rw [agesNow, pending, drawn]; simpa [young] using waited
    refine (congrArg done (takeDue_taken (ageDraw k) due still)).trans ?_
    rw [ageDraw_of_draw (by rw [took_lines]; exact drawn), took_lines]; rfl

end Sys2Proof.Machine
end


section
/-!
The grades and the choices of the Supply Evaluator and of the balance review: a level graded from bands with hysteresis (R62, R65), and the
duty tank, a fill target and the tanks of a balancing transfer as the best of their candidates (R66, R67, R71, R167).
-/

namespace Sys2Proof.Machine

/-! ### Graded levels (R62, R65) -/

/-- Of bands that do not rise, those that hold a property of all higher ones are the first. -/
theorem lt_length_filter_iff {p : Nat → Bool} (up : ∀ x y, x ≤ y → p x = true → p y = true) :
    ∀ {bands : List Nat}, bands.Pairwise (fun x y => y ≤ x) → ∀ {i b : Nat}, bands[i]? = some b →
      (i < (bands.filter p).length ↔ p b = true)
  | [], _, _, _, found => by simp at found
  | x :: xs, sorted, i, b, found => by
    obtain ⟨below, rest⟩ := List.pairwise_cons.mp sorted
    by_cases first : p x = true
    · rw [List.filter_cons_of_pos first]
      cases i with
      | zero => obtain rfl : x = b := by simpa using found
                simp [first]
      | succ i => simpa using lt_length_filter_iff up rest (by simpa using found)
    · have noneHolds (y : Nat) (mem : y ∈ x :: xs) : ¬ p y = true := fun holds => by
        obtain rfl | later := List.mem_cons.mp mem
        · exact first holds
        · exact first (up y x (below y later) holds)
      have empty : (x :: xs).filter p = [] := List.filter_eq_nil_iff.mpr noneHolds
      rw [empty]
      exact ⟨fun h => absurd h (Nat.not_lt_zero i), fun holds => absurd holds (noneHolds b (List.mem_of_getElem? found))⟩

theorem lt_bandsAbove_iff {bands : List Nat} (sorted : bands.Pairwise fun x y => y ≤ x) {i b : Nat} (found : bands[i]? = some b)
    (h ratio : Nat) : i < bandsAbove bands h ratio ↔ ratio < b + h := by
  rw [bandsAbove, lt_length_filter_iff (fun x y le holds => by rw [decide_eq_true_eq] at holds ⊢; omega) sorted found,
    decide_eq_true_eq]

/-! ### The best of a list (R67, R71) -/

section
variable {α β : Type} {better : α → α → Bool}

theorem bestOf_eq_none_iff {l : List α} : bestOf better l = none ↔ l = [] := by cases l <;> simp [bestOf]

variable [LinearOrder α] [LinearOrder β] {f : α → β}

theorem foldl_best : ∀ {ys : List α} {x : α}, (x :: ys).Pairwise (· < ·) →
    (∀ a ∈ x :: ys, ∀ b ∈ x :: ys, better a b = true ↔ f b < f a) → ∀ y ∈ x :: ys, ∀ r,
    r = ys.foldl (fun best y => if better y best then y else best) x → f y < f r ∨ f y = f r ∧ r ≤ y
  | [], x, _, _, y, mem, r, hr => by
    obtain rfl := List.mem_singleton.mp mem
    exact .inr ⟨by rw [hr]; rfl, by rw [hr]; exact le_refl _⟩
  | z :: zs, x, ascending, meaning, y, mem, r, hr => by
    obtain ⟨below, rest⟩ := List.pairwise_cons.mp ascending
    have less : x < z := below z List.mem_cons_self
    rw [List.foldl_cons] at hr
    by_cases wins : better z x = true
    · have more : f x < f z := (meaning z (by simp) x (by simp)).mp wins
      rw [if_pos wins] at hr
      have best := foldl_best rest (fun a ha b hb => meaning a (List.mem_cons_of_mem _ ha) b (List.mem_cons_of_mem _ hb))
      obtain rfl | later := List.mem_cons.mp mem
      · obtain lt | ⟨eq, -⟩ := best z List.mem_cons_self r hr
        · exact .inl (more.trans lt)
        · exact .inl (more.trans_eq eq)
      · exact best y later r hr
    · have notMore : f z ≤ f x := not_lt.mp fun lt => wins ((meaning z (by simp) x (by simp)).mpr lt)
      rw [if_neg wins] at hr
      have skipping {a : α} (ha : a ∈ x :: zs) : a ∈ x :: z :: zs := by
        obtain rfl | later := List.mem_cons.mp ha
        · exact List.mem_cons_self
        · exact List.mem_cons_of_mem _ (List.mem_cons_of_mem _ later)
      have best := foldl_best (ys := zs) (x := x) (List.pairwise_cons.mpr ⟨fun a ha => below a (List.mem_cons_of_mem _ ha),
        (List.pairwise_cons.mp rest).2⟩) (fun a ha b hb => meaning a (skipping ha) b (skipping hb))
      by_cases here : y = z
      · subst here
        obtain lt | ⟨eq, le⟩ := best x List.mem_cons_self r hr
        · exact .inl (notMore.trans_lt lt)
        · obtain lt | same := (notMore.trans_eq eq).lt_or_eq
          · exact .inl lt
          · exact .inr ⟨same, le.trans less.le⟩
      · refine best y ?_ r hr
        obtain first | second | later := by simpa only [List.mem_cons] using mem
        · exact List.mem_cons.mpr (.inl first)
        · exact absurd second here
        · exact List.mem_cons_of_mem _ later

/-- The best of an ascending list has the greatest value, the lowest place on a tie. -/
theorem bestOf_ranked {l : List α} {r : α} (ascending : l.Pairwise (· < ·))
    (meaning : ∀ a ∈ l, ∀ b ∈ l, better a b = true ↔ f b < f a) (found : bestOf better l = some r) :
    r ∈ l ∧ ∀ y ∈ l, f y < f r ∨ f y = f r ∧ r ≤ y := by
  refine ⟨bestOf_mem found, fun y mem => ?_⟩
  cases l with
  | nil => simp at mem
  | cons x xs => exact foldl_best ascending meaning y mem r (by simpa [bestOf] using found.symm)

/-- The best of an ascending list is the one that the others do not reach. -/
theorem bestOf_eq_of_best {l : List α} {r : α} (ascending : l.Pairwise (· < ·))
    (meaning : ∀ a ∈ l, ∀ b ∈ l, better a b = true ↔ f b < f a) (mem : r ∈ l)
    (best : ∀ y ∈ l, y ≠ r → f y < f r ∨ f y = f r ∧ r < y) : bestOf better l = some r := by
  obtain found | ⟨x, found⟩ := (bestOf better l).eq_none_or_eq_some
  · rw [bestOf_eq_none_iff.mp found] at mem; simp at mem
  · obtain ⟨listed, most⟩ := bestOf_ranked ascending meaning found
    rw [found]
    by_contra other
    have differ : x ≠ r := fun same => other (by rw [same])
    obtain lt | ⟨eq, less⟩ := best x listed differ <;> obtain lt' | ⟨eq', le⟩ := most r mem
    · exact lt_asymm lt lt'
    · exact lt.ne eq'.symm
    · exact lt'.ne eq.symm
    · exact absurd less (not_lt.mpr le)

end

/-! ### The candidates on the preferred side (R66) -/

theorem mem_preferSide {s : State} {side : Option Side} {cands : List (Fin 12)} {t : Fin 12} : t ∈ preferSide s side cands ↔
    t ∈ cands ∧ ∀ d, side = some d → (∃ u ∈ cands, s.tanks[u].defn.side = d) → s.tanks[t].defn.side = d := by
  cases side with
  | none => simp [preferSide]
  | some d =>
    have onSide (u : Fin 12) : u ∈ cands.filter (fun t => s.tanks[t].defn.side == d) ↔ u ∈ cands ∧ s.tanks[u].defn.side = d := by
      rw [List.mem_filter, beq_iff_eq]
    simp only [preferSide, Option.some.injEq, forall_eq', List.isEmpty_iff]
    split
    · rename_i empty
      refine ⟨fun mem => ⟨mem, fun ⟨u, hu, side⟩ => ?_⟩, And.left⟩
      exact absurd ((onSide u).mpr ⟨hu, side⟩) (by rw [empty]; exact List.not_mem_nil)
    · rename_i some
      obtain ⟨u, hu⟩ := List.exists_mem_of_ne_nil _ some
      rw [onSide]
      exact ⟨fun ⟨mem, side⟩ => ⟨mem, fun _ => side⟩, fun ⟨mem, side⟩ => ⟨mem, side ⟨u, (onSide u).mp hu⟩⟩⟩

theorem preferSide_eq_nil_iff {s : State} {side : Option Side} {cands : List (Fin 12)} : preferSide s side cands = [] ↔ cands = [] := by
  cases side with
  | none => rfl
  | some d =>
    simp only [preferSide, List.isEmpty_iff]
    split
    · rfl
    · rename_i some
      exact ⟨fun empty => absurd empty some, fun empty => by rw [empty]; rfl⟩

theorem preferSide_ascending {s : State} {side : Option Side} {cands : List (Fin 12)} (ascending : cands.Pairwise (· < ·)) :
    (preferSide s side cands).Pairwise (· < ·) := by
  cases side with
  | none => exact ascending
  | some d =>
    simp only [preferSide]; split
    · exact ascending
    · exact ascending.filter _

/-! ### What the choices compare (R67, R71) -/

theorem holdsMore_iff {s : State} (a b : Fin 12) : holdsMore s a b = true ↔ s.tanks[b].trusted < s.tanks[a].trusted := by
  rw [holdsMore, decide_eq_true_eq]

/-- The ratio of a tank's trusted volume to its capacity, lower ratios greater. -/
def emptiness (s : State) (t : Fin 12) : ℚ := -(s.tanks[t].trusted / s.tanks[t].defn.capacity)

section
variable {s : State} {a b : Fin 12} (capA : 0 < s.tanks[a].defn.capacity) (capB : 0 < s.tanks[b].defn.capacity)
include capA capB

theorem emptiness_lt_iff : emptiness s b < emptiness s a ↔
    s.tanks[a].trusted * s.tanks[b].defn.capacity < s.tanks[b].trusted * s.tanks[a].defn.capacity := by
  rw [emptiness, emptiness, neg_lt_neg_iff, div_lt_div_iff₀ (by exact_mod_cast capA) (by exact_mod_cast capB)]
  exact_mod_cast Iff.rfl

theorem emptiness_eq_iff : emptiness s b = emptiness s a ↔
    s.tanks[a].trusted * s.tanks[b].defn.capacity = s.tanks[b].trusted * s.tanks[a].defn.capacity := by
  have nonzeroA : (s.tanks[a].defn.capacity : ℚ) ≠ 0 := by exact_mod_cast capA.ne'
  have nonzeroB : (s.tanks[b].defn.capacity : ℚ) ≠ 0 := by exact_mod_cast capB.ne'
  rw [emptiness, emptiness, neg_inj, eq_comm, div_eq_div_iff nonzeroA nonzeroB]
  exact_mod_cast Iff.rfl

theorem ratioLower_iff : ratioLower s a b = true ↔ emptiness s b < emptiness s a := by
  rw [ratioLower, decide_eq_true_eq, emptiness_lt_iff capA capB]

end

/-- The tank of highest trusted volume of an ascending list (R67, R167). -/
theorem bestOf_holdsMore {s : State} {l : List (Fin 12)} {t : Fin 12} (ascending : l.Pairwise (· < ·))
    (found : bestOf (holdsMore s) l = some t) : t ∈ l ∧
      ∀ u ∈ l, s.tanks[u].trusted < s.tanks[t].trusted ∨ s.tanks[u].trusted = s.tanks[t].trusted ∧ t ≤ u :=
  bestOf_ranked (f := fun u => s.tanks[u].trusted) ascending (fun a _ b _ => holdsMore_iff a b) found

/-- The tank of lowest ratio of an ascending list (R71, R167). -/
theorem bestOf_ratioLower {s : State} {l : List (Fin 12)} {t : Fin 12} (ascending : l.Pairwise (· < ·))
    (capacity : ∀ u ∈ l, 0 < s.tanks[u].defn.capacity) (found : bestOf (ratioLower s) l = some t) : t ∈ l ∧
      ∀ u ∈ l, s.tanks[t].trusted * s.tanks[u].defn.capacity < s.tanks[u].trusted * s.tanks[t].defn.capacity ∨
        s.tanks[t].trusted * s.tanks[u].defn.capacity = s.tanks[u].trusted * s.tanks[t].defn.capacity ∧ t ≤ u := by
  have meaning (a) (ha : a ∈ l) (b) (hb : b ∈ l) : ratioLower s a b = true ↔ emptiness s b < emptiness s a :=
    ratioLower_iff (capacity a ha) (capacity b hb)
  obtain ⟨mem, best⟩ := bestOf_ranked (f := emptiness s) ascending meaning found
  exact ⟨mem, fun u hu => (best u hu).imp (emptiness_lt_iff (capacity t mem) (capacity u hu)).mp
    (And.imp_left (emptiness_eq_iff (capacity t mem) (capacity u hu)).mp)⟩

theorem allTanks_ascending : allTanks.Pairwise (· < ·) := (List.sortedLT_finRange 12).pairwise

/-- The preferred sides (R66). -/
theorem preferredSides {s : State} {heavy light : Option Side}
    (port : (s.eval.settings.balanceBand : Int) < s.eval.imbalance → heavy = some .port ∧ light = some .stbd)
    (stbd : s.eval.imbalance < -(s.eval.settings.balanceBand : Int) → heavy = some .stbd ∧ light = some .port)
    (level : -(s.eval.settings.balanceBand : Int) ≤ s.eval.imbalance → s.eval.imbalance ≤ s.eval.settings.balanceBand →
      heavy = none ∧ light = none) : dutySide s = heavy ∧ fillSide s = light := by
  unfold dutySide fillSide
  split
  · obtain ⟨rfl, rfl⟩ := port ‹_›; exact ⟨rfl, rfl⟩
  · split
    · obtain ⟨rfl, rfl⟩ := stbd ‹_›; exact ⟨rfl, rfl⟩
    · obtain ⟨rfl, rfl⟩ := level (by omega) (by omega); exact ⟨rfl, rfl⟩

section
variable {s : State} {heavier lighter : Side} (tilted : s.eval.imbalance ≠ 0)
  (port : 0 < s.eval.imbalance → heavier = .port ∧ lighter = .stbd) (stbd : s.eval.imbalance < 0 → heavier = .stbd ∧ lighter = .port)
include tilted port stbd

/-- The sides a balancing transfer runs between (R167). -/
theorem balanceSides : (if 0 < s.eval.imbalance then Side.port else .stbd) = heavier ∧
    (if 0 < s.eval.imbalance then Side.stbd else .port) = lighter := by
  split
  · obtain ⟨rfl, rfl⟩ := port ‹_›; exact ⟨rfl, rfl⟩
  · obtain ⟨rfl, rfl⟩ := stbd (by omega); exact ⟨rfl, rfl⟩

theorem balanceSource_eq : balanceSource s = bestOf (holdsMore s)
    (allTanks.filter fun t => s.tanks[t].state == .inService && s.tanks[t].defn.side == heavier) := by
  rw [balanceSource, (balanceSides tilted port stbd).1]

theorem balanceDest_eq : balanceDest s =
    bestOf (ratioLower s) (s.eval.fillCandidates.filter fun t => s.tanks[t].defn.side == lighter) := by
  rw [balanceDest, (balanceSides tilted port stbd).2]

end

theorem mem_balanceSources {s : State} {side : Side} {t : Fin 12} :
    t ∈ allTanks.filter (fun t => s.tanks[t].state == .inService && s.tanks[t].defn.side == side) ↔
      s.tanks[t].state = .inService ∧ s.tanks[t].defn.side = side := by
  rw [List.mem_filter, Bool.and_eq_true, beq_iff_eq, beq_iff_eq, and_iff_right (show t ∈ allTanks from List.mem_finRange t)]

theorem mem_balanceDests {s : State} {side : Side} {t : Fin 12} :
    t ∈ s.eval.fillCandidates.filter (fun t => s.tanks[t].defn.side == side) ↔
      t ∈ s.eval.fillCandidates ∧ s.tanks[t].defn.side = side := by
  rw [List.mem_filter, beq_iff_eq]

/-- Settles O35. -/
theorem gradesAndChoicesFollowTheRules : Obligations.GradesAndChoicesFollowTheRules := by
  refine ⟨fun bands h held ratio i b sorted found => ?_,
    fun s heavy light dutyAscending fillAscending capacity port stbd level pool hpool => ?_⟩
  · rw [gradedLevel, Nat.succ_le_iff, lt_max_iff, lt_min_iff, lt_bandsAbove_iff sorted found, lt_bandsAbove_iff sorted found,
      Nat.add_zero, Nat.succ_le_iff, and_comm (a := i < held)]
  obtain ⟨duty, fill⟩ := preferredSides port stbd level
  have inPool (side : Option Side) (cands : List (Fin 12)) (t : Fin 12) : t ∈ preferSide s side cands ↔ pool side cands t :=
    mem_preferSide.trans (hpool side cands t).symm
  rw [selectDuty, selectFill, duty, fill]
  refine ⟨bestOf_eq_none_iff.trans preferSide_eq_nil_iff, fun t found => ?_, bestOf_eq_none_iff.trans preferSide_eq_nil_iff,
    fun t found => ?_, fun heavier lighter t tilted portSide stbdSide => ?_⟩
  · obtain ⟨mem, best⟩ := bestOf_holdsMore (preferSide_ascending dutyAscending) found
    exact ⟨(inPool _ _ _).mp mem, fun u hu => best u ((inPool _ _ _).mpr hu)⟩
  · obtain ⟨mem, best⟩ := bestOf_ratioLower (preferSide_ascending fillAscending)
      (fun u hu => capacity u (preferSide_subset hu)) found
    exact ⟨(inPool _ _ _).mp mem, fun u hu => best u ((inPool _ _ _).mpr hu)⟩
  rw [balanceSource_eq tilted portSide stbdSide, balanceDest_eq tilted portSide stbdSide]
  refine ⟨?_, ?_, fun found => ?_, fun found => ?_⟩
  · simp only [bestOf_eq_none_iff, List.eq_nil_iff_forall_not_mem, mem_balanceSources, not_and, ne_eq]
  · simp only [bestOf_eq_none_iff, List.eq_nil_iff_forall_not_mem, mem_balanceDests, not_and, ne_eq]
  · obtain ⟨mem, best⟩ := bestOf_holdsMore (allTanks_ascending.filter _) found
    obtain ⟨serves, side⟩ := mem_balanceSources.mp mem
    exact ⟨serves, side, fun u serves side => best u (mem_balanceSources.mpr ⟨serves, side⟩)⟩
  · obtain ⟨mem, best⟩ := bestOf_ratioLower (fillAscending.filter _)
      (fun u hu => capacity u (mem_balanceDests.mp hu).1) found
    obtain ⟨candidate, side⟩ := mem_balanceDests.mp mem
    exact ⟨candidate, side, fun u candidate side => best u (mem_balanceDests.mpr ⟨candidate, side⟩)⟩

end Sys2Proof.Machine
end


section
/-!
The Watermaker Trains: the stop and its flush request (R90, R143, R144), the start and the stop check (R147 to R149), the end of a flush
(R145, R146) and the timers (R138 to R146).
-/

namespace Sys2Proof.Machine

/-! ### The flush request and the stop (R90, R143, R144) -/

theorem askFlush_placed {n : Fin 3} {k : Fin 16} {s : State} (waits : s.trains[n].state = .flushWait)
    (free : s.trains[n].flushPlaced = false) (hk : k = s.trains[n].defn.flushLine) (defined : s.lines[k].defined = true)
    (source : s.lines[k].defn.source = .flush n) (idle : s.lines[k].state = .idle) :
    askFlush n s = register k (some (min s.trains[n].flushRemaining s.lines[k].defn.maxBatch)) (.flush n)
      (s.modTrain n fun w => { w with flushPlaced := true }) := by
  subst hk
  have valid : flushLineValid s n = true := by rw [flushLineValid, defined, source]; simp
  refine if_pos ?_
  rw [waits, free, valid, idle]; rfl

theorem askFlush_refused {n : Fin 3} {s : State} (invalid : ¬(s.lines[s.trains[n].defn.flushLine].defined = true ∧
    s.lines[s.trains[n].defn.flushLine].defn.source = .flush n ∧ s.lines[s.trains[n].defn.flushLine].state = .idle)) :
    askFlush n s = s := by
  refine if_neg ?_
  simp only [Bool.and_eq_true, flushLineValid, beq_iff_eq]
  tauto

theorem giveUpTarget_none {n : Fin 3} {s : State} (target : s.trains[n].target = none) :
    giveUpTarget n s = s.modTrain n fun w => { w with target := none, producingSince := none } := by
  simp only [giveUpTarget, target]

/-- The train's own stop (R143), from the state in which its target has lost it. -/
def halted (n : Fin 3) (cause : StopCause) (v : State) : State :=
  { v.modTrain n (fun w => { w with
        state := .flushWait, stopCause := some cause, faultCause := none, target := none, producingSince := none
        stage := none, qualification := ⟨0, 0⟩, stall := ⟨0, 0⟩, flushRemaining := w.defn.flushVolume
        flushPlaced := false, flushWait := ⟨0, w.defn.flushWaitMax⟩ }) with
      power := { v.power with holders := v.power.holders.filter (· != .train n) } }

theorem haltTrain_of_giveUp {n : Fin 3} {cause : StopCause} {s v : State}
    (given : giveUpTarget n s = v.modTrain n fun w => { w with target := none, producingSince := none }) :
    haltTrain n cause s = startCheck (askFlush n (halted n cause v)) := by
  rw [haltTrain, given, modTrain_modTrain, enterFlushWait]
  refine congrArg (fun u => startCheck (askFlush n u)) ?_
  have commute (f : Train → Train) (u : State) : (releaseHolder (.train n) u).modTrain n f = releaseHolder (.train n) (u.modTrain n f) := rfl
  rw [commute, modTrain_modTrain, modTrain_trains, upd_get_same, halted]
  exact congrArg (releaseHolder _) (modTrain_congr v n rfl)

/-- Settles O55. -/
theorem stoppingATrain : Obligations.StoppingATrain := by
  refine ⟨fun n cause s u v target noTarget hu => ?_, fun n k s waits free hk => ⟨fun defined source idle => ?_, fun invalid => ?_⟩⟩
  · obtain found | ⟨t, found⟩ := s.trains[n].target.eq_none_or_eq_some
    · rw [haltTrain_of_giveUp (giveUpTarget_none found), hu, noTarget found]; rfl
    · rw [haltTrain_of_giveUp (giveUpTarget_of_target found), hu, target t found]; rfl
  · rw [askFlush_placed waits free hk defined source idle]; rfl
  · exact askFlush_refused (hk ▸ invalid)

/-! ### The start check (R147, R148) -/

theorem startable_iff {s : State} {n : Fin 3} : startable s n = true ↔
    s.trains[n].state = .off ∧ s.trains[n].mode = .auto ∧ s.trains[n].rest = none ∧ 0 < s.trains[n].defn.ratedPower := by
  simp only [startable, Bool.and_eq_true, beq_iff_eq, Train.rested, Option.isNone_iff_eq_none, decide_eq_true_eq, and_assoc]

theorem startCheck_idle {s : State} (idle : s.eval.callCount ≤ autoRunning s ∨ ∃ n, Starting s n) : startCheck s = s := by
  refine if_neg ?_
  rw [Bool.and_eq_true, decide_eq_true_eq, Bool.not_eq_true', someTrainStarting_eq_false_iff]
  rintro ⟨few, alone⟩
  obtain enough | ⟨n, starts⟩ := idle
  · omega
  · exact alone n starts

section
variable {s : State} (few : autoRunning s < s.eval.callCount) (alone : ∀ n, ¬ Starting s n)
include few alone

theorem startCheck_looks : (autoRunning s < s.eval.callCount && !someTrainStarting s) = true := by
  rw [Bool.and_eq_true, decide_eq_true_eq, Bool.not_eq_true', someTrainStarting_eq_false_iff]
  exact ⟨few, alone⟩

theorem startCheck_none (none : ∀ n ∈ s.startOrder, ¬ startable s n = true) : startCheck s = s := by
  rw [startCheck, if_pos (startCheck_looks few alone), List.find?_eq_none.mpr none]

variable {n : Fin 3} {before after : List (Fin 3)} (order : s.startOrder = before ++ n :: after)
  (early : ∀ m ∈ before, ¬ startable s m = true) (may : startable s n = true)
include order early may

theorem startCheck_first : startCheck s =
    if s.waters == .opened && !s.eval.fillCandidates.isEmpty && headroomGranted s s.trains[n].defn.ratedPower then
      beginTrain n s else s := by
  have found : s.startOrder.find? (startable s) = some n :=
    List.find?_eq_some_iff_append.mpr ⟨may, before, after, order, fun m mem => by rw [Bool.not_eq_true', ← Bool.not_eq_true]; exact early m mem⟩
  rw [startCheck, if_pos (startCheck_looks few alone), found]

end

/-! ### The stop check (R149) -/

theorem stoppable_iff {s : State} {n : Fin 3} : stoppable s n = true ↔
    s.trains[n].mode = .auto ∧ s.trains[n].state = .producing ∧ s.trains[n].defn.minRun ≤ s.trains[n].runTimer := by
  simp only [stoppable, Bool.and_eq_true, beq_iff_eq, decide_eq_true_eq, and_assoc]

theorem startCheck_producing (s : State) (m : Fin 3) :
    (startCheck s).trains[m].state = .producing ↔ s.trains[m].state = .producing := by
  obtain ⟨n, may, -, -, -, -, -, e⟩ | e := startCheck_cases s <;> rw [e]
  rw [beginTrain_trains]; split
  · subst m; rw [(startable_iff.mp may).1]; simp
  · rfl

theorem haltTrain_producing (n : Fin 3) (cause : StopCause) (s : State) (m : Fin 3) :
    (haltTrain n cause s).trains[m].state = .producing ↔ m ≠ n ∧ s.trains[m].state = .producing := by
  obtain ⟨v, same, e⟩ := haltTrain_eq n cause s
  rw [e, startCheck_producing, same.producing, stopped_trains]
  split
  · simp [*]
  · simp [*]

/-- The trains that produce. -/
def producers (s : State) : List (Fin 3) := allTrains.filter fun n => s.trains[n].state == .producing

theorem mem_producers {s : State} {n : Fin 3} : n ∈ producers s ↔ s.trains[n].state = .producing := by
  rw [producers, List.mem_filter, beq_iff_eq, and_iff_right (show n ∈ allTrains from List.mem_finRange n)]

theorem producers_length_le (s : State) : (producers s).length ≤ 3 := List.length_filter_le _ _

/-- Each round of the stop check leaves one producer fewer. -/
theorem producers_haltTrain {n : Fin 3} {s : State} (cause : StopCause) (producing : s.trains[n].state = .producing) :
    (producers (haltTrain n cause s)).length < (producers s).length := by
  have fewer : producers (haltTrain n cause s) = (producers s).filter (· != n) := by
    rw [producers, producers, List.filter_filter]
    refine List.filter_congr fun m _ => ?_
    rw [Bool.eq_iff_iff, Bool.and_eq_true, bne_iff_ne, beq_iff_eq, beq_iff_eq, haltTrain_producing]
  rw [fewer]
  exact List.length_filter_lt_length_iff_exists.mpr ⟨n, mem_producers.mpr producing, by simp⟩

/-- The train a round of the stop check takes, if any. -/
def longestProducer (s : State) : Option (Fin 3) :=
  bestOf (fun a b => producingFor s b < producingFor s a) (allTrains.filter (stoppable s))

theorem stopRounds_idle {s : State} (enough : autoRunning s ≤ s.eval.callCount) : ∀ fuel, stopRounds fuel s = s
  | 0 => rfl
  | _ + 1 => if_neg (by omega)

theorem stopRounds_none {s : State} (none : longestProducer s = none) : ∀ fuel, stopRounds fuel s = s
  | 0 => rfl
  | fuel + 1 => by
    rw [longestProducer] at none
    rw [stopRounds, none, ite_self]

theorem stopRounds_some {s : State} {n : Fin 3} (many : s.eval.callCount < autoRunning s) (found : longestProducer s = some n)
    (fuel : Nat) : stopRounds (fuel + 1) s = stopRounds fuel (haltTrain n .callDropped s) := by
  rw [longestProducer] at found
  rw [stopRounds, if_pos many, found]

theorem longestProducer_producing {s : State} {n : Fin 3} (found : longestProducer s = some n) : s.trains[n].state = .producing :=
  (stoppable_iff.mp (List.mem_filter.mp (bestOf_mem found)).2).2.1

/-- As many rounds as there are producers are all. -/
theorem stopRounds_enough : ∀ (fuel : Nat) (s : State), (producers s).length ≤ fuel → stopRounds (fuel + 1) s = stopRounds fuel s := by
  intro fuel
  induction fuel with
  | zero =>
    intro s few
    refine stopRounds_none (Option.eq_none_iff_forall_ne_some.mpr fun n found => ?_) 1
    have mem := mem_producers.mpr (longestProducer_producing found)
    rw [List.length_eq_zero_iff.mp (Nat.le_zero.mp few)] at mem
    exact absurd mem List.not_mem_nil
  | succ fuel ih =>
    intro s few
    obtain enough | many := le_or_gt (autoRunning s) s.eval.callCount
    · rw [stopRounds_idle enough, stopRounds_idle enough]
    obtain found | ⟨n, found⟩ := (longestProducer s).eq_none_or_eq_some
    · rw [stopRounds_none found, stopRounds_none found]
    · rw [stopRounds_some many found, stopRounds_some many found]
      have fewer := producers_haltTrain .callDropped (longestProducer_producing found)
      exact ih _ (by omega)

theorem stopCheck_some {s : State} {n : Fin 3} (many : s.eval.callCount < autoRunning s) (found : longestProducer s = some n) :
    stopCheck s = stopCheck (haltTrain n .callDropped s) := by
  have fewer := producers_haltTrain .callDropped (longestProducer_producing found)
  have most := producers_length_le s
  rw [stopCheck, stopCheck, stopRounds_some many found, stopRounds_enough 2 _ (by omega)]

theorem longestProducer_eq_none {s : State} (noOne : ∀ n, ¬ stoppable s n = true) : longestProducer s = none :=
  bestOf_eq_none_iff.mpr (List.filter_eq_nil_iff.mpr fun n _ => noOne n)

theorem longestProducer_eq_some {s : State} {n : Fin 3} (may : stoppable s n = true)
    (longest : ∀ m, stoppable s m = true → m ≠ n →
      producingFor s m < producingFor s n ∨ producingFor s m = producingFor s n ∧ n < m) : longestProducer s = some n :=
  bestOf_eq_of_best (f := producingFor s) ((List.sortedLT_finRange 3).pairwise.filter _) (fun _ _ _ _ => decide_eq_true_iff)
    (List.mem_filter.mpr ⟨List.mem_finRange n, may⟩) fun m mem other => longest m (List.mem_filter.mp mem).2 other

/-- Settles O57. -/
theorem trainChecksStartAndStop : Obligations.TrainChecksStartAndStop := by
  refine ⟨fun s idle => startCheck_idle idle, fun s ok few alone hok => ⟨fun none => ?_, fun n before after order early may => ?_⟩,
    fun s ok hok => ⟨fun idle => ?_, fun n many may longest => ?_⟩⟩
  · exact startCheck_none few alone fun n mem => by rw [startable_iff, ← hok]; exact none n mem
  · have first := startCheck_first few alone order (fun m mem => by rw [startable_iff, ← hok]; exact early m mem)
      (startable_iff.mpr ((hok n).mp may))
    have allowed : (s.waters == .opened && !s.eval.fillCandidates.isEmpty && headroomGranted s s.trains[n].defn.ratedPower) = true ↔
        s.waters = .opened ∧ s.eval.fillCandidates ≠ [] ∧
          committedLoad s + s.trains[n].defn.ratedPower ≤ effectiveAllowance s := by
      simp only [Bool.and_eq_true, beq_iff_eq, Bool.not_eq_true', List.isEmpty_eq_false_iff, headroomGranted_iff, and_assoc, ne_eq]
    refine ⟨fun stays => first.trans (if_neg ?_), fun opened candidates room => ?_⟩
    · rw [allowed]
      rintro ⟨opened, candidates, room⟩
      obtain restricted | empty | tooMuch := stays
      · rw [restricted] at opened; cases opened
      · exact candidates empty
      · omega
    · rw [first, if_pos (allowed.mpr ⟨opened, candidates, room⟩)]; rfl
  · obtain enough | none := idle
    · exact stopRounds_idle enough 3
    · exact stopRounds_none (longestProducer_eq_none fun n => by rw [stoppable_iff, ← hok]; exact none n) 3
  · exact stopCheck_some many (longestProducer_eq_some (stoppable_iff.mpr ((hok n).mp may)) fun m mayM other =>
      longest m ((hok m).mpr (stoppable_iff.mp mayM)) other)

/-! ### The end of a flush (R145, R146) -/

theorem finishedFault_eq (w : Train) : finishedFault w = if w.retry = true then some .unflushed
    else if w.stopCause = some .quality then some .quality else if w.stopCause = some .noProduct then some .noProduct else none := by
  rw [finishedFault]; split
  · rfl
  · split
    · rename_i cause; rw [cause]; rfl
    · rename_i cause; rw [cause]; rfl
    · rename_i notQuality notProduct; rw [if_neg notQuality, if_neg notProduct]

section
variable {n : Fin 3} {cause : EndCause} {delivered : Nat} {s : State}

theorem flushEnded_finished (flushing : s.trains[n].state = .flushing) (nothingLeft : s.trains[n].flushRemaining - delivered = 0) :
    flushEnded .complete delivered n s = finishFlush n s := by
  simp only [flushEnded, flushing, nothingLeft, if_true]

theorem flushEnded_retry (waits : (s.trains[n].state = .flushing ∧ ((cause = .complete ∧ 0 < s.trains[n].flushRemaining - delivered) ∨
      cause = .supplyLost ∨ cause = .ended ∨ cause = .cancelled)) ∨
    (s.trains[n].state = .flushWait ∧ (cause = .supplyLost ∨ cause = .ended ∨ cause = .cancelled))) :
    flushEnded cause delivered n s = enterFlushWait n (s.trains[n].flushRemaining - delivered) s := by
  obtain ⟨flushing, ⟨rfl, left⟩ | rfl | rfl | rfl⟩ | ⟨waiting, rfl | rfl | rfl⟩ := waits
  · simp only [flushEnded, flushing, if_neg left.ne']
  all_goals simp only [flushEnded, *]

theorem flushEnded_faulted (flushing : s.trains[n].state = .flushing) (ranOut : cause = .timedOut ∨ cause = .stalled) :
    flushEnded cause delivered n s = faultTrain n .unflushed (s.modTrain n fun w =>
      { w with flushRemaining := s.trains[n].flushRemaining - delivered, flushPlaced := false }) := by
  obtain rfl | rfl := ranOut <;> simp only [flushEnded, flushing]

theorem flushEnded_fault (fault : s.trains[n].state = .fault) :
    flushEnded .cancelled delivered n s = s.modTrain n fun w =>
      { w with flushRemaining := s.trains[n].flushRemaining - delivered, flushPlaced := false } := by
  simp only [flushEnded, fault]

theorem finishFlush_fault {c : FaultCause} (found : finishedFault s.trains[n] = some c) :
    finishFlush n s = faultTrain n c (s.modTrain n fun w => { w with flushRemaining := 0, flushPlaced := false }) := by
  have still : finishedFault (s.modTrain n fun w => { w with flushRemaining := 0, flushPlaced := false }).trains[n] = some c := by
    rw [modTrain_trains, upd_get_same]; exact found
  simp only [finishFlush, still]

theorem finishFlush_rest (found : finishedFault s.trains[n] = none) :
    finishFlush n s = restTrain n (s.modTrain n fun w => { w with flushRemaining := 0, flushPlaced := false }) := by
  have still : finishedFault (s.modTrain n fun w => { w with flushRemaining := 0, flushPlaced := false }).trains[n] = none := by
    rw [modTrain_trains, upd_get_same]; exact found
  simp only [finishFlush, still]

/-- A train whose flush leaves a remainder enters FAULT with its notice (R146). -/
theorem faultTrain_left (c : FaultCause) (remainder : Nat) :
    faultTrain n c (s.modTrain n fun w => { w with flushRemaining := remainder, flushPlaced := false }) =
      startCheck (post (.trainFault n c remainder) (s.modTrain n fun w =>
        { w with state := .fault, faultCause := some c, flushRemaining := remainder, flushPlaced := false, flushWait := ⟨0, 0⟩ })) := by
  rw [faultTrain, modTrain_modTrain, modTrain_trains, upd_get_same]; rfl

end

/-- Settles O56. -/
theorem flushEndsAtItsTrain : Obligations.FlushEndsAtItsTrain := by
  intro n cause delivered remainder s hremainder
  refine ⟨fun flushing complete zero => ?_, fun waits => ?_, fun flushing ranOut => ?_, fun fault cancelled => ?_⟩
  · subst complete
    rw [flushEnded_finished flushing (hremainder ▸ zero)]
    refine ⟨fun c found => ?_, fun retry notQuality notProduct => ?_⟩
    · rw [finishFlush_fault ((finishedFault_eq _).trans found), faultTrain_left]
    · rw [finishFlush_rest (by rw [finishedFault_eq, retry, if_neg Bool.false_ne_true, if_neg notQuality, if_neg notProduct]),
        restTrain, modTrain_modTrain]
      rfl
  · rw [flushEnded_retry (hremainder ▸ waits), enterFlushWait, ← hremainder]; rfl
  · rw [flushEnded_faulted flushing ranOut, ← hremainder, faultTrain_left]
  · rw [cancelled, flushEnded_fault fault, hremainder]

/-! ### The timers (R138 to R146) -/

theorem Timer.expired_iff {g : Timer} : g.expired = true ↔ g.length ≤ g.count := by rw [Timer.expired, decide_eq_true_eq]

theorem stageOver_of_expired {n : Fin 3} {s : State} {st : TrainState} {g : Timer} (state : s.trains[n].state = st)
    (stage : s.trains[n].stage = some g) (ranOut : g.length ≤ g.count) : stageOver st n s = true := by
  rw [stageOver, state, stage, beq_self_eq_true, Option.any_some, Timer.expired_iff.mpr ranOut]; rfl

/-- Settles O52. -/
theorem trainTimersAct : Obligations.TrainTimersAct := by
  intro n s
  refine ⟨fun g due state stage ranOut => ?_, fun g due state stage ranOut => ?_, fun g due state stage ranOut => ?_,
    fun due state ranOut => ?_, fun due mode state ranOut => ?_, fun due state free => ?_, fun due state ranOut => ?_,
    fun g due rest ranOut => ?_⟩
  · exact congrArg done (takeDue_taken (fun s => startCheck (enterRamping n s)) due (stageOver_of_expired state stage ranOut))
  · exact congrArg done (takeDue_taken (fun s => startCheck (enterDiverting n s)) due (stageOver_of_expired state stage ranOut))
  · exact congrArg done (takeDue_taken (haltTrain n .quality) due (stageOver_of_expired state stage ranOut))
  · exact congrArg done (takeDue_taken (haltTrain n .noProduct) due (by rw [state, Timer.expired_iff.mpr ranOut]; rfl))
  · exact congrArg done (takeDue_taken stopCheck due (stoppable_iff.mpr ⟨mode, state, ranOut⟩))
  · exact congrArg done (takeDue_taken (askFlush n) due (by rw [state, free]; rfl))
  · refine (congrArg done (takeDue_taken (faultTrain n .unflushed) due (by rw [state, Timer.expired_iff.mpr ranOut]; rfl))).trans ?_
    rw [faultTrain, modTrain_trains, upd_get_same, took_trains]; rfl
  · exact congrArg done (takeDue_taken (restOver n) due (by rw [rest, Option.any_some, Timer.expired_iff.mpr ranOut]))

end Sys2Proof.Machine
end


section
/-!
The requests to the Watermaker Trains: TRAIN MODE, START TRAIN, STOP TRAIN, FLUSH TRAIN, RESET TRAIN and SET WATERS (R147, R150 to R154),
and DEFINE TRAIN (R155).
-/

namespace Sys2Proof.Machine

/-! ### What each request runs -/

section
variable (n : Fin 3) (s : State)

theorem runTrainMode_eq (mode : TrainMode) : runTrainMode (enc1 n.val ++ enc1 mode.code) s = okReply (applyTrainMode n mode s) := by
  have index : u8At (enc1 n.val ++ enc1 mode.code) 0 = n.val := by simp
  have code : trainModeOf (u8At (enc1 n.val ++ enc1 mode.code) 1) = some mode := by simp
  simp only [runTrainMode, index, code, indexOf_val]

theorem runStartTrain_eq : runStartTrain (enc1 n.val) s = checked (startChecks s n) s (okReply (beginTrain n s)) := by
  simp only [runStartTrain, u8At_enc1_last, train_byte, indexOf_val]

theorem runStopTrain_eq :
    runStopTrain (enc1 n.val) s = checked [(s.trains[n].state.running, .wrongState)] s (okReply (haltTrain n .hostStop s)) := by
  simp only [runStopTrain, u8At_enc1_last, train_byte, indexOf_val]

theorem runFlushTrain_eq : runFlushTrain (enc1 n.val) s = flushTrain n s := by
  simp only [runFlushTrain, u8At_enc1_last, train_byte, indexOf_val]

theorem runResetTrain_eq : runResetTrain (enc1 n.val) s =
    checked [(s.trains[n].state == .fault && !s.trains[n].flushPlaced, .wrongState)] s (okReply (resetTrain n s)) := by
  simp only [runResetTrain, u8At_enc1_last, train_byte, indexOf_val]

theorem runSetWaters_eq (w : Waters) : runSetWaters (enc1 w.code) s = okReply (if s.waters = w then s else changeWaters w s) := by
  simp only [runSetWaters, u8At_enc1_last, watersOf_code]

end

/-! ### TRAIN MODE (R151) -/

section
variable {n : Fin 3} {mode : TrainMode} {s : State}

theorem applyTrainMode_same (held : s.trains[n].mode = mode) (stays : mode ≠ .disabled ∨ s.trains[n].state.running = false) :
    applyTrainMode n mode s = s := by
  have written : s.modTrain n (fun w => { w with mode := mode }) = s := by
    rw [modTrain_congr s n (g := fun w => w) (by rw [← held]), State.modTrain, upd_id]
  have quiet : ¬(decide (mode = .disabled) && s.trains[n].state.running) = true := by
    rw [Bool.and_eq_true, decide_eq_true_eq]; rintro ⟨disabled, running⟩; simp_all
  rw [applyTrainMode, if_neg quiet, if_pos held, written]

theorem applyTrainMode_quiet (other : s.trains[n].mode ≠ mode) (stays : mode ≠ .disabled ∨ s.trains[n].state.running = false) :
    applyTrainMode n mode s = stopCheck (startCheck (s.modTrain n fun w => { w with mode := mode })) := by
  have quiet : ¬(decide (mode = .disabled) && s.trains[n].state.running) = true := by
    rw [Bool.and_eq_true, decide_eq_true_eq]; rintro ⟨disabled, running⟩; simp_all
  rw [applyTrainMode, if_neg quiet, if_neg other]

theorem applyTrainMode_halts (other : s.trains[n].mode ≠ mode) (disabled : mode = .disabled) (running : s.trains[n].state.running = true) :
    applyTrainMode n mode s =
      stopCheck (startCheck (haltTrain n .modeDisabled (s.modTrain n fun w => { w with mode := mode }))) := by
  have halts : (decide (mode = .disabled) && s.trains[n].state.running) = true := by rw [disabled, running]; rfl
  rw [applyTrainMode, if_pos halts, if_neg other]

end

/-! ### START TRAIN (R147, R152) -/

theorem startChecks_takeLine (ln : LinkLine) (s : State) (n : Fin 3) : startChecks (takeLine ln s) n = startChecks s n := by
  cases ln <;> rfl

theorem mayStart_iff {s : State} {n : Fin 3} :
    (s.trains[n].mode != .disabled && s.trains[n].state == .off && s.trains[n].rested && !someTrainStarting s) = true ↔
      s.trains[n].mode ≠ .disabled ∧ s.trains[n].state = .off ∧ s.trains[n].rest = none ∧ ∀ m, ¬ Starting s m := by
  rw [Bool.and_eq_true, Bool.and_eq_true, Bool.and_eq_true, bne_iff_ne, beq_iff_eq, Train.rested, Option.isNone_iff_eq_none,
    Bool.not_eq_true', someTrainStarting_eq_false_iff, and_assoc, and_assoc]

section
variable {n : Fin 3} {s : State} (go : State × Reply) {u : State}

theorem checked_start_unnamed (unnamed : ¬ 0 < s.trains[n].defn.ratedPower) :
    checked (startChecks s n) u go = refuse .notConfigured u := checked_fail (decide_eq_false unnamed) _ _ _ _

variable (named : 0 < s.trains[n].defn.ratedPower)
include named

theorem checked_start_named : checked (startChecks s n) u go = checked (startChecks s n).tail u go :=
  checked_pass (decide_eq_true named) _ _ _ _

theorem checked_start_state (mayNot : ¬(s.trains[n].mode ≠ .disabled ∧ s.trains[n].state = .off ∧ s.trains[n].rest = none ∧
    ∀ m, ¬ Starting s m)) : checked (startChecks s n) u go = refuse .wrongState u :=
  (checked_start_named go named).trans (checked_fail (by rw [← Bool.not_eq_true, mayStart_iff]; exact mayNot) _ _ _ _)

variable (may : s.trains[n].mode ≠ .disabled ∧ s.trains[n].state = .off ∧ s.trains[n].rest = none ∧ ∀ m, ¬ Starting s m)
include may

theorem checked_start_may : checked (startChecks s n) u go = checked (startChecks s n).tail.tail u go :=
  (checked_start_named go named).trans (checked_pass (mayStart_iff.mpr may) _ _ _ _)

theorem checked_start_restricted (restricted : s.waters = .restricted) : checked (startChecks s n) u go = refuse .restricted u :=
  (checked_start_may go named may).trans (checked_fail (by rw [restricted]; rfl) _ _ _ _)

variable (opened : s.waters = .opened)
include opened

theorem checked_start_opened : checked (startChecks s n) u go = checked (startChecks s n).tail.tail.tail u go :=
  (checked_start_may go named may).trans (checked_pass (by rw [opened]; rfl) _ _ _ _)

theorem checked_start_noPower (noRoom : ¬ committedLoad s + s.trains[n].defn.ratedPower ≤ effectiveAllowance s) :
    checked (startChecks s n) u go = refuse .noPower u :=
  (checked_start_opened go named may opened).trans
    (checked_fail (by rw [← Bool.not_eq_true, headroomGranted_iff]; exact noRoom) _ _ _ _)

variable (room : committedLoad s + s.trains[n].defn.ratedPower ≤ effectiveAllowance s)
include room

theorem checked_start_room : checked (startChecks s n) u go = checked [(!s.eval.fillCandidates.isEmpty, .none)] u go :=
  (checked_start_opened go named may opened).trans (checked_pass ((headroomGranted_iff _ _).mpr room) _ _ _ _)

theorem checked_start_noCandidate (empty : s.eval.fillCandidates = []) : checked (startChecks s n) u go = refuse .none u :=
  (checked_start_room go named may opened room).trans (checked_fail (by rw [empty]; rfl) _ _ _ _)

theorem checked_start_accepted (candidates : s.eval.fillCandidates ≠ []) : checked (startChecks s n) u go = go :=
  (checked_start_room go named may opened room).trans ((checked_pass (by simpa using candidates) _ _ _ _).trans (checked_nil _ _))

end

/-! ### FLUSH TRAIN, RESET TRAIN and SET WATERS (R150, R153, R154) -/

section
variable {n : Fin 3} {s : State}

theorem flushTrain_unnamed (unnamed : s.trains[n].defn.ratedPower = 0) : flushTrain n s = refuse .notConfigured s := if_pos unnamed

variable (named : 0 < s.trains[n].defn.ratedPower)
include named

theorem flushTrain_off (off : s.trains[n].state = .off) : flushTrain n s = okReply (flushFromOff n s) :=
  (if_neg named.ne').trans (if_pos off)

theorem flushTrain_unflushed (fault : s.trains[n].state = .fault) (unflushed : s.trains[n].faultCause = some .unflushed) :
    flushTrain n s = okReply (flushFromFault n s) :=
  (if_neg named.ne').trans ((if_neg (by rw [fault]; simp)).trans (if_pos ⟨fault, unflushed⟩))

theorem flushTrain_refused (notOff : s.trains[n].state ≠ .off)
    (notUnflushed : s.trains[n].state = .fault → s.trains[n].faultCause ≠ some .unflushed) :
    flushTrain n s = refuse .wrongState s :=
  (if_neg named.ne').trans ((if_neg notOff).trans (if_neg fun ⟨fault, unflushed⟩ => notUnflushed fault unflushed))

end

theorem flushFromOff_eq (n : Fin 3) (s : State) : flushFromOff n s = askFlush n (s.modTrain n fun w =>
    { w with state := .flushWait, stopCause := some .manualFlush, faultCause := none, retry := false,
             flushRemaining := w.defn.flushVolume, flushPlaced := false, flushWait := ⟨0, w.defn.flushWaitMax⟩ }) := by
  rw [flushFromOff, enterFlushWait, modTrain_modTrain]
  exact congrArg (askFlush n) (modTrain_congr s n rfl)

theorem resetTrain_eq (n : Fin 3) (s : State) : resetTrain n s = startCheck (s.modTrain n fun w =>
    { w with state := .off, faultCause := none, stopCause := none, retry := false,
             rest := if w.defn.minRest = 0 then none else some ⟨0, w.defn.minRest⟩ }) := by
  rw [resetTrain, restTrain, modTrain_modTrain]; rfl

/-- Settles O53. -/
theorem trainRequestsAct : Obligations.TrainRequestsAct := by
  intro ln tag n s control
  have train (m : Fin 3) : (takeLine ln s).trains[m] = s.trains[m] := by rw [takeLine_trains]
  refine ⟨fun mode u hu => ⟨fun held stays => ?_, fun other stays => ?_, fun other disabled running => ?_⟩,
    fun named may headroom hnamed hmay hroom answers hanswers => ?_, fun running => ?_, fun stands => ?_, fun unnamed => ?_,
    fun named => ⟨fun off => ?_, fun fault unflushed => ?_, fun notOff notUnflushed => ?_⟩, fun fault free => ?_, fun cannot => ?_,
    fun w => ⟨fun held => ?_, fun other opened => ?_, fun other restricted => ?_⟩⟩
  · refine operation_outcome (own := ownTrainMode) control rfl rfl ((runTrainMode_eq n _ mode).trans ?_)
    rw [applyTrainMode_same (by rw [train]; exact held) (by rw [train]; exact stays)]; rfl
  · refine operation_outcome (own := ownTrainMode) control rfl rfl ((runTrainMode_eq n _ mode).trans ?_)
    rw [applyTrainMode_quiet (by rw [train]; exact other) (by rw [train]; exact stays), hu]; rfl
  · refine operation_outcome (own := ownTrainMode) control rfl rfl ((runTrainMode_eq n _ mode).trans ?_)
    rw [applyTrainMode_halts (by rw [train]; exact other) disabled (by rw [train]; exact running), hu]; rfl
  · have answered {a : State × Reply} (run : checked (startChecks s n) (takeLine ln s) (okReply (beginTrain n (takeLine ln s))) = a) :
        answers a :=
      (hanswers a).mpr (operation_outcome (own := ownStartTrain) control rfl rfl
        ((runStartTrain_eq n _).trans (by rw [startChecks_takeLine]; exact run)))
    rw [hnamed, hmay, hroom]
    exact ⟨fun unnamed => answered (checked_start_unnamed _ unnamed), fun named mayNot => answered (checked_start_state _ named mayNot),
      fun named may restricted => answered (checked_start_restricted _ named may restricted),
      fun named may opened noRoom => answered (checked_start_noPower _ named may opened noRoom),
      fun named may opened room empty => answered (checked_start_noCandidate _ named may opened room empty),
      fun named may opened room candidates => answered ((checked_start_accepted _ named may opened room candidates).trans
        (by rw [beginTrain]; cases ln <;> rfl))⟩
  · exact operation_outcome (own := ownStopTrain) control rfl rfl ((runStopTrain_eq n _).trans
      ((checked_pass (by rw [train]; exact running) _ _ _ _).trans (checked_nil _ _)))
  · exact operation_outcome (own := ownStopTrain) control rfl rfl ((runStopTrain_eq n _).trans
      (checked_fail (by rw [train]; exact stands) _ _ _ _))
  · exact operation_outcome (own := ownFlushTrain) control rfl rfl ((runFlushTrain_eq n _).trans
      (flushTrain_unnamed (by rw [train]; exact unnamed)))
  · refine operation_outcome (own := ownFlushTrain) control rfl rfl ((runFlushTrain_eq n _).trans
      ((flushTrain_off (by rw [train]; exact named) (by rw [train]; exact off)).trans ?_))
    rw [flushFromOff_eq]; rfl
  · exact operation_outcome (own := ownFlushTrain) control rfl rfl ((runFlushTrain_eq n _).trans
      (flushTrain_unflushed (by rw [train]; exact named) (by rw [train]; exact fault) (by rw [train]; exact unflushed)))
  · exact operation_outcome (own := ownFlushTrain) control rfl rfl ((runFlushTrain_eq n _).trans
      (flushTrain_refused (by rw [train]; exact named) (by rw [train]; exact notOff) (by rw [train]; exact notUnflushed)))
  · refine operation_outcome (own := ownResetTrain) control rfl rfl ((runResetTrain_eq n _).trans
      ((checked_pass (by rw [train, fault, free]; rfl) _ _ _ _).trans ((checked_nil _ _).trans ?_)))
    rw [resetTrain_eq]; rfl
  · refine operation_outcome (own := ownResetTrain) control rfl rfl ((runResetTrain_eq n _).trans (checked_fail ?_ _ _ _ _))
    rw [train, ← Bool.not_eq_true, Bool.and_eq_true, beq_iff_eq, Bool.not_eq_true', ← Bool.not_eq_true]
    tauto
  · refine operation_outcome (own := ownSetWaters) control rfl rfl ((runSetWaters_eq _ w).trans ?_)
    rw [takeLine_waters, if_pos held]; rfl
  · refine operation_outcome (own := ownSetWaters) control rfl rfl ((runSetWaters_eq _ w).trans ?_)
    rw [takeLine_waters, if_neg other, opened]; rfl
  · refine operation_outcome (own := ownSetWaters) control rfl rfl ((runSetWaters_eq _ w).trans ?_)
    rw [takeLine_waters, if_neg other, restricted]; rfl

/-! ### DEFINE TRAIN (R155) -/

theorem clamps_eq_false_iff {lo hi x : Nat} (order : lo ≤ hi) : clamps lo hi x = false ↔ clampTo lo hi x = x := by
  rw [clamps_eq, Bool.not_eq_false', Bool.and_eq_true, decide_eq_true_eq, decide_eq_true_eq, clampTo]; omega

theorem eq_not_decide_iff {b : Bool} {p : Prop} [Decidable p] : b = !decide p ↔ (b = false ↔ p) := by
  by_cases h : p <;> simp [h]

/-- A train definition with its time fields clamped (R155). -/
def TrainDef.clamped (d : TrainDef) : TrainDef :=
  { d with
    primeTime := max 10 (min 600 d.primeTime), rampTime := max 10 (min 300 d.rampTime)
    qualificationHold := max 10 (min 900 d.qualificationHold), divertMax := max 60 (min 3600 d.divertMax)
    flushWaitMax := max 30 (min 900 d.flushWaitMax), minRun := min 7200 d.minRun, minRest := min 3600 d.minRest
    productStall := max 10 (min 300 d.productStall) }

/-- The bytes of a DEFINE TRAIN whose last byte names any line. -/
def trainBytes (n : Fin 3) (d : TrainDef) (x : Nat) : List Byte :=
  enc1 n.val ++ enc1 d.ratedPower ++ (trainTimes d).flatMap enc2 ++ enc1 x

theorem trainBody_eq (n : Fin 3) (d : TrainDef) : trainBody n d = trainBytes n d d.flushLine.val := rfl

theorem trainBytes_index (n : Fin 3) (d : TrainDef) (x : Nat) : u8At (trainBytes n d x) 0 = n.val := by simp [trainBytes]

theorem trainBytes_power {n : Fin 3} {d : TrainDef} (byte : d.ratedPower < 256) (x : Nat) :
    u8At (trainBytes n d x) 1 = d.ratedPower := by
  simp [trainBytes, Nat.mod_eq_of_lt byte]

theorem trainBytes_line (n : Fin 3) (d : TrainDef) {x : Nat} (byte : x < 256) : u8At (trainBytes n d x) 22 = x := by
  have front : (enc1 n.val ++ enc1 d.ratedPower ++ (trainTimes d).flatMap enc2).length = 22 := by
    rw [List.length_append, flatMap_enc2_length]; rfl
  exact (u8At_append_right front (enc1 x) 0).trans (by simp [Nat.mod_eq_of_lt byte])

theorem trainBytes_word (n : Fin 3) {d : TrainDef} (last : Nat) {i x : Nat} (found : (trainTimes d)[i]? = some x) :
    u16At (trainBytes n d last) (2 * i + 2) = x % 65536 := by
  obtain ⟨h, rfl⟩ := List.getElem?_eq_some_iff.mp found
  have front : (enc1 n.val ++ enc1 d.ratedPower).length = 2 := rfl
  rw [trainBytes, List.append_assoc, u16At_append_right front, u16At_flatMap_enc2 _ _ _ h]

theorem trainValuesOk_trainBytes (n : Fin 3) {d : TrainDef} (last : Nat) (power : d.ratedPower < 256) (salt : d.salinityLimit < 65536)
    (flush : d.flushVolume < 65536) : trainValuesOk (trainBytes n d last) = true ↔
      d.ratedPower ≤ 80 ∧ 50 ≤ d.salinityLimit ∧ d.salinityLimit ≤ 2000 ∧ 20 ≤ d.flushVolume ∧ d.flushVolume ≤ 1000 := by
  rw [trainValuesOk, trainBytes_power power, trainBytes_word (i := 4) n last rfl, trainBytes_word (i := 5) n last rfl,
    Nat.mod_eq_of_lt salt, Nat.mod_eq_of_lt flush, Bool.and_eq_true, Bool.and_eq_true, inRange_eq_true_iff, inRange_eq_true_iff,
    decide_eq_true_eq, and_assoc, and_assoc]

theorem trainBody_power {n : Fin 3} {d : TrainDef} (small : d.ratedPower ≤ 80) : u8At (trainBody n d) 1 = d.ratedPower :=
  trainBytes_power (by omega) _

theorem trainBody_line (n : Fin 3) (d : TrainDef) : u8At (trainBody n d) 22 = d.flushLine.val :=
  trainBytes_line n d (by omega)

theorem trainBody_word {n : Fin 3} {d : TrainDef} (words : ∀ x ∈ trainTimes d, x < 65536) {i x : Nat}
    (found : (trainTimes d)[i]? = some x) : u16At (trainBody n d) (2 * i + 2) = x := by
  rw [trainBody_eq, trainBytes_word n _ found, Nat.mod_eq_of_lt (words _ (List.mem_of_getElem? found))]

section
variable {n : Fin 3} {d : TrainDef} (power : d.ratedPower ≤ 80) (words : ∀ x ∈ trainTimes d, x < 65536)
include power words

theorem trainDefOf_trainBody : trainDefOf (trainBody n d) d.flushLine = d.clamped := by
  have word {i x : Nat} (found : (trainTimes d)[i]? = some x) := trainBody_word (n := n) words found
  rw [trainDefOf, trainBody_power power, word (i := 0) rfl, word (i := 1) rfl, word (i := 2) rfl, word (i := 3) rfl,
    word (i := 4) rfl, word (i := 5) rfl, word (i := 6) rfl, word (i := 7) rfl, word (i := 8) rfl, word (i := 9) rfl]
  simp only [clampTo, Nat.zero_max, TrainDef.clamped]

theorem trainClamped_trainBody : trainClamped (trainBody n d) = !decide (d.clamped = d) := by
  have word {i x : Nat} (found : (trainTimes d)[i]? = some x) := trainBody_word (n := n) words found
  rw [trainClamped, word (i := 0) rfl, word (i := 1) rfl, word (i := 2) rfl, word (i := 3) rfl,
    word (i := 6) rfl, word (i := 7) rfl, word (i := 8) rfl, word (i := 9) rfl, eq_not_decide_iff]
  simp only [Bool.or_eq_false_iff, clamps_eq_false_iff (show 10 ≤ 600 by omega), clamps_eq_false_iff (show 10 ≤ 300 by omega),
    clamps_eq_false_iff (show 10 ≤ 900 by omega), clamps_eq_false_iff (show 60 ≤ 3600 by omega),
    clamps_eq_false_iff (show 30 ≤ 900 by omega), clamps_eq_false_iff (Nat.zero_le _), clampTo, Nat.zero_max]
  obtain ⟨⟩ := d
  simp only [TrainDef.clamped, TrainDef.mk.injEq, true_and, and_true, and_assoc]

end

theorem Train.free_iff {w : Train} : w.free = true ↔ (w.state = .off ∨ w.state = .fault) ∧ w.flushPlaced = false := by
  rw [Train.free, Bool.and_eq_true, Bool.or_eq_true, beq_iff_eq, beq_iff_eq, Bool.not_eq_true']

theorem Train.define_eq (d : TrainDef) : Train.define d = fun w => if d.ratedPower = 0 ∧ w.state = .fault then
    { w with defn := d, state := .off, stopCause := none, faultCause := none, rest := none, retry := false }
    else { w with defn := d } := by
  funext w
  simp only [Train.define, Bool.and_eq_true, decide_eq_true_eq, beq_iff_eq]

/-- Settles O54. -/
theorem defineTrainWritesTheDefinition : Obligations.DefineTrainWritesTheDefinition := by
  intro ln tag n d d' s may power lowSalt highSalt lowFlush highFlush words hd'
  have hclamped : d' = d.clamped := hd'
  have index : u8At (trainBody n d) 0 = n.val := trainBytes_index n d _
  have valuesOk : trainValuesOk (trainBody n d) = true :=
    (trainValuesOk_trainBytes n _ (by omega) (by omega) (by omega)).mpr ⟨power, lowSalt, highSalt, lowFlush, highFlush⟩
  have run (u : State) : runDefineTrain (trainBody n d) u = checked [(u.trains[n].free, .busy)] u
      (accept (!decide (d' = d)) (startCheck (u.modTrain n (Train.define d')))) := by
    simp only [runDefineTrain, defineTrain, index, valuesOk, Bool.not_true, Bool.false_eq_true, if_false,
      trainBody_line, indexOf_val, trainDefOf_trainBody power words, trainClamped_trainBody power words, hclamped]
  refine ⟨fun busy => ?_, fun rests free => ?_⟩
  · refine configuration_outcome (own := ownDefineTrain) may rfl rfl
      ((run _).trans (checked_fail ?_ _ _ _ _))
    rw [takeLine_trains, ← Bool.not_eq_true, Train.free_iff, ← Bool.not_eq_true]
    tauto
  · refine configuration_outcome (own := ownDefineTrain) may rfl rfl
      ((run _).trans ((checked_pass (by rw [takeLine_trains]; exact Train.free_iff.mpr ⟨rests, free⟩) _ _ _ _).trans
        ((checked_nil _ _).trans ?_)))
    have power : d'.ratedPower = d.ratedPower := by rw [hclamped]; rfl
    rw [accept, okOr_eq rfl, Train.define_eq, power]

end Sys2Proof.Machine
end


section
/-!
The Pressure Sets: what a change of a set settles (R124 to R126), the events of the sets (R125, R127 to R129) and the requests to them
(R131 to R133).
-/

namespace Sys2Proof.Machine

/-! ### The designation and the start of the duty set (R124, R125) -/

/-- Whether the designation moves: the duty set is not usable and the standby is (R124). -/
def changesOver (s : State) : Bool := !s.sets.sets[s.sets.duty].usable && s.sets.sets[otherSet s.sets.duty].usable

theorem changesOver_iff {s : State} : changesOver s = true ↔
    s.sets.sets[s.sets.duty].usable = false ∧ s.sets.sets[otherSet s.sets.duty].usable = true := by
  rw [changesOver, Bool.and_eq_true, Bool.not_eq_true']

/-- The set that is duty once the designation has been looked at (R124). -/
def designated (s : State) : Fin 2 := if changesOver s then otherSet s.sets.duty else s.sets.duty

theorem designated_ne_iff {s : State} : designated s ≠ s.sets.duty ↔ changesOver s = true := by
  rw [designated]; split
  · simp [*, otherSet_ne]
  · simp [*]

/-- A notice is posted to the same queue from states of the same time and link. -/
theorem post_link_congr {s u : State} (n : NoticeBody) (link : u.link = s.link) (now : u.now = s.now) :
    (post n u).link = (post n s).link := by
  simp only [post, link, now]
  split <;> simp

theorem designate_eq (cause : ChangeoverCause) (s : State) : designate cause s = if changesOver s then
    post (.setChangeover (otherSet s.sets.duty) cause s.sets.duty) { s with sets := { s.sets with duty := otherSet s.sets.duty } }
    else s := rfl

section
variable (cause : ChangeoverCause) (s : State)

theorem designate_sets : (designate cause s).sets = { s.sets with duty := designated s } := by
  rw [designate_eq, designated]; split
  · rw [post_sets]
  · rfl

theorem designate_eval : (designate cause s).eval = s.eval := by rw [designate_eq]; split <;> simp
theorem designate_power : (designate cause s).power = s.power := by rw [designate_eq]; split <;> simp
theorem designate_arb : (designate cause s).arb = s.arb := by rw [designate_eq]; split <;> simp

theorem designate_link : (designate cause s).link =
    (if designated s = s.sets.duty then s else post (.setChangeover (designated s) cause s.sets.duty) s).link := by
  by_cases moves : changesOver s = true
  · have other : designated s = otherSet s.sets.duty := if_pos moves
    rw [designate_eq, if_pos moves, if_neg (designated_ne_iff.mpr moves), other]
    exact post_link_congr _ rfl rfl
  · have same : designated s = s.sets.duty := if_neg moves
    rw [designate_eq, if_neg moves, if_pos same]

end

/-- Whether the duty set starts (R125). -/
def dutyStarts (s : State) : Bool := s.eval.dutyTank.isSome && (dutySet s).state == .idle && (dutySet s).usable

theorem dutyStarts_iff {s : State} : dutyStarts s = true ↔ s.eval.dutyTank ≠ none ∧ s.sets.sets[s.sets.duty].state = .idle ∧
    s.sets.sets[s.sets.duty].usable = true := by
  rw [dutyStarts, Bool.and_eq_true, Bool.and_eq_true, beq_iff_eq, Option.isSome_iff_ne_none, and_assoc]; rfl

theorem startDuty_eq (s : State) : startDuty s = if dutyStarts s then startSet s.sets.duty s else s := rfl

theorem startSet_sets (x y : Fin 2) (s : State) : (startSet x s).sets.sets[y] =
    if y = x then { s.sets.sets[x] with state := .starting, startTimer := ⟨0, s.sets.settings.startProof⟩ } else s.sets.sets[y] :=
  modSet_get s x y _

section
variable (s : State)

theorem startDuty_get (x : Fin 2) : (startDuty s).sets.sets[x] = if x = s.sets.duty ∧ dutyStarts s = true then
    { s.sets.sets[x] with state := .starting, startTimer := ⟨0, s.sets.settings.startProof⟩ } else s.sets.sets[x] := by
  rw [startDuty_eq]
  by_cases starts : dutyStarts s = true
  · rw [if_pos starts, startSet_sets]
    by_cases here : x = s.sets.duty
    · rw [if_pos here, if_pos ⟨here, starts⟩, here]
    · rw [if_neg here, if_neg fun h => here h.1]
  · rw [if_neg starts, if_neg fun h => starts h.2]

theorem startDuty_duty : (startDuty s).sets.duty = s.sets.duty := by rw [startDuty_eq]; split <;> rfl
theorem startDuty_settings : (startDuty s).sets.settings = s.sets.settings := by rw [startDuty_eq]; split <;> rfl
theorem startDuty_alternationTimer : (startDuty s).sets.alternationTimer = s.sets.alternationTimer := by
  rw [startDuty_eq]; split <;> rfl
theorem startDuty_eval : (startDuty s).eval = s.eval := by rw [startDuty_eq]; split <;> rfl
theorem startDuty_power : (startDuty s).power = s.power := by rw [startDuty_eq]; split <;> rfl
theorem startDuty_arb : (startDuty s).arb = s.arb := by rw [startDuty_eq]; split <;> rfl
theorem startDuty_link : (startDuty s).link = s.link := by rw [startDuty_eq]; split <;> rfl

end

/-! ### A settled change (R124 to R126) -/

/-- Working the supply out changes the sets' figures and the Arbiter's alone. -/
theorem workOutSupply_besideArbiter (s : State) :
    SameBesideArbiter { s with sets := { s.sets with supply := supplyNow s, grantCapacity := capacityNow s } } (workOutSupply s) :=
  takeSupply_besideArbiter _ _ _

/-- The state in which the duty set has been designated and has started, its supply still to be worked out. -/
def dutySettled (cause : ChangeoverCause) (s : State) : State := startDuty (designate cause (workOutSupply s))

theorem settleSets_eq (cause : ChangeoverCause) (s : State) : settleSets cause s = workOutSupply (dutySettled cause s) := rfl

theorem changesOver_congr {s u : State} (sets : u.sets.sets = s.sets.sets) (duty : u.sets.duty = s.sets.duty) :
    changesOver u = changesOver s := by simp only [changesOver, sets, duty]

theorem designated_congr {s u : State} (sets : u.sets.sets = s.sets.sets) (duty : u.sets.duty = s.sets.duty) :
    designated u = designated s := by simp only [designated, changesOver_congr sets duty, duty]

section
variable (cause : ChangeoverCause) (s : State)

theorem designated_workOutSupply : designated (workOutSupply s) = designated s :=
  designated_congr (by rw [workOutSupply_sets]) (by rw [workOutSupply_sets])

theorem dutySettled_duty : (dutySettled cause s).sets.duty = designated s := by
  rw [dutySettled, startDuty_duty, designate_sets, designated_workOutSupply]

/-- Whether the duty set starts once it has been designated. -/
def settledStarts : Bool := dutyStarts (designate cause (workOutSupply s))

theorem settledStarts_iff : settledStarts cause s = true ↔ s.eval.dutyTank ≠ none ∧ s.sets.sets[designated s].state = .idle ∧
    s.sets.sets[designated s].usable = true := by
  have eval : (designate cause (workOutSupply s)).eval = s.eval := (designate_eval _ _).trans (workOutSupply_besideArbiter s).eval
  simp only [settledStarts, dutyStarts_iff, eval, designate_sets, designated_workOutSupply, workOutSupply_sets]

theorem dutySettled_get (x : Fin 2) : (dutySettled cause s).sets.sets[x] = if x = designated s ∧ settledStarts cause s = true then
    { s.sets.sets[x] with state := .starting, startTimer := ⟨0, s.sets.settings.startProof⟩ } else s.sets.sets[x] := by
  rw [dutySettled, startDuty_get]
  simp only [designate_sets, designated_workOutSupply, workOutSupply_sets]; rfl

theorem dutySettled_settings : (dutySettled cause s).sets.settings = s.sets.settings := by
  rw [dutySettled, startDuty_settings, designate_sets, workOutSupply_sets]
theorem dutySettled_alternationTimer : (dutySettled cause s).sets.alternationTimer = s.sets.alternationTimer := by
  rw [dutySettled, startDuty_alternationTimer, designate_sets, workOutSupply_sets]
theorem dutySettled_eval : (dutySettled cause s).eval = s.eval := by
  rw [dutySettled, startDuty_eval, designate_eval, (workOutSupply_besideArbiter s).eval]
theorem dutySettled_tanks : (dutySettled cause s).tanks = s.tanks := by
  rw [dutySettled, startDuty_tanks, designate_tanks, (workOutSupply_besideArbiter s).tanks]
theorem dutySettled_power : (dutySettled cause s).power = s.power := by
  rw [dutySettled, startDuty_power, designate_power, (workOutSupply_besideArbiter s).power]
theorem dutySettled_arb : (dutySettled cause s).arb = (workOutSupply s).arb := by
  rw [dutySettled, startDuty_arb, designate_arb]

theorem dutySettled_link : (dutySettled cause s).link =
    (if designated s = s.sets.duty then s else post (.setChangeover (designated s) cause s.sets.duty) s).link := by
  have frame := workOutSupply_besideArbiter s
  have duty : (workOutSupply s).sets.duty = s.sets.duty := by rw [workOutSupply_sets]
  rw [dutySettled, startDuty_link, designate_link, designated_workOutSupply, duty]
  split
  · exact frame.link
  · exact post_link_congr _ frame.link frame.now

end

/-- Settles O48. -/
theorem settledSetsAgree : Obligations.SettledSetsAgree := by
  intro cause s t held ht
  have frame := workOutSupply_besideArbiter (dutySettled cause s)
  have sets := workOutSupply_sets (dutySettled cause s)
  rw [← settleSets_eq, ← ht] at frame sets
  obtain ⟨supplyHeldBefore, capacityHeldBefore⟩ := workOutSupply_held held
  obtain ⟨supplyHeld, capacityHeld⟩ := workOutSupply_held (s := dutySettled cause s) (by
    rw [dutySettled_arb, supplyHeldBefore, capacityHeldBefore]; exact capacityNow_of_down)
  rw [← settleSets_eq, ← ht] at supplyHeld capacityHeld
  have duty : t.sets.duty = designated s := by rw [sets]; exact dutySettled_duty cause s
  have supply : t.sets.supply = supplyNow (dutySettled cause s) := by rw [sets]
  have capacity : t.sets.grantCapacity = capacityNow (dutySettled cause s) := by rw [sets]
  have get (x : Fin 2) : t.sets.sets[x] = if x = designated s ∧ settledStarts cause s = true then
      { s.sets.sets[x] with state := .starting, startTimer := ⟨0, s.sets.settings.startProof⟩ } else s.sets.sets[x] := by
    rw [← dutySettled_get cause s x, sets]
  have dutyGet : t.sets.sets[t.sets.duty] = (dutySettled cause s).sets.sets[(dutySettled cause s).sets.duty] :=
    (congrArg (fun p : PressureSets => p.sets[p.duty]) sets).trans rfl
  have dutyRuns (x : Fin 2) (hx : x = designated s) (hasTank : s.eval.dutyTank ≠ none) (usable : t.sets.sets[x].usable = true) :
      t.sets.sets[x].state ≠ .idle := by
    subst hx
    intro idle
    have record := get (designated s)
    by_cases starts : settledStarts cause s = true
    · rw [if_pos ⟨rfl, starts⟩] at record
      rw [record] at idle; cases idle
    · rw [if_neg fun h => starts h.2] at record
      rw [record] at usable idle
      exact starts ((settledStarts_iff cause s).mpr ⟨hasTank, idle, usable⟩)
  have settings : t.sets.settings = s.sets.settings := by rw [sets]; exact dutySettled_settings cause s
  refine ⟨?_, fun up => ?_, fun down => ?_, supplyHeld.trans supply.symm, capacityHeld.trans capacity.symm, ?_, fun hasTank usable idle => ?_,
    fun x => ?_, settings, ?_, frame.eval.trans (dutySettled_eval cause s), frame.tanks.trans (dutySettled_tanks cause s),
    frame.power.trans (dutySettled_power cause s), ?_⟩
  · rw [supply, supplyNow_eq_up_iff, dutyGet]
  · rw [capacity, capacityNow_of_up (supply.symm.trans up), dutyGet, settings, dutySettled_settings]
  · rw [capacity, capacityNow_of_down (supply.symm.trans down)]
  · rw [duty, designated_ne_iff, changesOver_iff]
  · exact dutyRuns _ duty hasTank usable idle
  · rw [get]; split
    · rename_i here
      obtain ⟨rfl, starts⟩ := here
      obtain ⟨hasTank, idle, -⟩ := (settledStarts_iff cause s).mp starts
      exact .inr ⟨duty.symm, idle, hasTank, rfl⟩
    · exact .inl rfl
  · rw [sets]; exact dutySettled_alternationTimer cause s
  · rw [duty, ← dutySettled_link, frame.link]

/-! ### The events of the sets (R125, R127 to R129) -/

theorem usable_iff {p : PressureSet} : p.usable = true ↔
    0 < p.defn.capacity ∧ (p.state = .idle ∨ p.state = .starting ∨ p.state = .running) := by
  simp only [PressureSet.usable, Bool.and_eq_true, decide_eq_true_eq, Bool.or_eq_true, beq_iff_eq, or_assoc]

theorem setProves_duty {x : Fin 2} {s : State} (duty : x = s.sets.duty) :
    setProves x s = workOutSupply (s.modSet x fun p => { p with state := .running, lossTimer := 0 }) := if_pos duty

theorem setProves_standby {x : Fin 2} {s : State} (standby : x ≠ s.sets.duty) {v : State}
    (hv : v = (s.modSet x fun p => { p with state := .running, lossTimer := 0 }).modSet s.sets.duty fun p =>
      { p with state := .idle, lossTimer := 0 }) :
    setProves x s = workOutSupply (post (.setChangeover x .alternation s.sets.duty) { v with sets := { v.sets with duty := x } }) := by
  subst hv; exact if_neg standby

section
variable {s : State} {standby : Fin 2} (other : standby = otherSet s.sets.duty)
include other

theorem tryAlternation_starts (up : s.sets.supply = .up) (idle : s.sets.sets[standby].state = .idle)
    (capacity : 0 < s.sets.sets[standby].defn.capacity) : tryAlternation s = startSet standby s := by
  subst other
  refine if_pos ?_
  rw [Bool.and_eq_true, Bool.and_eq_true, beq_iff_eq, beq_iff_eq, usable_iff]
  exact ⟨⟨up, idle⟩, capacity, .inl idle⟩

theorem tryAlternation_waits (cannot : s.sets.supply = .down ∨ s.sets.sets[standby].state ≠ .idle ∨
    s.sets.sets[standby].defn.capacity = 0) : tryAlternation s = s := by
  subst other
  refine if_neg ?_
  rw [Bool.and_eq_true, Bool.and_eq_true, beq_iff_eq, beq_iff_eq, usable_iff]
  rintro ⟨⟨up, idle⟩, capacity, -⟩
  obtain down | notIdle | zero := cannot
  · rw [down] at up; cases up
  · exact notIdle idle
  · omega

end

/-- The alternation timer has been started again toward the period in force, or made absent (R128). -/
def alternationRenewed (s : State) : State := { s with sets := { s.sets with
  alternationTimer := if s.sets.settings.alternation = 0 then none else some ⟨0, s.sets.settings.alternation⟩ } }

theorem alternates_eq (s : State) : alternates s = tryAlternation (alternationRenewed s) := rfl

/-- Settles O49. -/
theorem setEventsAct : Obligations.SetEventsAct := by
  refine ⟨fun x s due starting closed u hu => ⟨fun duty => ?_, fun standby v hv => ?_⟩, fun x s due starting ranOut => ?_,
    fun x s due running opened => ?_, fun s g due timer ranOut u hu standby other => ?_⟩
  · refine (congrArg done (takeDue_taken (setProves x) due (by rw [starting, closed]; rfl))).trans ?_
    rw [setProves_duty (by rw [took_sets]; exact duty), hu]; rfl
  · refine (congrArg done (takeDue_taken (setProves x) due (by rw [starting, closed]; rfl))).trans ?_
    rw [setProves_standby (by rw [took_sets]; exact standby) (hv.trans (by rw [hu]; rfl))]; rfl
  · exact congrArg done (takeDue_taken (startFails x) due (by rw [starting, Timer.expired_iff.mpr ranOut]; rfl))
  · exact congrArg done (takeDue_taken (proofLost x) due (by rw [running, opened]; rfl))
  · have still : s.sets.alternationTimer.any alternationExpired = true := by
      rw [timer, Option.any_some, alternationExpired, decide_eq_true_eq]; exact ranOut
    have taken : exec .alternationExpiry s = done (tryAlternation u) := by
      refine (congrArg done (takeDue_taken alternates due still)).trans ?_
      rw [alternates_eq, hu]; rfl
    have duty : u.sets.duty = s.sets.duty := by rw [hu]
    have record (x : Fin 2) : u.sets.sets[x] = s.sets.sets[x] := by rw [hu]
    have supply : u.sets.supply = s.sets.supply := by rw [hu]
    have settings : u.sets.settings = s.sets.settings := by rw [hu]
    refine ⟨fun up idle capacity => ⟨startSet standby u, ?_, ?_⟩, fun cannot => ?_⟩
    · rw [taken, tryAlternation_starts (standby := standby) (other.trans (by rw [duty])) (supply.trans up) (by rw [record]; exact idle)
        (by rw [record]; exact capacity), done]
    · rw [← settings]; rfl
    · rw [taken, tryAlternation_waits (standby := standby) (other.trans (by rw [duty])) (by rw [supply, record]; exact cannot), done]

/-! ### The requests to the sets (R131, R132) -/

theorem runPressureSetService_eq (x : Fin 2) (on : Bool) (s : State) : runPressureSetService (enc1 x.val ++ enc1 (if on then 1 else 0)) s =
    okReply (if on then serviceIn x s else serviceOut x s) := by
  have index : u8At (enc1 x.val ++ enc1 (if on then 1 else 0)) 0 = x.val := by simp
  have setting : settingOf (u8At (enc1 x.val ++ enc1 (if on then 1 else 0)) 1) = some on := by cases on <;> simp [settingOf]
  simp only [runPressureSetService, index, setting, indexOf_val]

theorem runResetPressureSet_eq (x : Fin 2) (s : State) : runResetPressureSet (enc1 x.val) s =
    checked [(s.sets.sets[x].state == .failed, .wrongState)] s (okReply (settleSets .recovery (s.modSet x (stopSet .idle)))) := by
  simp only [runResetPressureSet, u8At_enc1_last, set_byte, indexOf_val]

/-! ### DEFINE SETS (R133) -/

section
variable {a b : SetDef} {r : SetSettings} {hold : Nat}

theorem allSets_eq : allSets = [0, 1] := by decide

theorem setsBody_fields : u16At (setsBody a b r hold) 0 = a.capacity % 65536 ∧ u8At (setsBody a b r hold) 2 = a.ratedPower % 256 ∧
    u16At (setsBody a b r hold) 3 = b.capacity % 65536 ∧ u8At (setsBody a b r hold) 5 = b.ratedPower % 256 ∧
    u16At (setsBody a b r hold) 6 = r.reserve % 65536 ∧ u8At (setsBody a b r hold) 8 = r.startProof % 256 ∧
    u8At (setsBody a b r hold) 9 = r.changeover % 256 ∧ u16At (setsBody a b r hold) 10 = r.alternation % 65536 ∧
    u16At (setsBody a b r hold) 12 = hold % 65536 := by
  simp [setsBody]

/-- The settings of the sets with their time fields clamped (R133). -/
def SetSettings.clamped (r : SetSettings) : SetSettings :=
  { reserve := r.reserve, startProof := max 3 (min 60 r.startProof), changeover := max 2 (min 60 r.changeover),
    alternation := min 336 r.alternation }

/-- The state in which the fields of a DEFINE SETS have been written (R128, R133). -/
def setsWritten (a b : SetDef) (r' : SetSettings) (hold : Nat) (s : State) : State :=
  { s with
    sets := { s.sets with
      sets := #v[{ s.sets.sets[(0 : Fin 2)] with defn := a }, { s.sets.sets[(1 : Fin 2)] with defn := b }]
      settings := r'
      alternationTimer := if s.sets.alternationTimer = none ∧ 0 < r'.alternation then some ⟨0, r'.alternation⟩
        else s.sets.alternationTimer }
    arb := { s.arb with supplyLossHold := max 5 (min 300 hold) } }

variable (capA : a.capacity ≤ 600) (capB : b.capacity ≤ 600) (powerA : a.ratedPower ≤ 250) (powerB : b.ratedPower ≤ 250)

section
include capA powerA

theorem setDefOf_setsBody_zero : setDefOf (setsBody a b r hold) 0 = a := by
  obtain ⟨cap, power, -⟩ := setsBody_fields (a := a) (b := b) (r := r) (hold := hold)
  rw [Nat.mod_eq_of_lt (by omega)] at cap power
  rw [setDefOf, if_pos rfl, cap, power]

end

section
include capB powerB

theorem setDefOf_setsBody_one : setDefOf (setsBody a b r hold) 1 = b := by
  obtain ⟨-, -, cap, power, -⟩ := setsBody_fields (a := a) (b := b) (r := r) (hold := hold)
  rw [Nat.mod_eq_of_lt (by omega)] at cap power
  rw [setDefOf, if_neg (by decide), cap, power]

end

variable (reserve : r.reserve ≤ 600) (startProof : r.startProof < 256) (changeover : r.changeover < 256)
  (alternation : r.alternation < 65536) (word : hold < 65536)

section
include reserve startProof changeover alternation

theorem setSettingsOf_setsBody : setSettingsOf (setsBody a b r hold) = r.clamped := by
  obtain ⟨-, -, -, -, hreserve, hstart, hchange, halternation, -⟩ := setsBody_fields (a := a) (b := b) (r := r) (hold := hold)
  rw [Nat.mod_eq_of_lt (by omega)] at hreserve hstart hchange halternation
  rw [setSettingsOf, hreserve, hstart, hchange, halternation]
  simp only [clampTo, Nat.zero_max, SetSettings.clamped]

end

section
include startProof changeover alternation word

theorem setsClamped_setsBody : setsClamped (setsBody a b r hold) = !(3 ≤ r.startProof && r.startProof ≤ 60 && 2 ≤ r.changeover &&
    r.changeover ≤ 60 && r.alternation ≤ 336 && 5 ≤ hold && hold ≤ 300) := by
  obtain ⟨-, -, -, -, -, hstart, hchange, halternation, hhold⟩ := setsBody_fields (a := a) (b := b) (r := r) (hold := hold)
  rw [Nat.mod_eq_of_lt (by omega)] at hstart hchange halternation hhold
  rw [setsClamped, hstart, hchange, halternation, hhold]
  simp only [clamps_eq, ← Bool.not_and, Bool.and_assoc, Nat.zero_le, decide_true, Bool.true_and]

end

include capA capB powerA powerB reserve startProof changeover alternation word

theorem writeSets_setsBody (s : State) : writeSets (setsBody a b r hold) s = setsWritten a b r.clamped hold s := by
  obtain ⟨-, -, -, -, -, -, -, -, hhold⟩ := setsBody_fields (a := a) (b := b) (r := r) (hold := hold)
  rw [Nat.mod_eq_of_lt word] at hhold
  have sets : (updAll s.sets.sets fun x p => { p with defn := setDefOf (setsBody a b r hold) x }) =
      #v[{ s.sets.sets[(0 : Fin 2)] with defn := a }, { s.sets.sets[(1 : Fin 2)] with defn := b }] := by
    refine Vector.ext fun i hi => ?_
    have place : i = 0 ∨ i = 1 := by omega
    obtain rfl | rfl := place
    · exact (updAll_get s.sets.sets (0 : Fin 2) _).trans (by rw [setDefOf_setsBody_zero capA powerA]; rfl)
    · exact (updAll_get s.sets.sets (1 : Fin 2) _).trans (by rw [setDefOf_setsBody_one capB powerB]; rfl)
  have settings := setSettingsOf_setsBody (a := a) (b := b) (hold := hold) reserve startProof changeover alternation
  have timer : (writeSets (setsBody a b r hold) s).sets.alternationTimer =
      if s.sets.alternationTimer = none ∧ 0 < r.clamped.alternation then some ⟨0, r.clamped.alternation⟩
        else s.sets.alternationTimer := by
    rw [writeSets, settings]
    cases s.sets.alternationTimer with
    | none =>
      by_cases zero : r.clamped.alternation = 0
      · simp only [zero, if_true, lt_irrefl, and_false, if_false]
      · simp only [zero, if_false, Nat.pos_of_ne_zero zero, and_self, if_true]; rfl
    | some g => rfl
  have fields : writeSets (setsBody a b r hold) s = { s with
      sets := { s.sets with
        sets := updAll s.sets.sets fun x p => { p with defn := setDefOf (setsBody a b r hold) x }
        settings := setSettingsOf (setsBody a b r hold)
        alternationTimer := (writeSets (setsBody a b r hold) s).sets.alternationTimer }
      arb := { s.arb with supplyLossHold := clampTo 5 300 (u16At (setsBody a b r hold) 12) } } := rfl
  rw [fields, timer, settings, sets, hhold]; rfl

omit startProof changeover alternation word in
theorem runDefineSets_setsBody (s : State) : runDefineSets (setsBody a b r hold) s =
    checked [(!zeroesActive s (setsBody a b r hold), .busy)] s (accept (setsClamped (setsBody a b r hold)) (applySets (setsBody a b r hold) s)) := by
  obtain ⟨-, -, -, -, hreserve, -⟩ := setsBody_fields (a := a) (b := b) (r := r) (hold := hold)
  rw [Nat.mod_eq_of_lt (by omega)] at hreserve
  have defA := setDefOf_setsBody_zero (b := b) (r := r) (hold := hold) capA powerA
  have defB := setDefOf_setsBody_one (a := a) (r := r) (hold := hold) capB powerB
  rw [runDefineSets, setsChecks, checked_pass (by simp [allSets_eq, defA, defB, capA, capB]),
    checked_pass (by simp [allSets_eq, defA, defB, powerA, powerB]), checked_pass (by rw [hreserve]; simpa using reserve)]

omit reserve startProof changeover alternation word in
theorem zeroesActive_setsBody (s : State) : zeroesActive s (setsBody a b r hold) = true ↔
    ((s.sets.sets[(0 : Fin 2)].state = .starting ∨ s.sets.sets[(0 : Fin 2)].state = .running) ∧ a.capacity = 0) ∨
    ((s.sets.sets[(1 : Fin 2)].state = .starting ∨ s.sets.sets[(1 : Fin 2)].state = .running) ∧ b.capacity = 0) := by
  rw [zeroesActive, allSets_eq, List.any_cons, List.any_cons, List.any_nil, Bool.or_false, setDefOf_setsBody_zero capA powerA,
    setDefOf_setsBody_one capB powerB]
  simp only [Bool.or_eq_true, Bool.and_eq_true, beq_iff_eq]

end

theorem effectiveAllowance_takeLine (ln : LinkLine) (s : State) : effectiveAllowance (takeLine ln s) = effectiveAllowance s := by
  cases ln <;> rfl

theorem setsWritten_takeLine (a b : SetDef) (r' : SetSettings) (hold : Nat) (ln : LinkLine) (s : State) :
    setsWritten a b r' hold (takeLine ln s) = { takeLine ln s with
      sets := (setsWritten a b r' hold s).sets, arb := (setsWritten a b r' hold s).arb } := by
  cases ln <;> rfl

/-- Settles O50. -/
theorem setRequestsAct : Obligations.SetRequestsAct := by
  refine ⟨fun ln tag x s control => ⟨fun offLine => ?_, fun onLine => ?_, fun onLine => ?_, fun offLine => ?_, fun failed => ?_,
      fun other => ?_⟩,
    fun ln tag a b r hold s may capA capB powerA powerB reserve startProof changeover alternation word active hactive =>
      ⟨fun zeroed => ?_, fun keepsA keepsB r' u hr hu => ?_⟩⟩
  · refine operation_outcome (own := ownPressureSetService) control rfl rfl ((runPressureSetService_eq x false _).trans ?_)
    rw [if_neg Bool.false_ne_true, serviceOut, takeLine_sets, if_pos offLine]; rfl
  · refine operation_outcome (own := ownPressureSetService) control rfl rfl ((runPressureSetService_eq x false _).trans ?_)
    rw [if_neg Bool.false_ne_true, serviceOut, takeLine_sets, if_neg onLine]; rfl
  · refine operation_outcome (own := ownPressureSetService) control rfl rfl ((runPressureSetService_eq x true _).trans ?_)
    rw [if_pos rfl, serviceIn, takeLine_sets, if_neg onLine]; rfl
  · refine operation_outcome (own := ownPressureSetService) control rfl rfl ((runPressureSetService_eq x true _).trans ?_)
    rw [if_pos rfl, serviceIn, takeLine_sets, if_pos offLine]; rfl
  · exact operation_outcome (own := ownResetPressureSet) control rfl rfl ((runResetPressureSet_eq x _).trans
      ((checked_pass (by rw [takeLine_sets, failed]; rfl) _ _ _ _).trans (checked_nil _ _)))
  · exact operation_outcome (own := ownResetPressureSet) control rfl rfl ((runResetPressureSet_eq x _).trans
      (checked_fail (by rw [takeLine_sets, beq_eq_false_iff_ne]; exact other) _ _ _ _))
  · refine configuration_outcome (own := ownDefineSets) may rfl rfl
      ((runDefineSets_setsBody capA capB powerA powerB reserve _).trans
        (checked_fail ?_ _ _ _ _))
    rw [Bool.not_eq_false', zeroesActive_setsBody capA capB powerA powerB, takeLine_sets, ← hactive, ← hactive]
    exact zeroed
  · have keeps : (!zeroesActive (takeLine ln s) (setsBody a b r hold)) = true := by
      rw [Bool.not_eq_true', ← Bool.not_eq_true, zeroesActive_setsBody capA capB powerA powerB, takeLine_sets, ← hactive, ← hactive]
      rintro (⟨starts, zero⟩ | ⟨starts, zero⟩)
      · exact (keepsA starts).ne' zero
      · exact (keepsB starts).ne' zero
    have written : writeSets (setsBody a b r hold) (takeLine ln s) = u := by
      rw [writeSets_setsBody capA capB powerA powerB reserve startProof changeover alternation word, setsWritten_takeLine, hu, hr]; rfl
    refine configuration_outcome (own := ownDefineSets) may rfl rfl
      ((runDefineSets_setsBody capA capB powerA powerB reserve _).trans
        ((checked_pass keeps _ _ _ _).trans ((checked_nil _ _).trans ?_)))
    rw [accept, okOr_eq (setsClamped_setsBody startProof changeover alternation word), applySets, written, effectiveAllowance_takeLine,
      defineCause, dutySet_congr (takeLine_sets ..)]
    rfl

end Sys2Proof.Machine
end


section
/-!
The Transfer and Shore Unit and the Power Allowance: the start and the end of a transfer and of a shore fill (R164 to R166, R168, R169), the
balance review (R70, R167), and the shedding of a load above the allowance (R159 to R161).
-/

namespace Sys2Proof.Machine

/-! ### START TRANSFER (R164) -/

theorem runStartTransfer_eq (src dst : Fin 12) {litres : Nat} (word : litres < 65536) (s : State) :
    runStartTransfer (enc1 src.val ++ enc1 dst.val ++ enc2 litres) s =
      checked (transferChecks s src dst litres) s (okReply (beginTransfer .host src dst litres s)) := by
  have source : u8At (enc1 src.val ++ enc1 dst.val ++ enc2 litres) 0 = src.val := by simp
  have dest : u8At (enc1 src.val ++ enc1 dst.val ++ enc2 litres) 1 = dst.val := by simp
  have amount : u16At (enc1 src.val ++ enc1 dst.val ++ enc2 litres) 2 = litres := by simp [Nat.mod_eq_of_lt word]
  simp only [runStartTransfer, source, dest, amount, indexOf_val]

theorem Tank.low_iff {k : Tank} : k.low = true ↔ k.defined = true ∧ k.trusted ≤ k.defn.lowMark := by
  rw [Tank.low, Bool.and_eq_true, decide_eq_true_eq]

theorem Tank.full_iff {k : Tank} : k.full = true ↔ k.defined = true ∧ k.defn.fillStop ≤ k.fillMeasure := by
  rw [Tank.full, Bool.and_eq_true, decide_eq_true_eq]

theorem Tank.defined_of_inService {k : Tank} (serves : k.state = .inService) : k.defined = true :=
  Tank.defined_iff.mpr (by rw [serves]; simp)

/-- The tanks of a transfer may take part (R164). -/
theorem transferTanks_iff {s : State} {src dst : Fin 12} :
    (s.tanks[src].state == .inService && s.tanks[dst].state == .inService && !s.tanks[src].low && !s.tanks[dst].full) = true ↔
      s.tanks[src].state = .inService ∧ s.tanks[dst].state = .inService ∧ s.tanks[src].defn.lowMark < s.tanks[src].trusted ∧
        s.tanks[dst].fillMeasure < s.tanks[dst].defn.fillStop := by
  rw [Bool.and_eq_true, Bool.and_eq_true, Bool.and_eq_true, beq_iff_eq, beq_iff_eq, Bool.not_eq_true', Bool.not_eq_true',
    ← Bool.not_eq_true, ← Bool.not_eq_true, Tank.low_iff, Tank.full_iff]
  constructor
  · rintro ⟨⟨⟨source, dest⟩, notLow⟩, notFull⟩
    exact ⟨source, dest, not_le.mp fun le => notLow ⟨Tank.defined_of_inService source, le⟩,
      not_le.mp fun le => notFull ⟨Tank.defined_of_inService dest, le⟩⟩
  · rintro ⟨source, dest, above, room⟩
    exact ⟨⟨⟨source, dest⟩, fun low => absurd low.2 (not_le.mpr above)⟩, fun full => absurd full.2 (not_le.mpr room)⟩

theorem transferChecks_takeLine (ln : LinkLine) (s : State) (src dst : Fin 12) (litres : Nat) :
    transferChecks (takeLine ln s) src dst litres = transferChecks s src dst litres := by cases ln <;> rfl

section
variable {s u : State} {src dst : Fin 12} {litres : Nat} (go : State × Reply)

theorem checked_transfer_badValue (bad : src = dst ∨ litres = 0 ∨ 60000 < litres) :
    checked (transferChecks s src dst litres) u go = refuse .badValue u := by
  by_cases same : src = dst
  · exact checked_fail (by rw [same, bne_self_eq_false]) _ _ _ _
  · refine (checked_pass (bne_iff_ne.mpr same) _ _ _ _).trans (checked_fail ?_ _ _ _ _)
    rw [← Bool.not_eq_true, inRange_eq_true_iff]; omega

variable (other : src ≠ dst) (low : 1 ≤ litres) (high : litres ≤ 60000)
include other low high

theorem checked_transfer_values : checked (transferChecks s src dst litres) u go =
    checked (transferChecks s src dst litres).tail.tail u go :=
  (checked_pass (bne_iff_ne.mpr other) _ _ _ _).trans (checked_pass (inRange_eq_true_iff.mpr ⟨low, high⟩) _ _ _ _)

theorem checked_transfer_noPump (noPump : s.transfer.pump.ratedPower = 0) :
    checked (transferChecks s src dst litres) u go = refuse .notConfigured u :=
  (checked_transfer_values go other low high).trans (checked_fail (by rw [noPump]; rfl) _ _ _ _)

variable (pump : 0 < s.transfer.pump.ratedPower)
include pump

theorem checked_transfer_pump : checked (transferChecks s src dst litres) u go =
    checked (transferChecks s src dst litres).tail.tail.tail u go :=
  (checked_transfer_values go other low high).trans (checked_pass (decide_eq_true pump) _ _ _ _)

theorem checked_transfer_busy (runs : s.transfer.run ≠ none) :
    checked (transferChecks s src dst litres) u go = refuse .busy u :=
  (checked_transfer_pump go other low high pump).trans
    (checked_fail (by rw [Option.isNone_eq_false_iff, Option.isSome_iff_ne_none]; exact runs) _ _ _ _)

variable (idle : s.transfer.run = none)
include idle

theorem checked_transfer_idle : checked (transferChecks s src dst litres) u go =
    checked (transferChecks s src dst litres).tail.tail.tail.tail u go :=
  (checked_transfer_pump go other low high pump).trans (checked_pass (by rw [idle]; rfl) _ _ _ _)

theorem checked_transfer_tanks (cannot : ¬(s.tanks[src].state = .inService ∧ s.tanks[dst].state = .inService ∧
    s.tanks[src].defn.lowMark < s.tanks[src].trusted ∧ s.tanks[dst].fillMeasure < s.tanks[dst].defn.fillStop)) :
    checked (transferChecks s src dst litres) u go = refuse .wrongState u :=
  (checked_transfer_idle go other low high pump idle).trans
    (checked_fail (by rw [← Bool.not_eq_true, transferTanks_iff]; exact cannot) _ _ _ _)

variable (can : s.tanks[src].state = .inService ∧ s.tanks[dst].state = .inService ∧
    s.tanks[src].defn.lowMark < s.tanks[src].trusted ∧ s.tanks[dst].fillMeasure < s.tanks[dst].defn.fillStop)
include can

theorem checked_transfer_power : checked (transferChecks s src dst litres) u go =
    checked [(headroomGranted s s.transfer.pump.ratedPower, .noPower)] u go :=
  (checked_transfer_idle go other low high pump idle).trans (checked_pass (transferTanks_iff.mpr can) _ _ _ _)

theorem checked_transfer_noPower (noRoom : effectiveAllowance s < committedLoad s + s.transfer.pump.ratedPower) :
    checked (transferChecks s src dst litres) u go = refuse .noPower u :=
  (checked_transfer_power go other low high pump idle can).trans
    (checked_fail (by rw [← Bool.not_eq_true, headroomGranted_iff]; exact not_le.mpr noRoom) _ _ _ _)

theorem checked_transfer_accepted (room : committedLoad s + s.transfer.pump.ratedPower ≤ effectiveAllowance s) :
    checked (transferChecks s src dst litres) u go = go :=
  (checked_transfer_power go other low high pump idle can).trans
    ((checked_pass ((headroomGranted_iff _ _).mpr room) _ _ _ _).trans (checked_nil _ _))

end

/-! ### START SHORE FILL (R168) -/

theorem runStartShoreFill_eq (t : Fin 12) {litres : Nat} (word : litres < 65536) (s : State) :
    runStartShoreFill (enc1 t.val ++ enc2 litres) s = checked (shoreChecks s t litres) s (okReply (beginShore t litres s)) := by
  have index : u8At (enc1 t.val ++ enc2 litres) 0 = t.val := by simp
  have amount : u16At (enc1 t.val ++ enc2 litres) 1 = litres := by simp [Nat.mod_eq_of_lt word]
  simp only [runStartShoreFill, index, amount, indexOf_val]

theorem shoreChecks_takeLine (ln : LinkLine) (s : State) (t : Fin 12) (litres : Nat) :
    shoreChecks (takeLine ln s) t litres = shoreChecks s t litres := by cases ln <;> rfl

section
variable {s u : State} {t : Fin 12} {litres : Nat} (go : State × Reply)

theorem checked_shore_badValue (high : 60000 < litres) : checked (shoreChecks s t litres) u go = refuse .badValue u :=
  checked_fail (decide_eq_false (not_le.mpr high)) _ _ _ _

variable (most : litres ≤ 60000)
include most

theorem checked_shore_value : checked (shoreChecks s t litres) u go = checked (shoreChecks s t litres).tail u go :=
  checked_pass (decide_eq_true most) _ _ _ _

theorem checked_shore_busy (runs : s.shore.run ≠ none) : checked (shoreChecks s t litres) u go = refuse .busy u :=
  (checked_shore_value go most).trans
    (checked_fail (by rw [Option.isNone_eq_false_iff, Option.isSome_iff_ne_none]; exact runs) _ _ _ _)

variable (idle : s.shore.run = none)
include idle

theorem checked_shore_idle : checked (shoreChecks s t litres) u go = checked (shoreChecks s t litres).tail.tail u go :=
  (checked_shore_value go most).trans (checked_pass (by rw [idle]; rfl) _ _ _ _)

theorem checked_shore_undefined (undefined : s.tanks[t].state = .unconfigured) :
    checked (shoreChecks s t litres) u go = refuse .notConfigured u :=
  (checked_shore_idle go most idle).trans (checked_fail (Tank.defined_eq_false_iff.mpr undefined) _ _ _ _)

theorem checked_shore_defined (defined : s.tanks[t].state ≠ .unconfigured) : checked (shoreChecks s t litres) u go =
    checked [((s.tanks[t].state == .inService || s.tanks[t].state == .quarantine) && !s.tanks[t].full, .wrongState)] u go :=
  (checked_shore_idle go most idle).trans (checked_pass (Tank.defined_iff.mpr defined) _ _ _ _)

theorem checked_shore_wrongState (cannot : s.tanks[t].state = .unknown ∨ s.tanks[t].state = .isolated ∨
    (s.tanks[t].state ≠ .unconfigured ∧ s.tanks[t].defn.fillStop ≤ s.tanks[t].fillMeasure)) :
    checked (shoreChecks s t litres) u go = refuse .wrongState u := by
  obtain unknown | isolated | ⟨defined, full⟩ := cannot
  · exact (checked_shore_defined go most idle (by rw [unknown]; simp)).trans (checked_fail (by rw [unknown]; rfl) _ _ _ _)
  · exact (checked_shore_defined go most idle (by rw [isolated]; simp)).trans (checked_fail (by rw [isolated]; rfl) _ _ _ _)
  · exact (checked_shore_defined go most idle defined).trans
      (checked_fail (by rw [Tank.full_iff.mpr ⟨Tank.defined_iff.mpr defined, full⟩, Bool.not_true, Bool.and_false]) _ _ _ _)

theorem checked_shore_accepted (serves : s.tanks[t].state = .inService ∨ s.tanks[t].state = .quarantine)
    (room : s.tanks[t].fillMeasure < s.tanks[t].defn.fillStop) : checked (shoreChecks s t litres) u go = go := by
  have notFull : s.tanks[t].full = false := by rw [← Bool.not_eq_true, Tank.full_iff]; exact fun h => absurd h.2 (not_le.mpr room)
  have defined : s.tanks[t].state ≠ .unconfigured := by obtain e | e := serves <;> rw [e] <;> simp
  refine (checked_shore_defined go most idle defined).trans ((checked_pass ?_ _ _ _ _).trans (checked_nil _ _))
  rw [notFull, Bool.not_false, Bool.and_true, Bool.or_eq_true, beq_iff_eq, beq_iff_eq]; exact serves

end

/-! ### The ends of a transfer and of a shore fill (R166, R169) -/

theorem endTransfer_of_run {r : TransferRun} {s : State} (cause : TransferCause) (run : s.transfer.run = some r) :
    endTransfer cause s = startCheck (post (.transferEnded r.source cause s.transfer.moved)
      { s with
        tanks := upd (upd s.tanks r.source fun k => { k with transferRole := .none }) r.dest fun k => { k with transferRole := .none }
        power := { s.power with holders := s.power.holders.filter (· != .pump) }
        transfer := { s.transfer with run := none, lastEnd := some ⟨cause, r.source, r.dest, s.transfer.moved⟩ } }) := by
  simp only [endTransfer, run]; rfl

theorem endShore_of_run {r : ShoreRun} {s : State} (cause : ShoreCause) (run : s.shore.run = some r) :
    endShore cause s = post (.shoreEnded r.target cause s.shore.filled)
      { s with
        tanks := upd s.tanks r.target fun k => { k with shoreTarget := false }
        shore := { run := none, filled := s.shore.filled, lastEnd := some ⟨cause, r.target, s.shore.filled⟩ } } := by
  simp only [endShore, run]; rfl

/-- Settles O59. -/
theorem transferRequestsAct : Obligations.TransferRequestsAct := by
  refine ⟨⟨fun ln tag src dst litres s answers control word hanswers => ?_, fun ln tag t litres s answers control word hanswers => ?_,
      fun ln tag s control => ⟨fun idle => ?_, fun runs => ?_, fun idle => ?_, fun runs => ?_⟩, fun s due runs ranOut => ?_⟩,
    fun cause r s run => endTransfer_of_run cause run, fun cause r s run => endShore_of_run cause run⟩
  · have answered {a : State × Reply} (run : checked (transferChecks s src dst litres) (takeLine ln s)
        (okReply (beginTransfer .host src dst litres (takeLine ln s))) = a) : answers a :=
      (hanswers a).mpr (operation_outcome (own := ownStartTransfer) control rfl rfl
        ((runStartTransfer_eq src dst word _).trans (by rw [transferChecks_takeLine]; exact run)))
    refine ⟨fun bad => answered (checked_transfer_badValue _ bad), fun other low high =>
      ⟨fun noPump => answered (checked_transfer_noPump _ other low high noPump), fun pump =>
        ⟨fun runs => answered (checked_transfer_busy _ other low high pump runs), fun idle tanks htanks => ?_⟩⟩⟩
    rw [htanks]
    exact ⟨fun cannot => answered (checked_transfer_tanks _ other low high pump idle cannot),
      fun can noRoom => answered (checked_transfer_noPower _ other low high pump idle can noRoom),
      fun can room => answered ((checked_transfer_accepted _ other low high pump idle can room).trans (by cases ln <;> rfl))⟩
  · have answered {a : State × Reply} (run : checked (shoreChecks s t litres) (takeLine ln s)
        (okReply (beginShore t litres (takeLine ln s))) = a) : answers a :=
      (hanswers a).mpr (operation_outcome (own := ownStartShoreFill) control rfl rfl
        ((runStartShoreFill_eq t word _).trans (by rw [shoreChecks_takeLine]; exact run)))
    exact ⟨fun high => answered (checked_shore_badValue _ high), fun most =>
      ⟨fun runs => answered (checked_shore_busy _ most runs), fun idle =>
        ⟨fun undefined => answered (checked_shore_undefined _ most idle undefined),
          fun cannot => answered (checked_shore_wrongState _ most idle cannot),
          fun serves room => answered ((checked_shore_accepted _ most idle serves room).trans (by cases ln <;> rfl))⟩⟩⟩
  · exact operation_outcome (own := ownStopTransfer) control rfl rfl
      (checked_fail (by rw [takeLine_transfer, idle]; rfl) _ _ _ _)
  · refine operation_outcome (own := ownStopTransfer) control rfl rfl
      ((checked_pass (by rw [takeLine_transfer, Option.isSome_iff_ne_none]; exact runs) _ _ _ _).trans ((checked_nil _ _).trans ?_))
    rw [takeLine_transfer]; rfl
  · exact operation_outcome (own := ownStopShoreFill) control rfl rfl
      (checked_fail (by rw [takeLine_shore, idle]; rfl) _ _ _ _)
  · refine operation_outcome (own := ownStopShoreFill) control rfl rfl
      ((checked_pass (by rw [takeLine_shore, Option.isSome_iff_ne_none]; exact runs) _ _ _ _).trans ((checked_nil _ _).trans ?_))
    rw [takeLine_shore]; rfl
  · exact congrArg done (takeDue_taken (endTransfer .stalled) due (by
      rw [Option.isSome_iff_ne_none.mpr runs, Timer.expired_iff.mpr ranOut]; rfl))

/-! ### SET ALLOWANCE and shedding (R159 to R161) -/

theorem effectiveAllowance_congr {s u : State} (allowance : u.power.allowance = s.power.allowance) (sets : u.sets = s.sets) :
    effectiveAllowance u = effectiveAllowance s := by
  rw [effectiveAllowance, effectiveAllowance, allowance, setReserve, setReserve, sets]

theorem post_allowance (n : NoticeBody) (s : State) : effectiveAllowance (post n s) = effectiveAllowance s :=
  effectiveAllowance_congr (by rw [post_power]) (post_sets n s)

theorem startCheck_allowance (s : State) : effectiveAllowance (startCheck s) = effectiveAllowance s := by
  have frame := startCheck_besideTrains s
  exact effectiveAllowance_congr frame.allowance frame.sets

theorem haltTrain_allowance (n : Fin 3) (cause : StopCause) (s : State) :
    effectiveAllowance (haltTrain n cause s) = effectiveAllowance s := by
  have frame := haltTrain_besideTrains n cause s
  exact effectiveAllowance_congr frame.allowance frame.sets

theorem endTransfer_of_idle (cause : TransferCause) {s : State} (idle : s.transfer.run = none) : endTransfer cause s = s := by
  simp only [endTransfer, idle]

theorem endTransfer_allowance (cause : TransferCause) (s : State) :
    effectiveAllowance (endTransfer cause s) = effectiveAllowance s := by
  obtain idle | ⟨r, run⟩ := s.transfer.run.eq_none_or_eq_some
  · rw [endTransfer_of_idle cause idle]
  · rw [endTransfer_of_run cause run, startCheck_allowance, post_allowance]; exact effectiveAllowance_congr rfl rfl

theorem endTransfer_transfer (cause : TransferCause) {r : TransferRun} {s : State} (run : s.transfer.run = some r) :
    (endTransfer cause s).transfer =
      { s.transfer with run := none, lastEnd := some ⟨cause, r.source, r.dest, s.transfer.moved⟩ } := by
  rw [endTransfer_of_run cause run, (startCheck_besideTrains _).transfer, post_transfer]

theorem allowanceChanged_allowance (cause : ShedCause) (old : Nat) (s : State) :
    effectiveAllowance (allowanceChanged cause old s) = effectiveAllowance s :=
  allowanceChanged_keeps (P := fun u => effectiveAllowance u = effectiveAllowance s) (fun n u h => (post_allowance n u).trans h)
    (fun u h => (endTransfer_allowance _ u).trans h) (fun n u h => (haltTrain_allowance n _ u).trans h)
    (fun u h => (startCheck_allowance u).trans h) cause old s rfl

/-- With no transfer running, shedding leaves the transfer unit as it is. -/
theorem shedRounds_transfer (cause : ShedCause) (fuel : Nat) {s : State} (idle : s.transfer.run = none) :
    (shedRounds cause fuel s).transfer = s.transfer :=
  shedRounds_keeps (P := fun u => u.transfer = s.transfer) (fun n u h => (post_transfer n u).trans h)
    (fun u h => by rw [endTransfer_of_idle _ (h ▸ idle)]; exact h)
    (fun n u h => (haltTrain_besideTrains n _ u).transfer.trans h) cause fuel s rfl

section
variable (cause : ShedCause) {s : State}

theorem shedRounds_fits (fits : committedLoad s ≤ effectiveAllowance s) : ∀ fuel, shedRounds cause fuel s = s
  | 0 => rfl
  | _ + 1 => if_pos fits

variable (tooMuch : effectiveAllowance s < committedLoad s)
include tooMuch

theorem shedRounds_pump (holds : .pump ∈ s.power.holders) (fuel : Nat) : shedRounds cause (fuel + 1) s =
    shedRounds cause fuel (endTransfer .shed (post (.shed .pump cause (effectiveAllowance s)) s)) :=
  (if_neg (not_le.mpr tooMuch)).trans (if_pos (List.contains_iff_mem.mpr holds))

variable (released : .pump ∉ s.power.holders)
include released

theorem shedRounds_train {n : Fin 3} (found : newestRunning s = some n) (fuel : Nat) : shedRounds cause (fuel + 1) s =
    shedRounds cause fuel (haltTrain n .shed (post (.shed (.train n) cause (effectiveAllowance s)) s)) := by
  rw [shedRounds, if_neg (not_le.mpr tooMuch), if_neg (fun h => released (List.contains_iff_mem.mp h)), found]

theorem shedRounds_none (none : newestRunning s = none) (fuel : Nat) : shedRounds cause fuel s = s := by
  cases fuel with
  | zero => rfl
  | succ fuel => rw [shedRounds, if_neg (not_le.mpr tooMuch), if_neg (fun h => released (List.contains_iff_mem.mp h)), none]

end

/-- As many rounds as there are holders are all; none are needed once the load is in order. -/
theorem shedRounds_enough (cause : ShedCause) : ∀ (fuel : Nat) (s : State), PowerShape s →
    PowerLaw s ∨ s.power.holders.length ≤ fuel → shedRounds cause (fuel + 1) s = shedRounds cause fuel s := by
  intro fuel
  induction fuel with
  | zero =>
    intro s shape enough
    have fits : committedLoad s ≤ effectiveAllowance s := by
      obtain law | none := enough
      · exact law.1
      · rw [committedLoad, List.length_eq_zero_iff.mp (Nat.le_zero.mp none)]; exact Nat.zero_le _
    rw [shedRounds_fits cause fits, shedRounds_fits cause fits]
  | succ fuel ih =>
    intro s shape enough
    obtain fits | tooMuch := le_or_gt (committedLoad s) (effectiveAllowance s)
    · rw [shedRounds_fits cause fits, shedRounds_fits cause fits]
    have few : s.power.holders.length ≤ fuel + 1 := enough.resolve_left fun law => absurd law.1 (not_le.mpr tooMuch)
    have posted (n : NoticeBody) : PowerShape (post n s) := (post_samePlant n s).powerShape shape
    have holders (n : NoticeBody) : (post n s).power.holders = s.power.holders := (post_samePlant n s).holders
    by_cases holds : Holder.pump ∈ s.power.holders
    · rw [shedRounds_pump cause tooMuch holds, shedRounds_pump cause tooMuch holds]
      refine ih _ (powerShapeTrainLaw.endTransfer _ (posted _)) ?_
      refine (endTransfer_sheds (posted _) .shed (by rw [holders]; exact holds)).imp_right fun less => ?_
      rw [holders] at less; omega
    obtain none | ⟨n, found⟩ := (newestRunning s).eq_none_or_eq_some
    · rw [shedRounds_none cause tooMuch holds none, shedRounds_none cause tooMuch holds none]
    · rw [shedRounds_train cause tooMuch holds found, shedRounds_train cause tooMuch holds found]
      refine ih _ (powerShapeTrainLaw.haltTrain n _ (posted _)) ?_
      refine (haltTrain_sheds (posted _) n .shed (by rw [holders]; exact newestRunning_holds shape found)).imp_right fun less => ?_
      rw [holders] at less; omega

theorem allowanceChanged_sheds (cause : ShedCause) (old : Nat) {s : State} (tooMuch : effectiveAllowance s < committedLoad s) :
    allowanceChanged cause old s = shedRounds cause 4 s := if_pos tooMuch

theorem allowanceChanged_fits (cause : ShedCause) {old : Nat} {s : State} (fits : committedLoad s ≤ effectiveAllowance s) :
    allowanceChanged cause old s = if old < effectiveAllowance s then startCheck s else s := if_neg (not_lt.mpr fits)

/-- Once a holder has gone, three rounds of shedding are the judgement of the rest. -/
theorem shedRounds_three (cause : ShedCause) {u : State} (shape : PowerShape u)
    (fewer : PowerLaw u ∨ u.power.holders.length < 4) : shedRounds cause 3 u = allowanceChanged cause (effectiveAllowance u) u := by
  obtain fits | tooMuch := le_or_gt (committedLoad u) (effectiveAllowance u)
  · rw [shedRounds_fits cause fits, allowanceChanged_fits cause fits, if_neg (lt_irrefl _)]
  · rw [allowanceChanged_sheds cause _ tooMuch, shedRounds_enough cause 3 u shape (fewer.imp_right Nat.le_of_lt_succ)]

theorem newestRunning_eq {s : State} {n : Fin 3} {before after : List (Fin 3)} (order : s.startOrder = before ++ n :: after)
    (runs : s.trains[n].state.running = true) (later : ∀ m ∈ after, s.trains[m].state.running = false) :
    newestRunning s = some n := by
  have turned : s.startOrder.reverse = after.reverse ++ n :: before.reverse := by rw [order]; simp
  refine List.find?_eq_some_iff_append.mpr ⟨runs, after.reverse, before.reverse, turned, fun m mem => ?_⟩
  rw [Bool.not_eq_true']; exact later m (List.mem_reverse.mp mem)

section
variable (cause : ShedCause) (old : Nat) {u : State} (shape : PowerShape u) (tooMuch : effectiveAllowance u < committedLoad u)
include shape tooMuch

/-- The transfer is shed first, and the rest judged again (R161). -/
theorem allowanceChanged_pump (runs : u.transfer.run ≠ none) : allowanceChanged cause old u =
    allowanceChanged cause (effectiveAllowance u) (endTransfer .shed (post (.shed .pump cause (effectiveAllowance u)) u)) := by
  obtain ⟨-, -, pump, -⟩ := id shape
  have holds : Holder.pump ∈ u.power.holders := pump.mpr (Option.isSome_iff_ne_none.mpr runs)
  have posted : PowerShape (post (.shed .pump cause (effectiveAllowance u)) u) := (post_samePlant _ u).powerShape shape
  have held := (post_samePlant (.shed .pump cause (effectiveAllowance u)) u).holders
  have fewer := endTransfer_sheds posted .shed (by rw [held]; exact holds)
  have most := shape.holders_length
  rw [held] at fewer
  rw [allowanceChanged_sheds cause old tooMuch, shedRounds_pump cause tooMuch holds,
    shedRounds_three cause (powerShapeTrainLaw.endTransfer _ posted) (fewer.imp_right fun less => by omega),
    endTransfer_allowance, post_allowance]

/-- With no transfer, the newest running train is shed and the rest judged again (R161). -/
theorem allowanceChanged_train (idle : u.transfer.run = none) {n : Fin 3} (found : newestRunning u = some n) :
    allowanceChanged cause old u =
      allowanceChanged cause (effectiveAllowance u) (haltTrain n .shed (post (.shed (.train n) cause (effectiveAllowance u)) u)) := by
  obtain ⟨-, -, pump, -⟩ := id shape
  have released : Holder.pump ∉ u.power.holders := by rw [pump, idle]; exact Bool.false_ne_true
  have posted : PowerShape (post (.shed (.train n) cause (effectiveAllowance u)) u) := (post_samePlant _ u).powerShape shape
  have held := (post_samePlant (.shed (.train n) cause (effectiveAllowance u)) u).holders
  have fewer := haltTrain_sheds posted n .shed (by rw [held]; exact newestRunning_holds shape found)
  have most := shape.holders_length
  rw [held] at fewer
  rw [allowanceChanged_sheds cause old tooMuch, shedRounds_train cause tooMuch released found,
    shedRounds_three cause (powerShapeTrainLaw.haltTrain n _ posted) (fewer.imp_right fun less => by omega),
    haltTrain_allowance, post_allowance]

/-- No transfer runs on, and one that ran has ended SHED (R161). -/
theorem allowanceChanged_endsTransfer : (allowanceChanged cause old u).transfer.run = none ∧
    ∀ r, u.transfer.run = some r →
      (allowanceChanged cause old u).transfer.lastEnd = some ⟨.shed, r.source, r.dest, u.transfer.moved⟩ := by
  obtain ⟨-, -, pump, -⟩ := id shape
  rw [allowanceChanged_sheds cause old tooMuch]
  obtain idle | ⟨r, run⟩ := u.transfer.run.eq_none_or_eq_some
  · rw [shedRounds_transfer cause 4 idle]
    exact ⟨idle, fun r run => by rw [idle] at run; cases run⟩
  · have holds : Holder.pump ∈ u.power.holders := pump.mpr (by rw [run]; rfl)
    have ended := endTransfer_transfer .shed (s := post (.shed .pump cause (effectiveAllowance u)) u) (by rw [post_transfer]; exact run)
    rw [post_transfer] at ended
    rw [shedRounds_pump cause tooMuch holds, shedRounds_transfer cause 3 (by rw [ended]), ended]
    refine ⟨rfl, fun r' run' => ?_⟩
    rw [run] at run'; cases run'; rfl

end

/-- Settles O60. -/
theorem allowanceIsTakenAndShed : Obligations.AllowanceIsTakenAndShed := by
  refine ⟨fun ln tag n a s t control word ha ht => ?_, fun cause old u t once trains pump order ht => ?_⟩
  · have amount : u16At (enc2 n) 0 = n := by simp [Nat.mod_eq_of_lt word]
    have changed : applyAllowance a (takeLine ln s) = t := by
      rw [ht, applyAllowance, effectiveAllowance_takeLine, takeLine_power]
    refine operation_outcome (own := ownSetAllowance) control rfl rfl ?_
    change runSetAllowance (enc2 n) (takeLine ln s) = _
    rw [runSetAllowance, amount, ← ha, changed, acceptWith, okOr_eq (unchanged := n ≤ 1000) (by simp [← decide_not])]
  · have shape : PowerShape u := ⟨once, trains, pump, order⟩
    obtain ⟨fitsAfter, -⟩ := shape.allowanceChanged cause old
    subst ht
    refine ⟨fitsAfter, allowanceChanged_allowance cause old u, fun fits noRise => ?_, fun fits rise => ?_,
      fun tooMuch => allowanceChanged_endsTransfer cause old shape tooMuch, fun tooMuch e he => ⟨fun runs => ?_,
        fun idle n before after order' runs later => ?_⟩⟩
    · rw [allowanceChanged_fits cause fits, if_neg (not_lt.mpr noRise)]
    · rw [allowanceChanged_fits cause fits, if_pos rise]
    · rw [he]; exact allowanceChanged_pump cause old shape tooMuch runs
    · rw [he]; exact allowanceChanged_train cause old shape tooMuch idle (newestRunning_eq order' runs later)

/-! ### The balance review (R70, R167) -/

/-- What a balancing transfer depends on, the candidates apart. -/
structure SameBalance (s v : State) : Prop where
  settings : v.eval.settings = s.eval.settings
  imbalance : v.eval.imbalance = s.eval.imbalance
  transfer : v.transfer = s.transfer
  allowance : effectiveAllowance v = effectiveAllowance s
  load : committedLoad v = committedLoad s
  trusted : ∀ t : Fin 12, v.tanks[t].trusted = s.tanks[t].trusted
  fillMeasure : ∀ t : Fin 12, v.tanks[t].fillMeasure = s.tanks[t].fillMeasure
  defn : ∀ t : Fin 12, v.tanks[t].defn = s.tanks[t].defn

theorem SameBalance.trans {s u v : State} (h : SameBalance s u) (g : SameBalance u v) : SameBalance s v where
  settings := g.settings.trans h.settings
  imbalance := g.imbalance.trans h.imbalance
  transfer := g.transfer.trans h.transfer
  allowance := g.allowance.trans h.allowance
  load := g.load.trans h.load
  trusted t := (g.trusted t).trans (h.trusted t)
  fillMeasure t := (g.fillMeasure t).trans (h.fillMeasure t)
  defn t := (g.defn t).trans (h.defn t)

theorem balanceAmount_congr {s v : State} (same : SameBalance s v) (src dst : Fin 12) : balanceAmount v src dst = balanceAmount s src dst := by
  rw [balanceAmount, balanceAmount, same.imbalance, same.trusted, same.fillMeasure, same.defn, same.defn]

/-- Whether a balance review looks for a transfer at all (R167). -/
def wantsBalance (s : State) : Bool :=
  0 < s.eval.settings.balanceLimit && s.eval.settings.balanceLimit < s.eval.imbalance.natAbs
    && s.transfer.run.isNone && 0 < s.transfer.pump.ratedPower

theorem wantsBalance_iff {s : State} : wantsBalance s = true ↔ 0 < s.eval.settings.balanceLimit ∧
    s.eval.settings.balanceLimit < s.eval.imbalance.natAbs ∧ s.transfer.run = none ∧ 0 < s.transfer.pump.ratedPower := by
  simp only [wantsBalance, Bool.and_eq_true, decide_eq_true_eq, Option.isNone_iff_eq_none, and_assoc]

theorem wantsBalance_congr {s v : State} (same : SameBalance s v) : wantsBalance v = wantsBalance s := by
  rw [wantsBalance, wantsBalance, same.settings, same.imbalance, same.transfer]

section
variable {s : State}

theorem balanceReview_unwanted (unwanted : ¬ wantsBalance s = true) : balanceReview s = s := if_neg unwanted

theorem balanceReview_noTank (none : balanceSource s = none ∨ balanceDest s = none) : balanceReview s = s := by
  unfold balanceReview; split
  · split
    · rename_i source dest; rw [source, dest] at none; simp at none
    · rfl
  · rfl

theorem balanceReview_tanks {src dst : Fin 12} (wanted : wantsBalance s = true) (source : balanceSource s = some src)
    (dest : balanceDest s = some dst) : balanceReview s =
      if 50 ≤ balanceAmount s src dst ∧ committedLoad s + s.transfer.pump.ratedPower ≤ effectiveAllowance s then
        beginTransfer .balance src dst (balanceAmount s src dst).toNat s
      else s := by
  refine (if_pos wanted).trans ?_
  rw [source, dest]
  simp only [Bool.and_eq_true, decide_eq_true_eq, headroomGranted_iff]

end

theorem applyDuty_same {cause : DutyCause} {t : Fin 12} {s : State} (duty : s.eval.dutyTank = some t) :
    applyDuty cause (some t) s = s := if_pos duty

/-- A better tank takes duty from the one that has it (R69). -/
theorem applyDuty_other {cause : DutyCause} {old t : Fin 12} {s : State} (duty : s.eval.dutyTank = some old) (other : t ≠ old) :
    applyDuty cause (some t) s = post (.dutyChanged t cause (some old))
      { s with
        tanks := upd (upd s.tanks old fun k => { k with duty := false }) t fun k => { k with duty := true }
        eval := { s.eval with dutyTank := some t } } := by
  have notSame : ¬ some old = some t := fun h => other (Option.some.inj h).symm
  simp only [applyDuty, duty, notSame, if_false, Option.isNone_some, Bool.false_eq_true]; rfl

/-- The duty flag of a tank and the duty tank change nothing a balance depends on. -/
theorem sameBalance_duty (s : State) (n : NoticeBody) (old t : Fin 12) (duty : Option (Fin 12)) : SameBalance s (post n { s with
    tanks := upd (upd s.tanks old fun k => { k with duty := false }) t fun k => { k with duty := true }
    eval := { s.eval with dutyTank := duty } }) := by
  have get (x : Fin 12) : ∃ flag, (upd (upd s.tanks old fun k => { k with duty := false }) t fun k => { k with duty := true })[x] =
      { s.tanks[x] with duty := flag } := by
    rw [upd_get]; split
    · rename_i here; subst here
      refine ⟨true, ?_⟩
      rw [upd_get]; split
      · rename_i same; rw [same]
      · rfl
    · rw [upd_get]; split
      · rename_i same; subst same; exact ⟨false, rfl⟩
      · exact ⟨s.tanks[x].duty, rfl⟩
  refine ⟨by rw [post_eval], by rw [post_eval], by rw [post_transfer], post_allowance _ _, (post_samePlant _ _).load, fun x => ?_,
    fun x => ?_, fun x => ?_⟩ <;> obtain ⟨flag, e⟩ := get x
  · rw [post_tanks, e]; rfl
  · rw [post_tanks, e]; rfl
  · rw [post_tanks, e]

/-- Settles O37. -/
theorem reviewSelectsAndBalances : Obligations.ReviewSelectsAndBalances := by
  intro s u v due hu noDuty hasDuty wanted hwanted
  have fresh : SameBalance s u := by rw [hu]; exact ⟨rfl, rfl, rfl, rfl, rfl, fun _ => rfl, fun _ => rfl, fun _ => rfl⟩
  have duty : u.eval.dutyTank = s.eval.dutyTank := by rw [hu]; rfl
  have selected : (if u.eval.dutyTank.isSome then applyDuty .review (selectDuty u) u else u) = v ∧ SameBalance s v := by
    obtain none | ⟨old, has⟩ := s.eval.dutyTank.eq_none_or_eq_some
    · rw [duty, none, noDuty none]; exact ⟨rfl, fresh⟩
    · obtain ⟨t, selection, kept, moved⟩ := hasDuty old has
      rw [duty, has, selection]
      by_cases same : t = old
      · rw [kept same, same]
        exact ⟨applyDuty_same (duty.trans has), fresh⟩
      · rw [moved same]
        exact ⟨applyDuty_other (duty.trans has) same, fresh.trans (sameBalance_duty u _ old t (some t))⟩
  obtain ⟨taken, same⟩ := selected
  have exec_eq : exec .reviewTimerExpiry s = .next (finish (balanceReview v)) := by
    refine (congrArg done (takeDue_taken balanceReviewed due rfl)).trans ?_
    rw [balanceReviewed, ← hu, taken]; rfl
  rw [exec_eq, hwanted, ← wantsBalance_iff, ← wantsBalance_congr same]
  refine ⟨fun cannot => ?_, fun src dst amount wanted source dest hamount => ?_⟩
  · obtain unwanted | none := cannot
    · rw [balanceReview_unwanted unwanted]
    · rw [balanceReview_noTank none]
  · have held : amount = balanceAmount v src dst := by rw [balanceAmount_congr same, hamount]; rfl
    rw [balanceReview_tanks wanted source dest, ← same.load, ← same.allowance, ← same.transfer, held]
    refine ⟨fun cannot => by rw [if_neg (by omega)], fun enough room => ?_⟩
    rw [if_pos ⟨enough, room⟩]; rfl

end Sys2Proof.Machine
end


section
/-!
What a tank change leaves as it was, and the Evaluator's figures after it (R13, R14, R59, R61 to R66). `SameStanding` collects what neither
the Evaluator, the sets, the Arbiter, the trains nor the transfers write in a tank change; `figures` are the Evaluator's figures worked out
from the tanks.
-/

namespace Sys2Proof.Machine

/-! ### What a tank change does not write -/

/-- What a tank change reads of a train and never writes beside its accounts: its reading and its rest timer (R136). -/
def Train.standing (w : Train) : Salinity × Option Timer := (w.reading, w.rest)

/-- Two states that agree in everything a tank change leaves alone, the tanks, the Link and the channels apart. -/
structure SameStanding (s u : State) : Prop where
  now : u.now = s.now
  strayTotal : u.strayTotal = s.strayTotal
  inputs : u.inputs = s.inputs
  waters : u.waters = s.waters
  allowance : u.power.allowance = s.power.allowance
  lines : ∀ k : Fin 16, u.lines[k].undrawn = s.lines[k].undrawn
  groups : ∀ g : Fin 6, u.groups[g].unordered = s.groups[g].unordered
  mode : u.arb.mode = s.arb.mode
  supplyLossHold : u.arb.supplyLossHold = s.arb.supplyLossHold
  settings : u.sets.settings = s.sets.settings
  duty : u.sets.duty = s.sets.duty
  alternationTimer : u.sets.alternationTimer = s.sets.alternationTimer
  setDefs : ∀ x : Fin 2, u.sets.sets[x].defn = s.sets.sets[x].defn
  accounts : ∀ n : Fin 3, u.trains[n].accounts = s.trains[n].accounts
  standing : ∀ n : Fin 3, u.trains[n].standing = s.trains[n].standing
  pump : u.transfer.pump = s.transfer.pump
  moved : u.transfer.moved = s.transfer.moved
  filled : u.shore.filled = s.shore.filled

theorem SameStanding.trans {s u v : State} (h : SameStanding s u) (g : SameStanding u v) : SameStanding s v where
  now := g.now.trans h.now
  strayTotal := g.strayTotal.trans h.strayTotal
  inputs := g.inputs.trans h.inputs
  waters := g.waters.trans h.waters
  allowance := g.allowance.trans h.allowance
  lines k := (g.lines k).trans (h.lines k)
  groups i := (g.groups i).trans (h.groups i)
  mode := g.mode.trans h.mode
  supplyLossHold := g.supplyLossHold.trans h.supplyLossHold
  settings := g.settings.trans h.settings
  duty := g.duty.trans h.duty
  alternationTimer := g.alternationTimer.trans h.alternationTimer
  setDefs x := (g.setDefs x).trans (h.setDefs x)
  accounts n := (g.accounts n).trans (h.accounts n)
  standing n := (g.standing n).trans (h.standing n)
  pump := g.pump.trans h.pump
  moved := g.moved.trans h.moved
  filled := g.filled.trans h.filled

theorem SameStanding.refl (s : State) : SameStanding s s :=
  ⟨rfl, rfl, rfl, rfl, rfl, fun _ => rfl, fun _ => rfl, rfl, rfl, rfl, rfl, rfl, fun _ => rfl, fun _ => rfl, fun _ => rfl, rfl, rfl, rfl⟩

theorem standing_of_offFlush {w w' : Train} (same : w'.offFlush = w.offFlush) : w'.standing = w.standing := by
  have e := congrArg Train.standing same
  exact e

theorem SameBesideArbiter.standing {s u : State} (h : SameBesideArbiter s u) : SameStanding s u where
  now := h.now
  strayTotal := h.strayTotal
  inputs := h.inputs
  waters := h.waters
  allowance := by rw [h.power]
  lines := h.lines
  groups := h.groups
  mode := h.mode
  supplyLossHold := h.supplyLossHold
  settings := by rw [h.sets]
  duty := by rw [h.sets]
  alternationTimer := by rw [h.sets]
  setDefs x := by rw [h.sets]
  accounts n := by
    have e := congrArg Train.accounts (h.trains n)
    exact e
  standing n := standing_of_offFlush (h.trains n)
  pump := by rw [h.transfer]
  moved := by rw [h.transfer]
  filled := by rw [h.shore]

theorem SameBesideTrains.sameStanding {s u : State} (h : SameBesideTrains s u)
    (standing : ∀ n : Fin 3, u.trains[n].standing = s.trains[n].standing) : SameStanding s u where
  now := h.now
  strayTotal := h.strayTotal
  inputs := h.inputs
  waters := h.waters
  allowance := h.allowance
  lines := h.lines
  groups := h.groups
  mode := h.mode
  supplyLossHold := h.supplyLossHold
  settings := by rw [h.sets]
  duty := by rw [h.sets]
  alternationTimer := by rw [h.sets]
  setDefs x := by rw [h.sets]
  accounts := h.trains
  standing := standing
  pump := by rw [h.transfer]
  moved := by rw [h.transfer]
  filled := by rw [h.shore]

/-! ### The trains -/

theorem modTrain_standing (s : State) (n m : Fin 3) {f : Train → Train} (h : ∀ w, (f w).standing = w.standing := by intro _; rfl) :
    (s.modTrain n f).trains[m].standing = s.trains[m].standing := upd_view s.trains n h m

theorem startCheck_standing (s : State) (m : Fin 3) : (startCheck s).trains[m].standing = s.trains[m].standing := by
  obtain ⟨n, -, -, -, -, -, -, e⟩ | e := startCheck_cases s <;> rw [e]
  rw [beginTrain_trains]; split
  · subst m; rfl
  · rfl

theorem askFlush_standing (n : Fin 3) (s : State) (m : Fin 3) : (askFlush n s).trains[m].standing = s.trains[m].standing := by
  obtain ⟨_, _, _, _, e⟩ | e := askFlush_cases n s <;> rw [e]
  exact (standing_of_offFlush ((register_besideDraws _ _ _ _).trains m)).trans (modTrain_standing s n m)

theorem giveUpTarget_standing (n : Fin 3) (s : State) (m : Fin 3) : (giveUpTarget n s).trains[m].standing = s.trains[m].standing := by
  rw [giveUpTarget_trains]; split
  · subst m; rfl
  · rfl

theorem haltTrain_standing (n : Fin 3) (cause : StopCause) (s : State) (m : Fin 3) :
    (haltTrain n cause s).trains[m].standing = s.trains[m].standing := by
  rw [haltTrain, startCheck_standing, enterFlushWait, askFlush_standing]
  refine (modTrain_standing _ n m).trans ?_
  rw [releaseHolder_trains]
  exact (modTrain_standing _ n m).trans (giveUpTarget_standing n s m)

theorem retarget_standing (s : State) (n m : Fin 3) : (retarget s n).trains[m].standing = s.trains[m].standing := by
  unfold retarget; split
  · refine (modTrain_standing _ n m).trans ?_
    split <;> rfl
  · exact haltTrain_standing n _ s m

theorem trainsTake_standing (oldCall : Nat) (oldCandidates : List (Fin 12)) (s : State) (m : Fin 3) :
    (trainsTake oldCall oldCandidates s).trains[m].standing = s.trains[m].standing :=
  trainsTake_keeps (P := fun u => u.trains[m].standing = s.trains[m].standing) (fun u h => (startCheck_standing u m).trans h)
    (fun u h => stopCheck_keeps (P := fun u => u.trains[m].standing = s.trains[m].standing)
      (fun n u h => (haltTrain_standing n _ u m).trans h) u h)
    (retargetAll_keeps (P := fun u => u.trains[m].standing = s.trains[m].standing)
      (fun u n h => (retarget_standing u n m).trans h) fun _ h => h) oldCall oldCandidates s rfl

theorem trainsTake_sameStanding (oldCall : Nat) (oldCandidates : List (Fin 12)) (s : State) :
    SameStanding s (trainsTake oldCall oldCandidates s) :=
  (trainsTake_besideTrains oldCall oldCandidates s).sameStanding (trainsTake_standing oldCall oldCandidates s)

theorem startCheck_sameStanding (s : State) : SameStanding s (startCheck s) :=
  (startCheck_besideTrains s).sameStanding (startCheck_standing s)

/-! ### The Evaluator, the sets and the transfers -/

theorem post_sameStanding (n : NoticeBody) (s : State) : SameStanding s (post n s) :=
  (post_besideTrains n s).sameStanding fun m => by rw [post_trains]

theorem modEval_sameStanding (s : State) (f : Evaluator → Evaluator) : SameStanding s (s.modEval f) := { SameStanding.refl s with }
theorem modTank_sameStanding (s : State) (t : Fin 12) (f : Tank → Tank) : SameStanding s (s.modTank t f) := { SameStanding.refl s with }

theorem workOutLevel_sameStanding (cause : LevelCause) (s : State) : SameStanding s (workOutLevel cause s) := by
  obtain ⟨_, e⟩ | ⟨_, e⟩ := workOutLevel_cases cause s <;> rw [e]
  · exact .refl s
  · exact ((modEval_sameStanding s _).trans (post_sameStanding _ _)).trans (takeLevel_besideArbiter _ _).standing

theorem workOutSupply_sameStanding (s : State) : SameStanding s (workOutSupply s) :=
  SameStanding.trans (u := { s with sets := { s.sets with supply := supplyNow s, grantCapacity := capacityNow s } })
    { SameStanding.refl s with } (workOutSupply_besideArbiter s).standing

theorem startDuty_sameStanding (s : State) : SameStanding s (startDuty s) := by
  rw [startDuty_eq]; split
  · exact { SameStanding.refl s with setDefs := upd_view s.sets.sets s.sets.duty fun _ => rfl }
  · exact .refl s

theorem dutyTankAppears_sameStanding (s : State) : SameStanding s (dutyTankAppears s) :=
  (activateRole_besideDraws _ s).toSameBesideArbiter.standing.trans (startDuty_sameStanding _)

theorem dutyTankLost_sameStanding (s : State) : SameStanding s (dutyTankLost s) := by
  rw [dutyTankLost_eq]
  refine SameStanding.trans ?_ (workOutSupply_sameStanding _)
  exact { SameStanding.refl s with
    setDefs := fun x => by
      have same : (updAll s.sets.sets fun _ p => stopActive p)[x].defn = s.sets.sets[x].defn := by rw [updAll_get, stopActive_defn]
      exact same }

theorem applyDuty_sameStanding (cause : DutyCause) (chosen : Option (Fin 12)) (s : State) : SameStanding s (applyDuty cause chosen s) :=
  applyDuty_keeps (P := SameStanding s) (fun _ _ u h => h.trans (modTank_sameStanding u _ _))
    (fun _ u h => h.trans (modEval_sameStanding u _)) (fun n u h => h.trans (post_sameStanding n u))
    (fun u h => h.trans (dutyTankAppears_sameStanding u)) (fun u h => h.trans (dutyTankLost_sameStanding u)) cause chosen s (.refl s)

theorem evaluate_sameStanding (s : State) : SameStanding s (evaluate s) :=
  evaluate_keeps (P := SameStanding s) (fun f u h => h.trans (modEval_sameStanding u f))
    (fun u h => h.trans (workOutLevel_sameStanding _ u)) (fun c u _ h => h.trans (applyDuty_sameStanding c _ u)) s (.refl s)

theorem endTransfer_sameStanding (cause : TransferCause) (s : State) : SameStanding s (endTransfer cause s) := by
  obtain idle | ⟨r, run⟩ := s.transfer.run.eq_none_or_eq_some
  · rw [endTransfer_of_idle cause idle]; exact .refl s
  · rw [endTransfer_of_run cause run]
    refine SameStanding.trans ?_ ((post_sameStanding _ _).trans (startCheck_sameStanding _))
    exact { SameStanding.refl s with }

theorem endShore_of_idle (cause : ShoreCause) {s : State} (idle : s.shore.run = none) : endShore cause s = s := by
  simp only [endShore, idle]

theorem endShore_sameStanding (cause : ShoreCause) (s : State) : SameStanding s (endShore cause s) := by
  obtain idle | ⟨r, run⟩ := s.shore.run.eq_none_or_eq_some
  · rw [endShore_of_idle cause idle]; exact .refl s
  · rw [endShore_of_run cause run]
    refine SameStanding.trans ?_ (post_sameStanding _ _)
    exact { SameStanding.refl s with }

theorem endTransfer_eval (cause : TransferCause) (s : State) : (endTransfer cause s).eval = s.eval := by
  obtain idle | ⟨r, run⟩ := s.transfer.run.eq_none_or_eq_some
  · rw [endTransfer_of_idle cause idle]
  · rw [endTransfer_of_run cause run, (startCheck_besideTrains _).eval, post_eval]

theorem endShore_eval (cause : ShoreCause) (s : State) : (endShore cause s).eval = s.eval := by
  obtain idle | ⟨r, run⟩ := s.shore.run.eq_none_or_eq_some
  · rw [endShore_of_idle cause idle]
  · rw [endShore_of_run cause run, post_eval]

theorem transferShoreTake_sameStanding (s : State) : SameStanding s (transferShoreTake s) :=
  transferShoreTake_keeps (P := SameStanding s) (fun c u h => h.trans (endTransfer_sameStanding c u))
    (fun c u h => h.trans (endShore_sameStanding c u)) (fun u h => h.trans { SameStanding.refl u with }) s (.refl s)

theorem tankChange_sameStanding (s : State) : SameStanding s (tankChange s) :=
  tankChange_keeps (P := SameStanding s) (fun u h => h.trans (evaluate_sameStanding u))
    (fun c l u h => h.trans (trainsTake_sameStanding c l u)) (fun u h => h.trans (transferShoreTake_sameStanding u)) s (.refl s)

/-! ### The Evaluator's figures (R59, R61 to R66) -/

/-- The Evaluator with the sums and the ratio of the IN_SERVICE tanks (R61). -/
def rated (s : State) : Evaluator :=
  { s.eval with
    reserve := sumInService s Tank.trusted
    capacity := sumInService s fun k => k.defn.capacity
    ratio := if sumInService s (fun k => k.defn.capacity) = 0 then none
      else some (1000 * sumInService s Tank.trusted / sumInService s fun k => k.defn.capacity) }

/-- The Evaluator with the figures that a tank change works out from the tanks. -/
def figures (s : State) : Evaluator :=
  { rated s with
    computed := computedLevel (rated s)
    level := max (computedLevel (rated s)) (rated s).floor
    callCount := computedCall (rated s)
    imbalance := (sumInService s (trustedOn .port) : Int) - (sumInService s (trustedOn .stbd) : Int)
    dutyCandidates := allTanks.filter fun t => s.tanks[t].dutyCandidate
    fillCandidates := allTanks.filter fun t => s.tanks[t].fillCandidate }

/-- The state in which the Evaluator has worked out its figures and has not yet looked at the duty tank. -/
def workedOut (s : State) : State :=
  workOutCandidates (workOutImbalance (workOutCall (workOutComputed .reserve (workOutRatio s))))

theorem evaluate_eq (s : State) : evaluate s = checkDuty (workedOut s) := rfl

theorem takeLevel_eval (level : Nat) (s : State) : (takeLevel level s).eval = s.eval := (takeLevel_besideArbiter level s).eval

theorem workOutLevel_eval (cause : LevelCause) (s : State) :
    (workOutLevel cause s).eval = { s.eval with level := max s.eval.computed s.eval.floor } := by
  obtain ⟨same, e⟩ | ⟨_, e⟩ := workOutLevel_cases cause s <;> rw [e]
  · rw [same]
  · rw [takeLevel_eval, post_eval]; rfl

theorem takeLevel_levelHeld (level : Nat) (s : State) : (takeLevel level s).arb.levelHeld = level := by
  obtain ⟨_, e⟩ | ⟨same, e⟩ := takeLevel_cases level s <;> rw [e]
  · exact (grantPass_besideDraws _).levelHeld
  · exact same

theorem workOutLevel_levelHeld (cause : LevelCause) (s : State) : (workOutLevel cause s).arb.levelHeld =
    if max s.eval.computed s.eval.floor = s.eval.level then s.arb.levelHeld else max s.eval.computed s.eval.floor := by
  obtain ⟨same, e⟩ | ⟨moved, e⟩ := workOutLevel_cases cause s <;> rw [e]
  · rw [if_pos same]
  · rw [if_neg moved, takeLevel_levelHeld]

theorem sumInService_congr {s u : State} (f : Tank → Nat) (tanks : u.tanks = s.tanks) : sumInService u f = sumInService s f := by
  rw [sumInService, sumInService, tanks]

theorem workOutRatio_tanks (s : State) : (workOutRatio s).tanks = s.tanks := by simp only [workOutRatio, modEval_tanks]
theorem workOutCall_tanks (s : State) : (workOutCall s).tanks = s.tanks := by simp only [workOutCall, modEval_tanks]
theorem workOutImbalance_tanks (s : State) : (workOutImbalance s).tanks = s.tanks := by simp only [workOutImbalance, modEval_tanks]
theorem workOutCandidates_tanks (s : State) : (workOutCandidates s).tanks = s.tanks := by simp only [workOutCandidates, modEval_tanks]

theorem workedOut_tanks (s : State) : (workedOut s).tanks = s.tanks := by
  rw [workedOut, workOutCandidates_tanks, workOutImbalance_tanks, workOutCall_tanks, workOutComputed_tanks, workOutRatio_tanks]

theorem workOutImbalance_eval (s : State) : (workOutImbalance s).eval = { s.eval with
    imbalance := (sumInService s (trustedOn .port) : Int) - (sumInService s (trustedOn .stbd) : Int) } := rfl

theorem workOutCandidates_eval (s : State) : (workOutCandidates s).eval = { s.eval with
    dutyCandidates := allTanks.filter fun t => s.tanks[t].dutyCandidate
    fillCandidates := allTanks.filter fun t => s.tanks[t].fillCandidate } := rfl

theorem workOutRatio_eval (s : State) : (workOutRatio s).eval = rated s := by
  unfold workOutRatio; dsimp only [modEval_eval]; rw [rated]

theorem computedCall_congr {e e' : Evaluator} (ratio : e'.ratio = e.ratio) (settings : e'.settings = e.settings)
    (count : e'.callCount = e.callCount) : computedCall e' = computedCall e := by
  rw [computedCall, computedCall, ratio, settings, count]

theorem computedCall_levelled (e : Evaluator) (computed level : Nat) :
    computedCall { e with computed := computed, level := level } = computedCall e := computedCall_congr rfl rfl rfl

theorem workOutCall_eval (s : State) : (workOutCall s).eval = { s.eval with callCount := computedCall s.eval } := rfl

theorem workOutComputed_eval (cause : LevelCause) (s : State) : (workOutComputed cause s).eval =
    { s.eval with computed := computedLevel s.eval, level := max (computedLevel s.eval) s.eval.floor } :=
  workOutLevel_eval cause _

theorem workedOut_eval (s : State) : (workedOut s).eval = figures s := by
  have tanks : (workOutCall (workOutComputed .reserve (workOutRatio s))).tanks = s.tanks := by
    rw [workOutCall_tanks, workOutComputed_tanks, workOutRatio_tanks]
  rw [workedOut, workOutCandidates_eval, workOutImbalance_tanks, workOutImbalance_eval, sumInService_congr _ tanks,
    sumInService_congr _ tanks, tanks, workOutCall_eval, workOutComputed_eval, workOutRatio_eval,
    computedCall_levelled, figures]

/-- The Evaluator's record, its duty tank apart. -/
def Evaluator.noDuty (e : Evaluator) : Evaluator := { e with dutyTank := none }

theorem applyDuty_eval (cause : DutyCause) (chosen : Option (Fin 12)) (s : State) :
    (applyDuty cause chosen s).eval.noDuty = s.eval.noDuty :=
  applyDuty_keeps (P := fun u => u.eval.noDuty = s.eval.noDuty) (fun _ _ _ h => h) (fun _ _ h => h)
    (fun n u h => by rw [post_eval]; exact h) (fun u h => by rw [(dutyTankAppears_besideSets u).eval]; exact h)
    (fun u h => by rw [(dutyTankLost_besideSets u).eval]; exact h) cause chosen s rfl

theorem checkDuty_eval (s : State) : (checkDuty s).eval.noDuty = s.eval.noDuty := by
  obtain ⟨_, _, e⟩ | e := checkDuty_cases s <;> rw [e]
  exact applyDuty_eval _ _ s

theorem transferShoreTake_eval (s : State) : (transferShoreTake s).eval = s.eval :=
  transferShoreTake_keeps (P := fun u => u.eval = s.eval) (fun c u h => (endTransfer_eval c u).trans h)
    (fun c u h => (endShore_eval c u).trans h) (fun _ h => h) s rfl

/-- After a tank change the Evaluator holds what it worked out, whatever the trains and the transfers do (R13). -/
theorem tankChange_eval (s : State) : (tankChange s).eval = (evaluate s).eval := by
  rw [tankChange, transferShoreTake_eval, evaluateAndTrains, (trainsTake_besideTrains _ _ _).eval]

theorem tankChange_figures (s : State) : (tankChange s).eval.noDuty = (figures s).noDuty := by
  rw [tankChange_eval, evaluate_eq, checkDuty_eval, workedOut_eval]

/-! ### The level the Arbiter holds (R63, R97) -/

theorem foldl_suspend_arb (ks : List (Fin 16)) (s : State) : (ks.foldl (fun st k => suspend k st) s).arb = s.arb :=
  foldl_keeps (P := fun u : State => u.arb = s.arb) (f := fun st k => suspend k st) (fun _ _ h => h) ks s rfl

theorem takeSupply_levelHeld (supply : SupplyState) (capacity : Nat) (s : State) :
    (takeSupply supply capacity s).arb.levelHeld = s.arb.levelHeld := by
  obtain ⟨_, _, e⟩ | ⟨_, _, e⟩ | ⟨_, _, _, e⟩ | e := takeSupply_cases supply capacity s <;> rw [e]
  · refine (grantPass_besideDraws _).levelHeld.trans ?_
    rw [modArb_arb, foldl_suspend_arb]
  · rw [supplyRestored_eq]
    exact ((foldl_besideDraws restoreOne_besideDraws _ _).trans (grantPass_besideDraws _)).levelHeld
  · rw [capacityChanged_eq]
    exact ((preemptUntil_besideDraws flowFits _ _).trans (grantPass_besideDraws _)).levelHeld

theorem workOutSupply_levelHeld (s : State) : (workOutSupply s).arb.levelHeld = s.arb.levelHeld := takeSupply_levelHeld _ _ _

theorem applyDuty_levelHeld (cause : DutyCause) (chosen : Option (Fin 12)) (s : State) :
    (applyDuty cause chosen s).arb.levelHeld = s.arb.levelHeld :=
  applyDuty_keeps (P := fun u => u.arb.levelHeld = s.arb.levelHeld) (fun _ _ _ h => h) (fun _ _ h => h)
    (fun n u h => by rw [post_arb]; exact h)
    (fun u h => by rw [dutyTankAppears, startDuty_arb, (activateRole_besideDraws _ u).levelHeld]; exact h)
    (fun u h => by rw [dutyTankLost_eq, workOutSupply_levelHeld]; exact h) cause chosen s rfl

theorem checkDuty_levelHeld (s : State) : (checkDuty s).arb.levelHeld = s.arb.levelHeld := by
  obtain ⟨_, _, e⟩ | e := checkDuty_cases s <;> rw [e]
  exact applyDuty_levelHeld _ _ s

theorem endTransfer_levelHeld (cause : TransferCause) (s : State) : (endTransfer cause s).arb.levelHeld = s.arb.levelHeld := by
  obtain idle | ⟨r, run⟩ := s.transfer.run.eq_none_or_eq_some
  · rw [endTransfer_of_idle cause idle]
  · rw [endTransfer_of_run cause run, (startCheck_besideTrains _).levelHeld, post_arb]

theorem endShore_levelHeld (cause : ShoreCause) (s : State) : (endShore cause s).arb.levelHeld = s.arb.levelHeld := by
  obtain idle | ⟨r, run⟩ := s.shore.run.eq_none_or_eq_some
  · rw [endShore_of_idle cause idle]
  · rw [endShore_of_run cause run, post_arb]

theorem transferShoreTake_levelHeld (s : State) : (transferShoreTake s).arb.levelHeld = s.arb.levelHeld :=
  transferShoreTake_keeps (P := fun u => u.arb.levelHeld = s.arb.levelHeld) (fun c u h => (endTransfer_levelHeld c u).trans h)
    (fun c u h => (endShore_levelHeld c u).trans h) (fun _ h => h) s rfl

theorem figures_level (s : State) : (figures s).level = max (computedLevel (rated s)) (rated s).floor := by rw [figures]

theorem rated_level (s : State) : (rated s).level = s.eval.level := by rw [rated]

theorem figures_floor (s : State) : (figures s).floor = (rated s).floor := by rw [figures]

theorem workedOut_levelHeld (s : State) : (workedOut s).arb.levelHeld =
    if (figures s).level = s.eval.level then s.arb.levelHeld else (figures s).level := by
  have levelled := workOutLevel_levelHeld .reserve ((workOutRatio s).modEval fun e => { e with computed := computedLevel e })
  rw [← workOutComputed_eq] at levelled
  have kept : (workedOut s).arb = (workOutComputed .reserve (workOutRatio s)).arb := by
    rw [workedOut, workOutCandidates, modEval_arb, workOutImbalance, modEval_arb, workOutCall, modEval_arb]
  have ratioArb : (workOutRatio s).arb = s.arb := by rw [workOutRatio, modEval_arb]
  rw [kept, levelled, modEval_eval, modEval_arb, workOutRatio_eval, ratioArb, figures_level, ← rated_level]

theorem tankChange_levelHeld (s : State) : (tankChange s).arb.levelHeld =
    if (figures s).level = s.eval.level then s.arb.levelHeld else (figures s).level := by
  rw [tankChange, transferShoreTake_levelHeld, evaluateAndTrains, (trainsTake_besideTrains _ _ _).levelHeld, evaluate_eq,
    checkDuty_levelHeld, workedOut_levelHeld]

/-! ### The sums of the IN_SERVICE tanks (R61, R66) -/

theorem sum_map_ite {α : Type} (l : List α) (p : α → Prop) [DecidablePred p] (f : α → Nat) :
    (l.map fun a => if p a then f a else 0).sum = ((l.filter p).map f).sum := by
  induction l with
  | nil => rfl
  | cons a l ih =>
    rw [List.map_cons, List.sum_cons, ih, List.filter_cons]
    by_cases h : p a <;> simp [h]

theorem sumInService_eq (s : State) (f : Tank → Nat) :
    sumInService s f = ((allTanks.filter fun t => s.tanks[t].state = .inService).map fun t => f s.tanks[t]).sum := by
  rw [← sum_map_ite, sumInService]
  simp only [beq_iff_eq]

theorem sumInService_side (s : State) (side : Side) : sumInService s (trustedOn side) =
    ((allTanks.filter fun t => s.tanks[t].state = .inService ∧ s.tanks[t].defn.side = side).map fun t => s.tanks[t].trusted).sum := by
  rw [sumInService_eq]
  simp only [trustedOn, beq_iff_eq]
  rw [sum_map_ite, List.filter_filter]
  simp only [← Bool.decide_and, and_comm]

theorem Tank.dutyCandidate_iff (k : Tank) : k.dutyCandidate = true ↔ k.state = .inService ∧ k.defn.lowMark < k.trusted := by
  simp only [Tank.dutyCandidate, Bool.and_eq_true, beq_iff_eq, Bool.not_eq_true']
  refine and_congr_right fun serves => ?_
  rw [← Bool.not_eq_true, Tank.low_iff, Tank.defined_iff, serves]
  simp

section
variable (s : State)

theorem figures_reserve : (figures s).reserve = sumInService s Tank.trusted := by rw [figures, rated]
theorem figures_capacity : (figures s).capacity = sumInService s fun k => k.defn.capacity := by rw [figures, rated]
theorem figures_ratio : (figures s).ratio = (rated s).ratio := by rw [figures]
theorem figures_computed : (figures s).computed = computedLevel (rated s) := by rw [figures]
theorem figures_callCount : (figures s).callCount = computedCall (rated s) := by rw [figures]
theorem figures_imbalance : (figures s).imbalance =
    (sumInService s (trustedOn .port) : Int) - (sumInService s (trustedOn .stbd) : Int) := by rw [figures]
theorem rated_settings : (rated s).settings = s.eval.settings := by rw [rated]
theorem rated_computed : (rated s).computed = s.eval.computed := by rw [rated]
theorem rated_callCount : (rated s).callCount = s.eval.callCount := by rw [rated]

theorem mem_figures_dutyCandidates (t : Fin 12) : t ∈ (figures s).dutyCandidates ↔ s.tanks[t].dutyCandidate = true := by
  rw [figures, List.mem_filter, and_iff_right (show t ∈ allTanks from List.mem_finRange t)]

theorem mem_figures_fillCandidates (t : Fin 12) : t ∈ (figures s).fillCandidates ↔ s.tanks[t].fillCandidate = true := by
  rw [figures, List.mem_filter, and_iff_right (show t ∈ allTanks from List.mem_finRange t)]

theorem rated_ratio : (rated s).ratio = if sumInService s (fun k => k.defn.capacity) = 0 then none
    else some (1000 * sumInService s Tank.trusted / sumInService s fun k => k.defn.capacity) := by rw [rated]

theorem computedLevel_of_none {e : Evaluator} (h : e.ratio = none) : computedLevel e = 7 := by rw [computedLevel, h]
theorem computedCall_of_none {e : Evaluator} (h : e.ratio = none) : computedCall e = 0 := by rw [computedCall, h]

theorem computedLevel_of_some {e : Evaluator} {r : Nat} (h : e.ratio = some r) :
    computedLevel e = gradedLevel e.settings.supplyBands e.settings.hysteresis e.computed r := by rw [computedLevel, h]

theorem computedCall_of_some {e : Evaluator} {r : Nat} (h : e.ratio = some r) :
    computedCall e = gradedLevel e.settings.productionBands e.settings.productionHysteresis e.callCount r := by rw [computedCall, h]

theorem figures_of_empty (zero : (figures s).capacity = 0) :
    (figures s).ratio = none ∧ (figures s).computed = 7 ∧ (figures s).callCount = 0 := by
  rw [figures_capacity] at zero
  have gone := (rated_ratio s).trans (if_pos zero)
  exact ⟨(figures_ratio s).trans gone, (figures_computed s).trans (computedLevel_of_none gone),
    (figures_callCount s).trans (computedCall_of_none gone)⟩

theorem figures_of_capacity (positive : 0 < (figures s).capacity) {ratio : Nat}
    (hratio : ratio = 1000 * (figures s).reserve / (figures s).capacity) : (figures s).ratio = some ratio ∧
      (figures s).computed = gradedLevel s.eval.settings.supplyBands s.eval.settings.hysteresis s.eval.computed ratio ∧
      (figures s).callCount =
        gradedLevel s.eval.settings.productionBands s.eval.settings.productionHysteresis s.eval.callCount ratio := by
  rw [figures_capacity] at positive
  rw [figures_reserve, figures_capacity] at hratio
  have held : (rated s).ratio = some ratio := by rw [rated_ratio, if_neg positive.ne', hratio]
  rw [← rated_settings, ← rated_computed, ← rated_callCount]
  exact ⟨(figures_ratio s).trans held, (figures_computed s).trans (computedLevel_of_some held),
    (figures_callCount s).trans (computedCall_of_some held)⟩

theorem figures_settings : (figures s).settings = s.eval.settings := by rw [figures, rated]
theorem figures_floor_kept : (figures s).floor = s.eval.floor := by rw [figures, rated]
theorem figures_reviewTimer : (figures s).reviewTimer = s.eval.reviewTimer := by rw [figures, rated]

/-- A figure of the Evaluator that does not look at its duty tank is the same after a tank change as the one worked out from the tanks. -/
theorem tankChange_field {α : Type} (f : Evaluator → α) (blind : ∀ e : Evaluator, f e.noDuty = f e) :
    f (tankChange s).eval = f (figures s) := by
  rw [← blind (tankChange s).eval, tankChange_figures, blind]

end

/-- Settles O32. -/
theorem tankChangeWorksOutTheFigures : Obligations.TankChangeWorksOutTheFigures := by
  intro s e he
  have field {α : Type} (f : Evaluator → α) (blind : ∀ x : Evaluator, f x.noDuty = f x) : f e = f (figures s) := by
    rw [he]; exact tankChange_field s f blind
  have reserve : e.reserve = (figures s).reserve := field (·.reserve) fun _ => rfl
  have capacity : e.capacity = (figures s).capacity := field (·.capacity) fun _ => rfl
  have ratio : e.ratio = (figures s).ratio := field (·.ratio) fun _ => rfl
  have computed : e.computed = (figures s).computed := field (·.computed) fun _ => rfl
  have call : e.callCount = (figures s).callCount := field (·.callCount) fun _ => rfl
  have level : e.level = (figures s).level := field (·.level) fun _ => rfl
  have floor : e.floor = (figures s).floor := field (·.floor) fun _ => rfl
  have imbalance : e.imbalance = (figures s).imbalance := field (·.imbalance) fun _ => rfl
  have duty : e.dutyCandidates = (figures s).dutyCandidates := field (·.dutyCandidates) fun _ => rfl
  have fill : e.fillCandidates = (figures s).fillCandidates := field (·.fillCandidates) fun _ => rfl
  have held := tankChange_levelHeld s
  rw [← level] at held
  rw [ratio, computed, call, duty, fill, imbalance, floor]
  refine ⟨?_, ?_, fun zero => figures_of_empty s (capacity ▸ zero),
    fun positive => figures_of_capacity s (capacity ▸ positive) (by rw [reserve, capacity]), ?_, fun moved => ?_, fun same => ?_, ?_,
    fun t => (mem_figures_dutyCandidates s t).trans (Tank.dutyCandidate_iff _),
    fun t => (mem_figures_fillCandidates s t).trans (Tank.fillCandidate_iff _)⟩
  · rw [reserve, figures_reserve, sumInService_eq]
  · rw [capacity, figures_capacity, sumInService_eq]
  · rw [level, figures_level, figures_computed, figures_floor]
  · rw [held, if_neg (Ne.symm moved)]
  · rw [held, if_pos same.symm]
  · rw [figures_imbalance, sumInService_side, sumInService_side, Nat.cast_list_sum, List.map_map]
    rfl

/-! ### What a tank change leaves of each record -/

theorem DrawLine.eq_of_undrawn {l l' : DrawLine} (h : l'.undrawn = l.undrawn) :
    l' = { l with state := l'.state, draw := l'.draw } := by
  cases l; cases l'
  simp only [DrawLine.undrawn, DrawLine.mk.injEq] at h ⊢
  simp [h]

theorem Group.eq_of_unordered {g g' : Group} (h : g'.unordered = g.unordered) : g' = { g with rotation := g'.rotation } := by
  cases g; cases g'
  simp only [Group.unordered, Group.mk.injEq] at h ⊢
  simp [h]

theorem Meter.eq_of_unspelled {m m' : Meter} (h : m'.unspelled = m.unspelled) :
    m' = { m with strayNoticed := m'.strayNoticed } := by
  cases m; cases m'
  simp only [Meter.unspelled, Meter.mk.injEq] at h ⊢
  simp [h]

theorem Tank.eq_of_withoutRoles {k k' : Tank} (h : k'.withoutRoles = k.withoutRoles) :
    k' = { k with duty := k'.duty, fillTrains := k'.fillTrains, transferRole := k'.transferRole, shoreTarget := k'.shoreTarget } := by
  cases k; cases k'
  simp only [Tank.withoutRoles, Tank.mk.injEq] at h ⊢
  simp [h]

/-- Settles O31. -/
theorem tankChangeKeepsTheAccounts : Obligations.TankChangeKeepsTheAccounts := by
  intro s
  have same := tankChange_sameStanding s
  have calm := tankChange_calm s
  have link {α : Type} (f : Link → α) (blind : ∀ l : Link, f { l with queue := [], overflow := false } = f l) :
      f (tankChange s).link = f s.link := by
    rw [← blind (tankChange s).link, ← blind s.link, calm.link]
  refine ⟨fun t => ?_, fun m => Meter.eq_of_unspelled (calm.counts m), same.inputs, same.now, same.strayTotal, same.waters,
    calm.pending, same.allowance, ?_, ?_, ?_, link (·.lineA) fun _ => rfl, link (·.lineB) fun _ => rfl, link (·.stored) fun _ => rfl,
    link (·.writing) fun _ => rfl, link (·.snapshot) fun _ => rfl, link (·.trigger) fun _ => rfl, link (·.localSample) fun _ => rfl,
    link (·.localAsserted) fun _ => rfl, link (·.lastWrite) fun _ => rfl, fun k => DrawLine.eq_of_undrawn (same.lines k),
    fun g => Group.eq_of_unordered (same.groups g), same.mode, same.supplyLossHold, same.settings, same.duty, same.alternationTimer,
    same.setDefs, fun n => ?_, same.pump, same.moved, same.filled⟩
  · refine Tank.eq_of_withoutRoles ?_
    rw [← books_get, ← books_get, tankChange_books]
  · exact (tankChange_field s (·.settings) fun _ => rfl).trans (figures_settings s)
  · exact (tankChange_field s (·.floor) fun _ => rfl).trans (figures_floor_kept s)
  · exact (tankChange_field s (·.reviewTimer) fun _ => rfl).trans (figures_reviewTimer s)
  · obtain ⟨defn, mode, running, made, diverted⟩ := TrainAccounts.mk.inj (same.accounts n)
    obtain ⟨reading, rest⟩ := Prod.mk.inj (same.standing n)
    exact ⟨defn, mode, reading, running, made, diverted, rest⟩

end Sys2Proof.Machine
end


section
/-!
The roles a tank change settles (R68, R69, R130, R165, R169): the duty tank and its flag, the supply state when duty is lost, and the ends
of the transfer and of the shore fill.
-/

namespace Sys2Proof.Machine

/-! ### The duty tank (R67 to R69) -/

theorem selectDuty_eq_none_iff {s : State} : selectDuty s = none ↔ s.eval.dutyCandidates = [] :=
  bestOf_eq_none_iff.trans preferSide_eq_nil_iff

theorem selectDuty_mem {s : State} {t : Fin 12} (h : selectDuty s = some t) : t ∈ s.eval.dutyCandidates :=
  preferSide_subset (bestOf_mem h)

/-- The duty tank is kept while it is a candidate, and selected anew otherwise (R68). -/
theorem checkDuty_keeps_or_selects (s : State) : (∃ d ∈ s.eval.dutyCandidates, s.eval.dutyTank = some d ∧ checkDuty s = s) ∨
    ∃ cause, (∀ d, s.eval.dutyTank = some d → d ∉ s.eval.dutyCandidates) ∧ checkDuty s = applyDuty cause (selectDuty s) s := by
  unfold checkDuty; split
  case h_1 d duty =>
    split
    · rename_i member; exact .inl ⟨d, List.contains_iff_mem.mp member, duty, rfl⟩
    · rename_i outside
      refine .inr ⟨_, fun e same member => outside ?_, rfl⟩
      obtain rfl := Option.some.inj (duty.symm.trans same)
      exact List.contains_iff_mem.mpr member
  case h_2 duty =>
    refine .inr ⟨.appeared, fun d same => absurd (duty.symm.trans same) nofun, ?_⟩
    split
    · rename_i empty
      rw [selectDuty_eq_none_iff.mpr (List.isEmpty_iff.mp empty), applyDuty, duty]
    · rfl

/-- The duty tank after a selection is the one selected (R69). -/
theorem applyDuty_dutyTank (cause : DutyCause) (chosen : Option (Fin 12)) (s : State) :
    (applyDuty cause chosen s).eval.dutyTank = chosen := by
  unfold applyDuty; dsimp only; split
  · split
    · assumption
    · split
      · rw [(dutyTankAppears_besideSets _).eval, post_eval]; rfl
      · rw [post_eval]; rfl
  · split
    · assumption
    · rw [(dutyTankLost_besideSets _).eval, post_eval]; rfl

/-- The duty flag marks the duty tank and no other (R69). -/
def DutyFlagged (s : State) : Prop := ∀ i : Fin 12, s.tanks[i].duty = true ↔ s.eval.dutyTank = some i

theorem DutyFlagged.congr {s u : State} (h : DutyFlagged s) (flags : ∀ i : Fin 12, u.tanks[i].duty = s.tanks[i].duty)
    (duty : u.eval.dutyTank = s.eval.dutyTank) : DutyFlagged u := fun i => by rw [flags, duty]; exact h i

theorem setDutyFlag_get (t : Fin 12) (on : Bool) (s : State) (i : Fin 12) :
    (setDutyFlag t on s).tanks[i].duty = if i = t then on else s.tanks[i].duty := by
  rw [setDutyFlag, modTank_tanks, upd_get]; split
  · rfl
  · rfl

theorem clearOldDuty_get {s : State} (flagged : DutyFlagged s) (i : Fin 12) :
    (clearOldDuty s.eval.dutyTank s).tanks[i].duty = false := by
  obtain none | ⟨d, some⟩ := s.eval.dutyTank.eq_none_or_eq_some
  · rw [none]; exact Bool.eq_false_iff.mpr fun flag => absurd (none.symm.trans ((flagged i).mp flag)) nofun
  · rw [some]
    refine (setDutyFlag_get d false s i).trans ?_
    split
    · rfl
    · rename_i other
      exact Bool.eq_false_iff.mpr fun flag => other (Option.some.inj (((flagged i).mp flag).symm.trans some))

theorem DutyFlagged.applyDuty {s : State} (h : DutyFlagged s) (cause : DutyCause) (chosen : Option (Fin 12)) :
    DutyFlagged (applyDuty cause chosen s) := by
  unfold Machine.applyDuty; dsimp only; split
  case h_1 t =>
    split
    · exact h
    · have taken : DutyFlagged ((setDutyFlag t true (clearOldDuty s.eval.dutyTank s)).modEval fun e => { e with dutyTank := some t }) := by
        intro i
        rw [modEval_tanks, modEval_eval, setDutyFlag_get, clearOldDuty_get h]
        simp [eq_comm]
      split
      · exact taken.congr (fun i => by rw [dutyTankAppears_tanks, post_tanks]) (by rw [(dutyTankAppears_besideSets _).eval, post_eval])
      · exact taken.congr (fun i => by rw [post_tanks]) (by rw [post_eval])
  case h_2 =>
    split
    · exact h
    case h_2 t old =>
      refine DutyFlagged.congr (s := (setDutyFlag t false s).modEval fun e => { e with dutyTank := none }) (fun i => ?_)
        (fun i => by rw [dutyTankLost_tanks, post_tanks]) (by rw [(dutyTankLost_besideSets _).eval, post_eval])
      have cleared := clearOldDuty_get h i
      rw [old] at cleared
      rw [modEval_tanks, modEval_eval]
      exact iff_of_false (by rw [show (setDutyFlag t false s).tanks[i].duty = false from cleared]; nofun) nofun

theorem DutyFlagged.checkDuty {s : State} (h : DutyFlagged s) : DutyFlagged (checkDuty s) := by
  obtain ⟨_, _, e⟩ | e := checkDuty_cases s <;> rw [e]
  · exact h.applyDuty _ _
  · exact h

/-! ### Supply after the loss of duty (R130) -/

/-- Supply is down, with no capacity, and no set starts or runs. -/
def SupplyDown (p : PressureSets) : Prop := p.supply = .down ∧ p.grantCapacity = 0 ∧
  ∀ x : Fin 2, p.sets[x].state ≠ .starting ∧ p.sets[x].state ≠ .running

theorem stopActive_state (p : PressureSet) : (stopActive p).state ≠ .starting ∧ (stopActive p).state ≠ .running := by
  unfold stopActive; split
  · exact ⟨nofun, nofun⟩
  · simp_all

theorem dutyTankLost_supplyDown (s : State) : SupplyDown (dutyTankLost s).sets := by
  rw [dutyTankLost_eq, workOutSupply_sets]
  have inactive (x : Fin 2) := stopActive_state s.sets.sets[x]
  have sets (x : Fin 2) : (updAll s.sets.sets fun _ p => stopActive p)[x] = stopActive s.sets.sets[x] := updAll_get _ x _
  generalize updAll s.sets.sets (fun _ p => stopActive p) = stopped at *
  have down : supplyNow { s with sets := { s.sets with sets := stopped } } = .down := by
    cases now : supplyNow { s with sets := { s.sets with sets := stopped } } with
    | down => rfl
    | up =>
      have runs := (supplyNow_eq_up_iff _).mp now
      exact absurd ((congrArg PressureSet.state (sets s.sets.duty)).symm.trans runs) (inactive s.sets.duty).2
  exact ⟨down, capacityNow_of_down down, fun x => by
    have same := congrArg PressureSet.state (sets x)
    exact ⟨fun h => (inactive x).1 (same.symm.trans h), fun h => (inactive x).2 (same.symm.trans h)⟩⟩

theorem applyDuty_loses {cause : DutyCause} {d : Fin 12} {s : State} (duty : s.eval.dutyTank = some d) :
    SupplyDown (applyDuty cause none s).sets := by
  unfold applyDuty; dsimp only; split
  · rename_i idle; exact absurd (duty.symm.trans idle) nofun
  · exact dutyTankLost_supplyDown _

section
variable (s : State)

theorem checkDuty_candidate {d : Fin 12} (duty : (checkDuty s).eval.dutyTank = some d) : d ∈ s.eval.dutyCandidates := by
  obtain ⟨d', member, held, e⟩ | ⟨cause, _, e⟩ := checkDuty_keeps_or_selects s <;> rw [e] at duty
  · obtain rfl := Option.some.inj (held.symm.trans duty); exact member
  · exact selectDuty_mem ((applyDuty_dutyTank _ _ _).symm.trans duty)

theorem checkDuty_eq_none_iff : (checkDuty s).eval.dutyTank = none ↔ s.eval.dutyCandidates = [] := by
  obtain ⟨d, member, held, e⟩ | ⟨cause, _, e⟩ := checkDuty_keeps_or_selects s <;> rw [e]
  · rw [held]; exact iff_of_false nofun (List.ne_nil_of_mem member)
  · rw [applyDuty_dutyTank]; exact selectDuty_eq_none_iff

theorem checkDuty_kept {d : Fin 12} (duty : s.eval.dutyTank = some d) (member : d ∈ s.eval.dutyCandidates) :
    (checkDuty s).eval.dutyTank = some d := by
  obtain ⟨_, _, _, e⟩ | ⟨_, outside, _⟩ := checkDuty_keeps_or_selects s
  · rw [e, duty]
  · exact absurd member (outside d duty)

theorem checkDuty_loses (had : s.eval.dutyTank ≠ none) (lost : (checkDuty s).eval.dutyTank = none) : SupplyDown (checkDuty s).sets := by
  obtain ⟨d, duty⟩ := Option.ne_none_iff_exists'.mp had
  obtain ⟨_, _, _, e⟩ | ⟨cause, _, e⟩ := checkDuty_keeps_or_selects s <;> rw [e] at lost ⊢
  · exact absurd lost had
  · rw [applyDuty_dutyTank] at lost
    rw [lost]
    exact applyDuty_loses duty

end

/-! ### The ends of the transfer and of the shore fill (R165, R169) -/

theorem transferEndDue_eq_none_iff (s : State) : transferEndDue s = none ↔ ∀ r, s.transfer.run = some r →
    s.transfer.moved ≠ r.litres ∧ (s.tanks[r.source].state = .inService ∧ s.tanks[r.dest].state = .inService) ∧
      ¬ s.tanks[r.source].low = true ∧ ¬ s.tanks[r.dest].full = true := by
  unfold transferEndDue
  obtain idle | ⟨r, run⟩ := s.transfer.run.eq_none_or_eq_some
  · simp only [idle]; exact iff_of_true trivial fun r => nofun
  · simp only [run, Option.some.injEq, forall_eq']
    split <;> rename_i moved
    · simp [moved]
    split <;> rename_i states
    · refine iff_of_false nofun fun ⟨_, ⟨source, dest⟩, _⟩ => ?_
      rw [source, dest] at states
      exact absurd states (by decide)
    have serve : s.tanks[r.source].state = .inService ∧ s.tanks[r.dest].state = .inService := by
      simpa [-Fin.getElem_fin] using states
    split <;> rename_i low
    · exact iff_of_false nofun fun ⟨_, _, high, _⟩ => high low
    split <;> rename_i full
    · exact iff_of_false nofun fun ⟨_, _, _, room⟩ => room full
    exact iff_of_true rfl ⟨moved, serve, low, full⟩

theorem shoreEndDue_eq_none_iff (s : State) : shoreEndDue s = none ↔ ∀ r, s.shore.run = some r →
    (0 < r.litres → s.shore.filled ≠ r.litres) ∧ s.tanks[r.target].state ≠ .isolated ∧ ¬ s.tanks[r.target].full = true := by
  unfold shoreEndDue
  obtain idle | ⟨r, run⟩ := s.shore.run.eq_none_or_eq_some
  · simp only [idle]; exact iff_of_true trivial fun r => nofun
  · simp only [run, Option.some.injEq, forall_eq', Bool.and_eq_true, decide_eq_true_eq, beq_iff_eq]
    split <;> rename_i filled
    · exact iff_of_false nofun fun ⟨unfilled, _⟩ => unfilled filled.1 filled.2
    split <;> rename_i isolated
    · exact iff_of_false nofun fun ⟨_, open', _⟩ => open' isolated
    split <;> rename_i full
    · exact iff_of_false nofun fun ⟨_, _, room⟩ => room full
    exact iff_of_true rfl ⟨fun limit same => filled ⟨limit, same⟩, isolated, full⟩

theorem tank_state_of_books {s u : State} (books : u.books = s.books) (t : Fin 12) : u.tanks[t].state = s.tanks[t].state ∧
    u.tanks[t].low = s.tanks[t].low ∧ u.tanks[t].full = s.tanks[t].full := by
  have same : u.tanks[t].withoutRoles = s.tanks[t].withoutRoles := by rw [← books_get, ← books_get, books]
  have state := congrArg Tank.state same
  have low := congrArg Tank.low same
  have full := congrArg Tank.full same
  exact ⟨state, low, full⟩

theorem transferEndDue_none_congr {s u : State} (books : u.books = s.books) (transfer : u.transfer = s.transfer)
    (settled : transferEndDue s = none) : transferEndDue u = none := by
  refine (transferEndDue_eq_none_iff u).mpr fun r run => ?_
  rw [transfer] at run
  obtain ⟨source, low, _⟩ := tank_state_of_books books r.source
  obtain ⟨dest, _, full⟩ := tank_state_of_books books r.dest
  rw [transfer, source, dest, low, full]
  exact (transferEndDue_eq_none_iff s).mp settled r run

theorem shoreEndDue_none_congr {s u : State} (books : u.books = s.books) (shore : u.shore = s.shore)
    (settled : shoreEndDue s = none) : shoreEndDue u = none := by
  refine (shoreEndDue_eq_none_iff u).mpr fun r run => ?_
  rw [shore] at run
  obtain ⟨state, _, full⟩ := tank_state_of_books books r.target
  rw [shore, state, full]
  exact (shoreEndDue_eq_none_iff s).mp settled r run

theorem endTransfer_idle (cause : TransferCause) (s : State) : (endTransfer cause s).transfer.run = none := by
  obtain idle | ⟨r, run⟩ := s.transfer.run.eq_none_or_eq_some
  · rw [endTransfer_of_idle cause idle, idle]
  · rw [endTransfer_transfer cause run]

theorem endShore_idle (cause : ShoreCause) (s : State) : (endShore cause s).shore.run = none := by
  obtain idle | ⟨r, run⟩ := s.shore.run.eq_none_or_eq_some
  · rw [endShore_of_idle cause idle, idle]
  · rw [endShore_of_run cause run, post_shore]

theorem endTransfer_shore (cause : TransferCause) (s : State) : (endTransfer cause s).shore = s.shore := by
  obtain idle | ⟨r, run⟩ := s.transfer.run.eq_none_or_eq_some
  · rw [endTransfer_of_idle cause idle]
  · rw [endTransfer_of_run cause run, (startCheck_besideTrains _).shore, post_shore]

theorem endShore_transfer (cause : ShoreCause) (s : State) : (endShore cause s).transfer = s.transfer := by
  obtain idle | ⟨r, run⟩ := s.shore.run.eq_none_or_eq_some
  · rw [endShore_of_idle cause idle]
  · rw [endShore_of_run cause run, post_transfer]

theorem settleTransfer_cases (s : State) : (∃ c, settleTransfer s = endTransfer c s) ∨ (transferEndDue s = none ∧ settleTransfer s = s) := by
  unfold settleTransfer; split
  · exact .inl ⟨_, rfl⟩
  · exact .inr ⟨by assumption, rfl⟩

theorem settleShore_cases (s : State) : (∃ c, settleShore s = endShore c s) ∨ (shoreEndDue s = none ∧ settleShore s = s) := by
  unfold settleShore; split
  · exact .inl ⟨_, rfl⟩
  · exact .inr ⟨by assumption, rfl⟩

theorem settleTransfer_settles (s : State) : transferEndDue (settleTransfer s) = none := by
  obtain ⟨c, e⟩ | ⟨none, e⟩ := settleTransfer_cases s <;> rw [e]
  · exact (transferEndDue_eq_none_iff _).mpr fun r run => absurd ((endTransfer_idle c s).symm.trans run) nofun
  · exact none

theorem settleShore_settles (s : State) : shoreEndDue (settleShore s) = none := by
  obtain ⟨c, e⟩ | ⟨none, e⟩ := settleShore_cases s <;> rw [e]
  · exact (shoreEndDue_eq_none_iff _).mpr fun r run => absurd ((endShore_idle c s).symm.trans run) nofun
  · exact none

theorem transferEndDue_settleShore {s : State} (settled : transferEndDue s = none) : transferEndDue (settleShore s) = none := by
  obtain ⟨c, e⟩ | ⟨_, e⟩ := settleShore_cases s <;> rw [e]
  · exact transferEndDue_none_congr (endShore_books c s) (endShore_transfer c s) settled
  · exact settled

theorem shoreEndDue_settleTransfer {s : State} (settled : shoreEndDue s = none) : shoreEndDue (settleTransfer s) = none := by
  obtain ⟨c, e⟩ | ⟨_, e⟩ := settleTransfer_cases s <;> rw [e]
  · exact shoreEndDue_none_congr (endTransfer_books c s) (endTransfer_shore c s) settled
  · exact settled

/-- Whatever the order of the two ends, neither operation has an end due behind a tank change (R165, R169). -/
theorem transferShoreTake_settles (s : State) :
    transferEndDue (transferShoreTake s) = none ∧ shoreEndDue (transferShoreTake s) = none := by
  have transferFirst (u : State) : transferEndDue (settleShore (settleTransfer u)) = none ∧
      shoreEndDue (settleShore (settleTransfer u)) = none :=
    ⟨transferEndDue_settleShore (settleTransfer_settles u), settleShore_settles _⟩
  unfold transferShoreTake; dsimp only; split
  · split
    · exact transferFirst _
    · exact ⟨settleTransfer_settles _, shoreEndDue_settleTransfer (settleShore_settles _)⟩
  · exact transferFirst s

/-! ### What the ends leave of the duty flag and of the sets -/

theorem endTransfer_duty (cause : TransferCause) (s : State) (i : Fin 12) : (endTransfer cause s).tanks[i].duty = s.tanks[i].duty := by
  obtain idle | ⟨r, run⟩ := s.transfer.run.eq_none_or_eq_some
  · rw [endTransfer_of_idle cause idle]
  · rw [endTransfer_of_run cause run]
    have kept := congrArg Tank.duty ((startCheck_besideTrains (post (.transferEnded r.source cause s.transfer.moved)
      { s with
        tanks := upd (upd s.tanks r.source fun k => { k with transferRole := .none }) r.dest fun k => { k with transferRole := .none }
        power := { s.power with holders := s.power.holders.filter (· != .pump) }
        transfer := { s.transfer with run := none, lastEnd := some ⟨cause, r.source, r.dest, s.transfer.moved⟩ } })).tanks i)
    refine Eq.trans kept ?_
    rw [post_tanks]
    exact (upd_view _ _ (fun k : Tank => (rfl : ({ k with transferRole := .none } : Tank).duty = k.duty)) i).trans
      (upd_view _ _ (fun k : Tank => (rfl : ({ k with transferRole := .none } : Tank).duty = k.duty)) i)

theorem endShore_duty (cause : ShoreCause) (s : State) (i : Fin 12) : (endShore cause s).tanks[i].duty = s.tanks[i].duty := by
  obtain idle | ⟨r, run⟩ := s.shore.run.eq_none_or_eq_some
  · rw [endShore_of_idle cause idle]
  · rw [endShore_of_run cause run, post_tanks]
    exact upd_view _ _ (fun k : Tank => (rfl : ({ k with shoreTarget := false } : Tank).duty = k.duty)) i

theorem endTransfer_sets (cause : TransferCause) (s : State) : (endTransfer cause s).sets = s.sets := by
  obtain idle | ⟨r, run⟩ := s.transfer.run.eq_none_or_eq_some
  · rw [endTransfer_of_idle cause idle]
  · rw [endTransfer_of_run cause run, (startCheck_besideTrains _).sets, post_sets]

theorem endShore_sets (cause : ShoreCause) (s : State) : (endShore cause s).sets = s.sets := by
  obtain idle | ⟨r, run⟩ := s.shore.run.eq_none_or_eq_some
  · rw [endShore_of_idle cause idle]
  · rw [endShore_of_run cause run, post_sets]

theorem transferShoreTake_duty (s : State) (i : Fin 12) : (transferShoreTake s).tanks[i].duty = s.tanks[i].duty :=
  transferShoreTake_keeps (P := fun u => u.tanks[i].duty = s.tanks[i].duty)
    (fun c u h => (endTransfer_duty c u i).trans h) (fun c u h => (endShore_duty c u i).trans h) (fun _ h => h) s rfl

theorem transferShoreTake_sets (s : State) : (transferShoreTake s).sets = s.sets :=
  transferShoreTake_keeps (P := fun u => u.sets = s.sets)
    (fun c u h => (endTransfer_sets c u).trans h) (fun c u h => (endShore_sets c u).trans h) (fun _ h => h) s rfl

theorem trainsTake_duty (oldCall : Nat) (oldCandidates : List (Fin 12)) (s : State) (i : Fin 12) :
    (trainsTake oldCall oldCandidates s).tanks[i].duty = s.tanks[i].duty := by
  have e := congrArg Tank.duty ((trainsTake_besideTrains oldCall oldCandidates s).tanks i)
  exact e

theorem tankChange_duty (s : State) (i : Fin 12) : (tankChange s).tanks[i].duty = (evaluate s).tanks[i].duty := by
  rw [tankChange, transferShoreTake_duty, evaluateAndTrains, trainsTake_duty]

theorem tankChange_sets (s : State) : (tankChange s).sets = (evaluate s).sets := by
  rw [tankChange, transferShoreTake_sets, evaluateAndTrains, (trainsTake_besideTrains _ _ _).sets]

theorem figures_dutyTank (s : State) : (figures s).dutyTank = s.eval.dutyTank := by rw [figures, rated]

theorem workedOut_dutyTank (s : State) : (workedOut s).eval.dutyTank = s.eval.dutyTank := by
  rw [workedOut_eval, figures_dutyTank]

theorem tankChange_dutyCandidates (s : State) : (tankChange s).eval.dutyCandidates = (workedOut s).eval.dutyCandidates := by
  rw [workedOut_eval]; exact tankChange_field s (·.dutyCandidates) fun _ => rfl

/-- Settles O33, from the check of the duty tank and from the ends that are no longer due. -/
theorem tankChangeSettlesTheRoles : Obligations.TankChangeSettlesTheRoles := by
  rintro s t rfl
  have flags (flagged : DutyFlagged s) : DutyFlagged (tankChange s) := by
    have worked : DutyFlagged (workedOut s) := flagged.congr (fun i => by rw [workedOut_tanks]) (workedOut_dutyTank s)
    exact worked.checkDuty.congr (fun i => by rw [tankChange_duty, evaluate_eq]) (by rw [tankChange_eval, evaluate_eq])
  have settled : transferEndDue (tankChange s) = none ∧ shoreEndDue (tankChange s) = none := by
    rw [tankChange]; exact transferShoreTake_settles _
  have dutyTank : (tankChange s).eval.dutyTank = (checkDuty (workedOut s)).eval.dutyTank := by rw [tankChange_eval, evaluate_eq]
  have sets : (tankChange s).sets = (checkDuty (workedOut s)).sets := by rw [tankChange_sets, evaluate_eq]
  have candidates := tankChange_dutyCandidates s
  have held := workedOut_dutyTank s
  generalize tankChange s = t at *
  generalize workedOut s = w at *
  obtain ⟨transferSettled, shoreSettled⟩ := settled
  refine ⟨fun d duty => ?_, ?_, fun d duty member => ?_, flags, fun had lost => ?_, fun r run => ?_, fun r run => ?_⟩
  · rw [candidates]; exact checkDuty_candidate w (dutyTank.symm.trans duty)
  · rw [dutyTank, candidates]; exact checkDuty_eq_none_iff w
  · rw [dutyTank]; exact checkDuty_kept w (held.trans duty) (candidates ▸ member)
  · have down := checkDuty_loses w (held ▸ had) (dutyTank.symm.trans lost)
    rw [← sets] at down
    exact down
  · obtain ⟨moved, ⟨source, dest⟩, low, full⟩ := (transferEndDue_eq_none_iff t).mp transferSettled r run
    rw [Tank.low_iff, not_and, not_le] at low
    rw [Tank.full_iff, not_and, not_le] at full
    exact ⟨moved, source, dest, low (Tank.defined_of_inService source), full (Tank.defined_of_inService dest)⟩
  · obtain ⟨filled, isolated, full⟩ := (shoreEndDue_eq_none_iff t).mp shoreSettled r run
    rw [Tank.full_iff, not_and, not_le] at full
    exact ⟨filled, isolated, fun defined => full (Tank.defined_iff.mpr defined)⟩

end Sys2Proof.Machine
end


section
/-!
The fill targets of a tank change, train by train (R71, R72, R141 to R143). `Followed` is what becomes, in a tank change, of a train that
produced into a tank: it still produces as before into that tank or into the one R71 chooses, or it was stopped for one of two causes.
-/

namespace Sys2Proof.Machine

/-! ### A train through a tank change, its flush apart -/

theorem offFlush_state_eq_producing {st : TrainState} : st.offFlush = .producing ↔ st = .producing := by cases st <;> decide

/-- Everything of a train but its flush is kept by a start check, unless the train is OFF (R147, R148). -/
theorem startCheck_train {s : State} {m : Fin 3} (on : s.trains[m].state ≠ .off) : (startCheck s).trains[m] = s.trains[m] := by
  obtain ⟨n, may, -, -, -, -, -, e⟩ | e := startCheck_cases s <;> rw [e]
  rw [beginTrain_trains]; split
  · subst m; exact absurd (startable_iff.mp may).1 on
  · rfl

theorem modTrain_offFlush (s : State) (n m : Fin 3) {f : Train → Train} (h : ∀ w, (f w).offFlush = w.offFlush := by intro _; rfl) :
    (s.modTrain n f).trains[m].offFlush = s.trains[m].offFlush := upd_view s.trains n h m

theorem modTrain_state (s : State) (n m : Fin 3) {f : Train → Train} (h : ∀ w, (f w).state = w.state := by intro _; rfl) :
    (s.modTrain n f).trains[m].state = s.trains[m].state := upd_view s.trains n h m

theorem askFlush_offFlush (n : Fin 3) (s : State) (m : Fin 3) : (askFlush n s).trains[m].offFlush = s.trains[m].offFlush := by
  obtain ⟨_, _, _, _, e⟩ | e := askFlush_cases n s <;> rw [e]
  exact ((register_besideDraws _ _ _ _).trains m).trans (modTrain_offFlush s n m)

/-- A stop leads to FLUSH_WAIT with its cause, and then to a start check; the other trains keep all but their flush (R143). -/
theorem haltTrain_stops (n : Fin 3) (cause : StopCause) (s : State) : ∃ u, haltTrain n cause s = startCheck u ∧
    (u.trains[n].offFlush.state = .flushWait ∧ u.trains[n].offFlush.stopCause = some cause) ∧
    ∀ m, m ≠ n → u.trains[m].offFlush = s.trains[m].offFlush := by
  have others (m : Fin 3) (other : m ≠ n) : (giveUpTarget n s).trains[m] = s.trains[m] := by rw [giveUpTarget_trains, if_neg other]
  unfold haltTrain
  generalize giveUpTarget n s = g at *
  refine ⟨_, rfl, ?_, fun m other => ?_⟩
  · rw [enterFlushWait, askFlush_offFlush, modTrain_trains, upd_get, if_pos rfl, releaseHolder_trains, modTrain_trains, upd_get,
      if_pos rfl]
    exact ⟨rfl, rfl⟩
  · rw [enterFlushWait, askFlush_offFlush, modTrain_trains, upd_get, if_neg other, releaseHolder_trains, modTrain_trains, upd_get,
      if_neg other, others m other]

theorem offFlush_eq_off {w : Train} : w.offFlush.state = .off ↔ w.state = .off := by
  cases state : w.state <;> simp [Train.offFlush, state, TrainState.offFlush]

theorem haltTrain_other {n m : Fin 3} (other : m ≠ n) (cause : StopCause) {s : State} (on : s.trains[m].state ≠ .off) :
    (haltTrain n cause s).trains[m].offFlush = s.trains[m].offFlush := by
  obtain ⟨u, e, _, others⟩ := haltTrain_stops n cause s
  have same := others m other
  have still : u.trains[m].state ≠ .off := by rw [ne_eq, ← offFlush_eq_off, same, offFlush_eq_off]; exact on
  rw [e, startCheck_train still, same]

/-- A train that stops is in FLUSH_WAIT or behind it, with the cause of the stop (R143). -/
theorem haltTrain_self (n : Fin 3) (cause : StopCause) (s : State) : (haltTrain n cause s).trains[n].offFlush.state = .flushWait ∧
    (haltTrain n cause s).trains[n].offFlush.stopCause = some cause := by
  obtain ⟨u, e, waits, _⟩ := haltTrain_stops n cause s
  have still : u.trains[n].state ≠ .off := by rw [ne_eq, ← offFlush_eq_off, waits.1]; nofun
  rw [e, startCheck_train still]
  exact waits

theorem evaluate_offFlush (s : State) (m : Fin 3) : (evaluate s).trains[m].offFlush = s.trains[m].offFlush :=
  evaluate_keeps (P := fun u => u.trains[m].offFlush = s.trains[m].offFlush) (fun _ _ h => h)
    (fun u h => by
      obtain ⟨_, e⟩ | ⟨_, e⟩ := workOutLevel_cases .reserve u <;> rw [e]
      · exact h
      · refine ((takeLevel_besideArbiter _ _).trains m).trans ?_
        rw [post_trains]; exact h)
    (fun c u _ h => applyDuty_keeps (P := fun u => u.trains[m].offFlush = s.trains[m].offFlush) (fun _ _ _ h => h) (fun _ _ h => h)
      (fun n u h => by rw [post_trains]; exact h) (fun u h => ((dutyTankAppears_besideSets u).trains m).trans h)
      (fun u h => ((dutyTankLost_besideSets u).trains m).trans h) c _ u h) s rfl

/-! ### One train takes a new target (R142) -/

theorem retarget_some {s : State} {n : Fin 3} {d e : Fin 12} (target : s.trains[n].target = some d) (found : selectFill s = some e) :
    retarget s n = ((s.modTank d fun k => { k with fillTrains := k.fillTrains.filter (· != n) }).modTank e fun k =>
      { k with fillTrains := k.fillTrains ++ [n] }).modTrain n fun w => { w with target := some e } := by
  rw [retarget, found]
  simp only [target]

theorem retarget_none {s : State} (n : Fin 3) (noTank : selectFill s = none) : retarget s n = haltTrain n .noTarget s := by
  rw [retarget, noTank]

/-- A choice of a fill target looks at the books of the tanks and at the Evaluator only (R71). -/
theorem selectFill_books {s u : State} (books : u.books = s.books) (eval : u.eval = s.eval) : selectFill u = selectFill s := by
  have tank (t : Fin 12) : u.tanks[t].withoutRoles = s.tanks[t].withoutRoles := by rw [← books_get, ← books_get, books]
  have trusted (t : Fin 12) : u.tanks[t].trusted = s.tanks[t].trusted := by
    have e := congrArg Tank.trusted (tank t)
    exact e
  have defn (t : Fin 12) : u.tanks[t].defn = s.tanks[t].defn := by
    have e := congrArg Tank.defn (tank t)
    exact e
  have lower : ratioLower u = ratioLower s := by funext a b; simp only [ratioLower, trusted, defn]
  have side : fillSide u = fillSide s := by simp only [fillSide, eval]
  have pool (d : Option Side) (cands : List (Fin 12)) : preferSide u d cands = preferSide s d cands := by
    simp only [preferSide, defn]
  rw [selectFill, selectFill, lower, side, eval, pool]

theorem selectFill_eq_none_iff {s : State} : selectFill s = none ↔ s.eval.fillCandidates = [] :=
  bestOf_eq_none_iff.trans preferSide_eq_nil_iff

/-! ### A producing train followed through a tank change -/

/-- What becomes of a train `w` that produced into the tank `d`: it produces on, into `d` or into the chosen tank when `d` is no
candidate any more, or it was stopped CALL_DROPPED, or NO_TARGET with no candidate left. -/
def Train.Follows (w : Train) (d : Fin 12) (candidates : List (Fin 12)) (chosen : Option (Fin 12)) (v : Train) : Prop :=
  (v.state = .producing ∧ v.stall = w.stall ∧ v.producingSince = w.producingSince ∧
    (v.target = some d ∨ (d ∉ candidates ∧ v.target = chosen))) ∨
  (v.state = .flushWait ∧ (v.stopCause = some .callDropped ∨ (v.stopCause = some .noTarget ∧ candidates = [])))

def Followed (n : Fin 3) (w : Train) (d : Fin 12) (u : State) : Prop :=
  w.Follows d u.eval.fillCandidates (selectFill u) u.trains[n].offFlush

section
variable {n : Fin 3} {w : Train} {d : Fin 12}

theorem Followed.congr {s u : State} (h : Followed n w d s) (books : u.books = s.books) (eval : u.eval = s.eval)
    (train : u.trains[n].offFlush = s.trains[n].offFlush) : Followed n w d u := by
  rw [Followed, selectFill_books books eval, eval, train]; exact h

theorem Followed.on {s : State} (h : Followed n w d s) : s.trains[n].state ≠ .off := by
  intro off
  obtain ⟨state, _⟩ | ⟨state, _⟩ := h <;> simp only [Train.offFlush, off] at state <;> exact absurd state (by decide)

theorem Followed.startCheck {s : State} (h : Followed n w d s) : Followed n w d (startCheck s) :=
  h.congr (startCheck_books s) (startCheck_besideTrains s).eval (by rw [startCheck_train h.on])

theorem Followed.haltTrain {s : State} (h : Followed n w d s) (m : Fin 3) {cause : StopCause}
    (known : cause = .callDropped ∨ (cause = .noTarget ∧ s.eval.fillCandidates = [])) : Followed n w d (haltTrain m cause s) := by
  by_cases same : n = m
  · subst same
    obtain ⟨waits, stop⟩ := haltTrain_self n cause s
    refine .inr ⟨waits, ?_⟩
    rw [stop, (haltTrain_besideTrains n cause s).eval]
    exact known.imp (congrArg some) (And.imp_left (congrArg some))
  · exact h.congr (haltTrain_books m cause s) (haltTrain_besideTrains m cause s).eval (haltTrain_other same cause h.on)

theorem Followed.stopCheck {s : State} (h : Followed n w d s) : Followed n w d (stopCheck s) :=
  stopCheck_keeps (P := Followed n w d) (fun m _ h => h.haltTrain m (.inl rfl)) s h

/-- One train that has lost its target takes its turn: the train followed takes the chosen tank when the turn is its own. -/
theorem Followed.retarget {s : State} (h : Followed n w d s) (lists : FillLists s) {m : Fin 3} (lost : lostTarget s m = true) :
    Followed n w d (retarget s m) := by
  obtain ⟨old, target, left⟩ := (lostTarget_iff lists m).mp lost
  obtain noTank | ⟨e, found⟩ := (selectFill s).eq_none_or_eq_some
  · rw [retarget_none m noTank]
    exact h.haltTrain m (.inr ⟨rfl, selectFill_eq_none_iff.mp noTank⟩)
  have eval : (Machine.retarget s m).eval = s.eval := by rw [retarget_some target found]; rfl
  have trains : (Machine.retarget s m).trains[n] = if n = m then { s.trains[m] with target := some e } else s.trains[n] := by
    rw [retarget_some target found]; exact upd_get s.trains m n _
  by_cases same : n = m
  · subst same
    rw [if_pos rfl] at trains
    rw [Followed, selectFill_books (retarget_books s n) eval, eval, trains, found]
    obtain ⟨state, stall, since, held | ⟨out, _⟩⟩ | waits := h
    · have was : s.trains[n].target = some d := held
      obtain rfl := Option.some.inj (target.symm.trans was)
      exact .inl ⟨state, stall, since, .inr ⟨left, rfl⟩⟩
    · exact .inl ⟨state, stall, since, .inr ⟨out, rfl⟩⟩
    · exact .inr waits
  · rw [if_neg same] at trains
    exact h.congr (retarget_books s m) eval (by rw [trains])

theorem Followed.foldl_retarget : ∀ (l : List (Fin 3)) {s : State}, Followed n w d s → FillLists s → l.Nodup →
    (∀ m, lostTarget s m = true ↔ m ∈ l) → Followed n w d (l.foldl Machine.retarget s)
  | [], _, h, _, _, _ => h
  | m :: l, s, h, lists, once, lost => by
    have mine := (lost m).mpr List.mem_cons_self
    have r := lists.retargeted mine
    obtain ⟨fresh, once⟩ := List.nodup_cons.mp once
    refine Followed.foldl_retarget l (h.retarget lists mine) r.lists once fun k => ?_
    rw [r.lost_iff lists, lost, List.mem_cons]
    exact ⟨fun ⟨mem, other⟩ => mem.resolve_left other, fun mem => ⟨.inr mem, fun same => fresh (same ▸ mem)⟩⟩

theorem Followed.retargetAll {s : State} (h : Followed n w d s) (lists : FillLists s) : Followed n w d (retargetAll s) := by
  unfold Machine.retargetAll; dsimp only; split
  · exact h.foldl_retarget _ lists ((List.nodup_finRange 3).filter _) fun m => by simp [allTrains]
  · obtain ⟨once, all⟩ := trainOrders_getD (takeChoice 6 s).1
    refine Followed.foldl_retarget _ (s := (takeChoice 6 s).2) (h.congr rfl rfl rfl) lists (once.filter _) fun m => ?_
    rw [List.mem_filter, List.contains_iff_mem, List.mem_filter]
    exact ⟨fun lost => ⟨all m, List.mem_finRange m, lost⟩, fun mem => mem.2.2⟩

theorem Followed.endTransfer {s : State} (h : Followed n w d s) (cause : TransferCause) : Followed n w d (endTransfer cause s) := by
  obtain idle | ⟨r, run⟩ := s.transfer.run.eq_none_or_eq_some
  · rw [endTransfer_of_idle cause idle]; exact h
  · have books := endTransfer_books cause s
    have eval := endTransfer_eval cause s
    rw [endTransfer_of_run cause run] at books eval ⊢
    rw [startCheck_books] at books
    rw [(startCheck_besideTrains _).eval] at eval
    exact (h.congr books eval (by rw [post_trains])).startCheck

theorem Followed.endShore {s : State} (h : Followed n w d s) (cause : ShoreCause) : Followed n w d (endShore cause s) := by
  refine h.congr (endShore_books cause s) (endShore_eval cause s) ?_
  obtain idle | ⟨r, run⟩ := s.shore.run.eq_none_or_eq_some
  · rw [endShore_of_idle cause idle]
  · rw [endShore_of_run cause run, post_trains]

theorem Followed.transferShoreTake {s : State} (h : Followed n w d s) : Followed n w d (transferShoreTake s) :=
  transferShoreTake_keeps (P := Followed n w d) (fun c _ h => h.endTransfer c) (fun c _ h => h.endShore c)
    (fun _ h => h.congr rfl rfl rfl) s h

end

/-- A train that produced into a tank is followed through the whole tank change. -/
theorem tankChange_followed {s : State} (lists : FillLists s) {n : Fin 3} {d : Fin 12} (target : s.trains[n].target = some d) :
    Followed n s.trains[n] d (tankChange s) := by
  obtain ⟨_, _, producing⟩ := id lists
  have state : s.trains[n].offFlush.state = .producing :=
    offFlush_state_eq_producing.mpr ((producing n).mp (by rw [target]; rfl))
  have evaluated : Followed n s.trains[n] d (evaluate s) := by
    rw [Followed, evaluate_offFlush]
    exact .inl ⟨state, rfl, rfl, .inl target⟩
  have checkedLists : FillLists (if (evaluate s).eval.callCount = s.eval.callCount then evaluate s
      else Machine.stopCheck (Machine.startCheck (evaluate s))) :=
    ite_keeps (P := FillLists) _ (lists.of_same (evaluate_sameTargets s))
      (fillListsTrainLaw.stopCheck (fillListsTrainLaw.startCheck (lists.of_same (evaluate_sameTargets s))))
  have checked := (ite_keeps (P := Followed n s.trains[n] d) ((evaluate s).eval.callCount = s.eval.callCount) evaluated
    evaluated.startCheck.stopCheck).retargetAll checkedLists
  rw [tankChange]
  exact Followed.transferShoreTake (ite_keeps (P := Followed n s.trains[n] d) _ checked.startCheck checked)

/-! ### No train enters PRODUCING in a tank change -/

theorem retarget_producing (s : State) (n m : Fin 3) (idle : s.trains[m].state ≠ .producing) :
    (retarget s n).trains[m].state ≠ .producing := by
  unfold retarget; split
  · rename_i t _
    dsimp only
    have kept (u : State) (same : u.trains = s.trains) :
        (u.modTrain n fun w => { w with target := some t }).trains[m].state = s.trains[m].state := by
      rw [← same]; exact modTrain_state u n m
    refine fun on => idle ((kept _ ?_).symm.trans on)
    rw [modTank_trains]; split <;> rfl
  · exact fun on => idle ((haltTrain_producing n _ s m).mp on).2

theorem tankChange_producing (s : State) (m : Fin 3) (idle : s.trains[m].state ≠ .producing) :
    (tankChange s).trains[m].state ≠ .producing :=
  tankChange_keeps (P := fun u => u.trains[m].state ≠ .producing)
    (fun u h on => h ((evaluate_sameTargets u).producing m |>.mp on))
    (fun c l u h => trainsTake_keeps (P := fun u => u.trains[m].state ≠ .producing)
      (fun u h on => h ((startCheck_producing u m).mp on))
      (fun u h => stopCheck_keeps (P := fun u => u.trains[m].state ≠ .producing)
        (fun n u h on => h ((haltTrain_producing n _ u m).mp on).2) u h)
      (retargetAll_keeps (P := fun u => u.trains[m].state ≠ .producing) (fun u n h => retarget_producing u n m h) fun _ h => h) c l u h)
    (fun u h => transferShoreTake_keeps (P := fun u => u.trains[m].state ≠ .producing)
      (fun c u h on => h (by
        obtain idle | ⟨r, run⟩ := u.transfer.run.eq_none_or_eq_some
        · rw [endTransfer_of_idle c idle] at on; exact on
        · rw [endTransfer_of_run c run, startCheck_producing, post_trains] at on; exact on))
      (fun c u h on => h (by
        obtain idle | ⟨r, run⟩ := u.shore.run.eq_none_or_eq_some
        · rw [endShore_of_idle c idle] at on; exact on
        · rw [endShore_of_run c run, post_trains] at on; exact on))
      (fun _ h => h) u h) s idle

/-- Settles O34, from the train followed through the tank change and from the law of the fill targets. -/
theorem tankChangeFindsFillTargets : Obligations.TankChangeFindsFillTargets := by
  refine ⟨?_, fun n d s target => ⟨fun e found => retarget_some target found, retarget_none n⟩⟩
  rintro s t lists rfl
  have law : FillLaw (tankChange s) := fillCascade.transferShoreTake lists.evaluateAndTrains
  obtain ⟨after, _, targets⟩ := law
  refine ⟨after, targets, fun n d target => ?_, fun n idle => tankChange_producing s n idle⟩
  have followed := tankChange_followed lists target
  refine ⟨fun on => ?_, fun gone => ?_⟩
  · obtain ⟨_, stall, since, held⟩ | ⟨waits, _⟩ := followed
    · refine ⟨stall, since, fun member => held.resolve_right fun ⟨out, _⟩ => out member, fun out => ?_⟩
      exact held.elim (fun same => absurd (targets n d same) out) And.right
    · rw [show (tankChange s).trains[n].offFlush.state = .producing from offFlush_state_eq_producing.mpr on] at waits
      exact absurd waits (by decide)
  · obtain ⟨on, _⟩ | ⟨_, stopped⟩ := followed
    · exact absurd (offFlush_state_eq_producing.mp on) gone
    · exact stopped

end Sys2Proof.Machine
end


section
/-!
A TRANSFER litre (R9, R10, R36, R165): its two bookings as accounts of every tank, the sum they keep, and the end it may cause.
-/

namespace Sys2Proof.Machine

/-! ### The bookings -/

/-- What a tank holds and what it could not book, modulo 2 to the 32 (R9, R10). -/
def Tank.account (k : Tank) : Word32 := BitVec.ofNat 32 k.volume + k.unbooked

theorem Tank.account_credit (k : Tank) : k.credit.account = k.account + 1 := by
  unfold Tank.credit Tank.account; split
  · simp only [BitVec.ofNat_add, show (1#32 : Word32) = 1 from rfl]; ring
  · simp only; ring

theorem Tank.account_debit (k : Tank) : k.debit.account = k.account - 1 := by
  unfold Tank.debit Tank.account; split
  case isTrue positive =>
    obtain ⟨v, hv⟩ := Nat.exists_eq_add_of_lt positive
    simp only [hv, Nat.zero_add, Nat.add_sub_cancel, BitVec.ofNat_add, show (1#32 : Word32) = 1 from rfl]; ring
  case isFalse => simp only; ring

theorem Tank.withoutRoles_credit (k : Tank) : k.withoutRoles.credit = k.credit.withoutRoles := by
  by_cases room : k.volume < k.defn.capacity <;> simp [Tank.credit, Tank.withoutRoles, room]

theorem Tank.withoutRoles_debit (k : Tank) : k.withoutRoles.debit = k.debit.withoutRoles := by
  by_cases positive : 0 < k.volume <;> simp [Tank.debit, Tank.withoutRoles, positive]

/-- A tank after one litre has been booked into it, or out of it. -/
def Tank.booked (into : Bool) (k : Tank) : Tank := if into then k.credit else k.debit

theorem Tank.withoutRoles_booked (into : Bool) (k : Tank) : (k.withoutRoles.booked into) = (k.booked into).withoutRoles := by
  cases into
  · exact k.withoutRoles_debit
  · exact k.withoutRoles_credit

theorem Tank.account_booked (into : Bool) (k : Tank) : (k.booked into).account = k.account + if into then 1 else -1 := by
  cases into
  · rw [Tank.booked, if_neg nofun, Tank.account_debit, if_neg nofun, sub_eq_add_neg]
  · rw [Tank.booked, if_pos rfl, Tank.account_credit, if_pos rfl]

theorem Tank.booked_kept (into : Bool) (k : Tank) : (k.booked into).state = k.state ∧ (k.booked into).defn = k.defn := by
  cases into
  · unfold Tank.booked Tank.debit; rw [if_neg nofun]; split <;> exact ⟨rfl, rfl⟩
  · unfold Tank.booked Tank.credit; rw [if_pos rfl]; split <;> exact ⟨rfl, rfl⟩

theorem book_books_get (t : Fin 12) (into : Bool) (s : State) (i : Fin 12) :
    (book t into s).books[i] = if i = t then s.books[i].booked into else s.books[i] := by
  rw [books_get, books_get, book, modTank_tanks, upd_get]; split
  · rename_i here; subst here
    rw [Tank.withoutRoles_booked, Tank.booked]
  · rfl

/-! ### The transfer in a tank change -/

theorem evaluate_transfer (s : State) : (evaluate s).transfer = s.transfer :=
  evaluate_keeps (P := fun u => u.transfer = s.transfer) (fun _ _ h => h)
    (fun u h => by
      obtain ⟨_, e⟩ | ⟨_, e⟩ := workOutLevel_cases .reserve u <;> rw [e]
      · exact h
      · rw [(takeLevel_besideArbiter _ _).transfer, post_transfer]; exact h)
    (fun c u _ h => applyDuty_keeps (P := fun u => u.transfer = s.transfer) (fun _ _ _ h => h) (fun _ _ h => h)
      (fun n u h => by rw [post_transfer]; exact h) (fun u h => (dutyTankAppears_besideSets u).transfer.trans h)
      (fun u h => (dutyTankLost_besideSets u).transfer.trans h) c _ u h) s rfl

theorem evaluateAndTrains_transfer (s : State) : (evaluateAndTrains s).transfer = s.transfer := by
  rw [evaluateAndTrains, (trainsTake_besideTrains _ _ _).transfer, evaluate_transfer]

/-- The end a transfer has come to depends on the transfer and on the books of the tanks (R165). -/
theorem transferEndDue_congr {s u : State} (books : u.books = s.books) (transfer : u.transfer = s.transfer) :
    transferEndDue u = transferEndDue s := by
  obtain idle | ⟨r, run⟩ := s.transfer.run.eq_none_or_eq_some
  · simp only [transferEndDue, transfer, idle]
  · obtain ⟨source, low, _⟩ := tank_state_of_books books r.source
    obtain ⟨dest, _, full⟩ := tank_state_of_books books r.dest
    simp only [transferEndDue, transfer, run, source, dest, low, full]

theorem transferEndDue_complete {s : State} {r : TransferRun} (run : s.transfer.run = some r) (moved : s.transfer.moved = r.litres) :
    transferEndDue s = some .complete := by
  simp only [transferEndDue, run, moved, if_pos]

/-- The end of a transfer that has not moved its litres, between tanks that are IN_SERVICE (R165). -/
theorem transferEndDue_of_tanks {s : State} {r : TransferRun} (run : s.transfer.run = some r) (moved : s.transfer.moved ≠ r.litres)
    (source : s.tanks[r.source].state = .inService) (dest : s.tanks[r.dest].state = .inService) : transferEndDue s =
      if s.tanks[r.source].low = true then some .sourceLow else if s.tanks[r.dest].full = true then some .destFull else none := by
  simp only [transferEndDue, run, source, dest]
  rw [if_neg moved, if_neg (by decide)]

theorem settleTransfer_none {s : State} (goesOn : transferEndDue s = none) : settleTransfer s = s := by rw [settleTransfer, goesOn]
theorem settleTransfer_some {s : State} {c : TransferCause} (ends : transferEndDue s = some c) : settleTransfer s = endTransfer c s := by
  rw [settleTransfer, ends]

theorem settleShore_transfer (s : State) : (settleShore s).transfer = s.transfer := by
  obtain ⟨c, e⟩ | ⟨_, e⟩ := settleShore_cases s <;> rw [e]
  exact endShore_transfer c s

theorem settleShore_books (s : State) : (settleShore s).books = s.books := by
  obtain ⟨c, e⟩ | ⟨_, e⟩ := settleShore_cases s <;> rw [e]
  exact endShore_books c s

/-- The transfer after the unit's part of a tank change is the one its own end leaves; the shore fill does not touch it (R165, R169). -/
theorem settleTransfer_transfer_congr {s u : State} (books : u.books = s.books) (transfer : u.transfer = s.transfer) :
    (settleTransfer u).transfer = (settleTransfer s).transfer := by
  obtain goesOn | ⟨c, ends⟩ := (transferEndDue s).eq_none_or_eq_some
  · rw [settleTransfer_none goesOn, settleTransfer_none ((transferEndDue_congr books transfer).trans goesOn), transfer]
  · rw [settleTransfer_some ends, settleTransfer_some ((transferEndDue_congr books transfer).trans ends)]
    obtain idle | ⟨r, run⟩ := s.transfer.run.eq_none_or_eq_some
    · rw [endTransfer_of_idle c idle, endTransfer_of_idle c (by rw [transfer]; exact idle), transfer]
    · rw [endTransfer_transfer c run, endTransfer_transfer c (by rw [transfer]; exact run), transfer]

theorem transferShoreTake_transfer (s : State) : (transferShoreTake s).transfer = (settleTransfer s).transfer := by
  unfold transferShoreTake; dsimp only; split
  · split
    · rw [settleShore_transfer]; exact settleTransfer_transfer_congr rfl rfl
    · exact settleTransfer_transfer_congr (settleShore_books _) (settleShore_transfer _)
  · exact settleShore_transfer _

/-- The transfer after its unit's part of a tank change: it goes on, or it has ended with the cause that was due (R165, R166). -/
theorem transferShoreTake_goesOn {s : State} (goesOn : transferEndDue s = none) : (transferShoreTake s).transfer = s.transfer := by
  rw [transferShoreTake_transfer, settleTransfer_none goesOn]

theorem transferShoreTake_ends {s : State} {c : TransferCause} {r : TransferRun} (run : s.transfer.run = some r)
    (ends : transferEndDue s = some c) : (transferShoreTake s).transfer =
      { s.transfer with run := none, lastEnd := some ⟨c, r.source, r.dest, s.transfer.moved⟩ } := by
  rw [transferShoreTake_transfer, settleTransfer_some ends, endTransfer_transfer c run]

theorem run_of_transferEndDue {s : State} {c : TransferCause} (ends : transferEndDue s = some c) : ∃ r, s.transfer.run = some r := by
  obtain idle | found := s.transfer.run.eq_none_or_eq_some
  · rw [transferEndDue, idle] at ends; exact absurd ends nofun
  · exact found

/-! ### The litre -/

/-- The state a TRANSFER litre has booked and counted, and in which the ends it causes are still to come. -/
def transferBooked (r : TransferRun) (forward : Bool) (s : State) : State :=
  let s2 := evaluateAndTrains (book r.dest forward (evaluateAndTrains (book r.source (!forward) s)))
  { s2 with transfer :=
    { s2.transfer with moved := movedAfter s2.transfer.moved forward, stall := { s2.transfer.stall with count := 0 } } }

section
variable (r : TransferRun) (forward : Bool) (s : State)

theorem transferLitre_eq : transferLitre r forward s = transferShoreTake (transferBooked r forward s) := rfl

theorem transferBooked_transfer : (transferBooked r forward s).transfer =
    { s.transfer with moved := movedAfter s.transfer.moved forward, stall := { s.transfer.stall with count := 0 } } := by
  have e : (evaluateAndTrains (book r.dest forward (evaluateAndTrains (book r.source (!forward) s)))).transfer = s.transfer := by
    rw [evaluateAndTrains_transfer, book, modTank_transfer, evaluateAndTrains_transfer, book, modTank_transfer]
  rw [transferBooked]
  dsimp only
  rw [e]

theorem transferBooked_books (apart : r.source ≠ r.dest) (i : Fin 12) : (transferBooked r forward s).books[i] =
    (if i = r.source then s.tanks[i].booked !forward else if i = r.dest then s.tanks[i].booked forward
      else s.tanks[i]).withoutRoles := by
  have e : (transferBooked r forward s).books = (book r.dest forward (evaluateAndTrains (book r.source (!forward) s))).books :=
    (books_eq_of_tanks rfl).trans (evaluateAndTrains_books _)
  rw [e, book_books_get, evaluateAndTrains_books, book_books_get]
  by_cases source : i = r.source
  · subst source
    rw [if_neg apart, if_pos rfl, if_pos rfl, books_get, Tank.withoutRoles_booked]
  · rw [if_neg source, if_neg source, books_get]
    split
    · rw [Tank.withoutRoles_booked]
    · rfl

end

/-- One litre out of a tank and one into another keep the sum of the accounts (R9, R10, R36). -/
theorem sum_moved {g : Fin 12 → Word32} {a b : Fin 12} (apart : a ≠ b) (amount : Word32) :
    (allTanks.map fun i => g i + if i = a then -amount else if i = b then amount else 0).sum = (allTanks.map g).sum := by
  have split (i : Fin 12) : (if i = a then -amount else if i = b then amount else 0) =
      (if i = a then -amount else 0) + if i = b then amount else 0 := by
    by_cases source : i = a
    · subst source; rw [if_pos rfl, if_pos rfl, if_neg apart, add_zero]
    · rw [if_neg source, if_neg source, zero_add]
  simp only [split, allTanks, ← Fin.sum_univ_def, Finset.sum_add_distrib, Finset.sum_ite_eq', Finset.mem_univ, if_true,
    neg_add_cancel, add_zero]

/-- Settles O25. -/
theorem transferLitreMovesOneLitre : Obligations.TransferLitreMovesOneLitre := by
  rintro r forward s t booked apart rfl hbooked
  have record (i : Fin 12) : booked i = if i = r.source then s.tanks[i].booked !forward else if i = r.dest then
      s.tanks[i].booked forward else s.tanks[i] := by
    rw [hbooked]; cases forward <;> rfl
  obtain ⟨u, hu⟩ : ∃ u, u = transferBooked r forward s := ⟨_, rfl⟩
  have books (i : Fin 12) : u.tanks[i].withoutRoles = (booked i).withoutRoles := by
    rw [← books_get, hu, transferBooked_books r forward s apart, record]
  have after (i : Fin 12) : (transferLitre r forward s).tanks[i].withoutRoles = (booked i).withoutRoles := by
    rw [← books, transferLitre_eq, ← hu, ← books_get, ← books_get, transferShoreTake_books]
  have transfer : u.transfer = { s.transfer with
      moved := movedAfter s.transfer.moved forward, stall := { s.transfer.stall with count := 0 } } := by
    rw [hu, transferBooked_transfer]
  refine ⟨fun i => Tank.eq_of_withoutRoles (after i), ?_, fun net moved hnet hmoved => ?_⟩
  · have account (i : Fin 12) : BitVec.ofNat 32 (transferLitre r forward s).tanks[i].volume + (transferLitre r forward s).tanks[i].unbooked =
        s.tanks[i].account + if i = r.source then -(if forward then 1 else -1) else if i = r.dest then (if forward then 1 else -1) else 0 := by
      have same := congrArg Tank.account (after i)
      refine Eq.trans same ?_
      show (booked i).account = _
      rw [record]
      split
      · rw [Tank.account_booked]; cases forward <;> simp
      · split
        · rw [Tank.account_booked]
        · rw [add_zero]
    simp only [account]
    exact sum_moved apart _
  · have after : movedAfter s.transfer.moved forward = moved := by
      rw [hmoved, hnet, movedAfter]; cases forward <;> rfl
    rw [after] at transfer
    rw [transferLitre_eq, ← hu]
    refine ⟨?_, fun run ends low full hends hlow hfull => ?_⟩
    · obtain goesOn | ⟨c, ended⟩ := (transferEndDue u).eq_none_or_eq_some
      · rw [transferShoreTake_goesOn goesOn, transfer]
      · obtain ⟨r', run⟩ := run_of_transferEndDue ended
        rw [transferShoreTake_ends run ended, transfer]
    · have runs : u.transfer.run = some r := by rw [transfer]; exact run
      have endsWith {c : TransferCause} (due : transferEndDue u = some c) : ends c := by
        rw [hends, transferShoreTake_ends runs due, transfer]; exact ⟨rfl, rfl⟩
      refine ⟨fun same => endsWith (transferEndDue_complete runs (by rw [transfer]; exact same)), fun short source dest => ?_⟩
      have serving (i : Fin 12) (serves : s.tanks[i].state = .inService) : (booked i).state = .inService := by
        rw [record]; split
        · exact (Tank.booked_kept _ _).1.trans serves
        · split
          · exact (Tank.booked_kept _ _).1.trans serves
          · exact serves
      have kept (i : Fin 12) : u.tanks[i].state = (booked i).state ∧ u.tanks[i].low = (booked i).low ∧ u.tanks[i].full = (booked i).full :=
        ⟨by have e := congrArg Tank.state (books i); exact e, by have e := congrArg Tank.low (books i); exact e,
          by have e := congrArg Tank.full (books i); exact e⟩
      have sourceLow : u.tanks[r.source].low = true ↔ low := by
        rw [(kept _).2.1, Tank.low_iff, hlow, and_iff_right (Tank.defined_of_inService (serving _ source))]
      have destFull : u.tanks[r.dest].full = true ↔ full := by
        rw [(kept _).2.2, Tank.full_iff, hfull, and_iff_right (Tank.defined_of_inService (serving _ dest))]
      have due := transferEndDue_of_tanks runs (by rw [transfer]; exact short) ((kept _).1.trans (serving _ source))
        ((kept _).1.trans (serving _ dest))
      refine ⟨fun isLow => endsWith (due.trans (if_pos (sourceLow.mpr isLow))), fun notLow isFull => endsWith ?_, fun notLow notFull => ?_⟩
      · rw [due, if_neg fun h => notLow (sourceLow.mp h), if_pos (destFull.mpr isFull)]
      · rw [if_neg fun h => notLow (sourceLow.mp h), if_neg fun h => notFull (destFull.mp h)] at due
        rw [transferShoreTake_goesOn due, transfer]
        exact ⟨run, rfl⟩

end Sys2Proof.Machine
end


section
/-!
What one event makes of the draws in service (R92, R115, R116, R119, R120; log 22). `Raised` follows the lines preempted at the event, their
order and the rotation orders through the preemptions and the resumptions; the lemmas on ranks say who is ahead of whom in the lists that are
walked.
-/

namespace Sys2Proof.Machine

/-! ### Ranks (R92) -/

/-- The first line is ahead of the second: of an earlier group, or of the same and granted earlier (R92). -/
def Ahead (s : State) (j k : Fin 16) : Prop := s.lines[j].defn.group < s.lines[k].defn.group ∨
  s.lines[j].defn.group = s.lines[k].defn.group ∧ s.arb.inService.idxOf j < s.arb.inService.idxOf k

theorem Ahead.asymm {s : State} {j k : Fin 16} (h : Ahead s j k) : ¬ Ahead s k j := by
  obtain lower | ⟨same, earlier⟩ := h <;> rintro (lower' | ⟨same', earlier'⟩)
  · exact absurd (lower.trans lower') (lt_irrefl _)
  · exact absurd (same' ▸ lower) (lt_irrefl _)
  · exact absurd (same ▸ lower') (lt_irrefl _)
  · omega

theorem pairwise_idxOf {α : Type} [DecidableEq α] {l : List α} (once : l.Nodup) : l.Pairwise fun a b => l.idxOf a < l.idxOf b := by
  rw [List.pairwise_iff_getElem]
  intro i j hi hj lt
  rw [once.idxOf_getElem, once.idxOf_getElem]
  exact lt

theorem rankOrder_ahead {s : State} (once : s.arb.inService.Nodup) : (rankOrder s).Pairwise (Ahead s) := by
  rw [rankOrder, List.pairwise_flatMap]
  refine ⟨fun g _ => ?_, (List.sortedLT_finRange 6).pairwise.imp fun {g g'} lower j hj k hk => ?_⟩
  · refine ((pairwise_idxOf once).filter _).imp_of_mem fun {j k} hj hk earlier => .inr ⟨?_, earlier⟩
    have of {i : Fin 16} (hi : i ∈ s.arb.inService.filter fun k => groupOf s k == g) : s.lines[i].defn.group = g :=
      beq_iff_eq.mp (List.mem_filter.mp hi).2
    rw [of hj, of hk]
  · have jg : s.lines[j].defn.group = g := beq_iff_eq.mp (List.mem_filter.mp hj).2
    have kg : s.lines[k].defn.group = g' := beq_iff_eq.mp (List.mem_filter.mp hk).2
    exact .inl (by rw [jg, kg]; exact lower)

theorem flowingLowestFirst_behind {s : State} (once : s.arb.inService.Nodup) :
    (flowingLowestFirst s).Pairwise fun j k => Ahead s k j :=
  List.pairwise_reverse.mpr ((rankOrder_ahead once).filter _)

/-- In a list in the order of an asymmetric relation, the members before a place are those that stand in the relation to it. -/
theorem mem_before_iff {α : Type} {R : α → α → Prop} (asymm : ∀ {a b}, R a b → ¬ R b a) {p q : List α} {k : α}
    (ordered : (p ++ k :: q).Pairwise R) (j : α) : (j ∈ p ↔ j ∈ p ++ k :: q ∧ R j k) ∧ (j ∈ q ↔ j ∈ p ++ k :: q ∧ R k j) := by
  obtain ⟨_, tail, across⟩ := List.pairwise_append.mp ordered
  obtain ⟨after, _⟩ := List.pairwise_cons.mp tail
  have before (hj : j ∈ p) : R j k := across j hj k List.mem_cons_self
  refine ⟨⟨fun hj => ⟨List.mem_append_left _ hj, before hj⟩, fun ⟨listed, first⟩ => ?_⟩,
    ⟨fun hj => ⟨List.mem_append_right _ (List.mem_cons_of_mem _ hj), after j hj⟩, fun ⟨listed, later⟩ => ?_⟩⟩
  · obtain hj | hj := List.mem_append.mp listed
    · exact hj
    · obtain rfl | hj := List.mem_cons.mp hj
      · exact absurd first (asymm first)
      · exact absurd first (asymm (after j hj))
  · obtain hj | hj := List.mem_append.mp listed
    · exact absurd later (asymm (before hj))
    · obtain rfl | hj := List.mem_cons.mp hj
      · exact absurd later (asymm later)
      · exact hj

/-! ### The lines preempted at an event (R116, log 22) -/

/-- The grant sequence number of a line's draw. -/
def grantOf (s : State) (k : Fin 16) : Word32 := (s.lines[k].draw.bind (·.grantSequence)).getD 0

theorem insertByGrant_filter (counter : Word32) {e : Fin 16 × Word32} {p : Fin 16 × Word32 → Bool} (out : p e = false) :
    ∀ l : List (Fin 16 × Word32), (insertByGrant counter e l).filter p = l.filter p
  | [] => by simp [insertByGrant, out]
  | x :: xs => by
    unfold insertByGrant; split
    · rw [List.filter_cons, if_neg (by rw [out]; nofun)]
    · rw [List.filter_cons, List.filter_cons, insertByGrant_filter counter out xs]

theorem toTop_toTop {ks js order : List (Fin 16)} (sub : ∀ j ∈ js, j ∈ ks) : toTop ks (toTop js order) = toTop ks order := by
  have none : js.filter (fun k => !ks.contains k) = [] := List.filter_eq_nil_iff.mpr fun j hj => by simp [sub j hj]
  rw [toTop, toTop, List.filter_append, none, List.nil_append, List.filter_filter, toTop]
  congr 1
  refine List.filter_congr fun j _ => ?_
  by_cases listed : j ∈ ks
  · simp [listed]
  · have out : j ∉ js := fun h => listed (sub j h)
    simp [listed, out]

/-- The lines preempted at an event that are of a group, the earliest granted first. -/
def raisedIn (s u : State) (g : Fin 6) : List (Fin 16) := (u.arb.preemptedNow.map (·.1)).filter fun j => groupOf s j == g

/-- From the state before an event: the lines preempted so far are remembered in the order of their grants, the lines of each group stand at
its top in that order, and those in service are the ones that are not pending. -/
structure Raised (s u : State) : Prop where
  frame : SameBesideDraws s u
  arb : u.arb = { s.arb with
    inService := u.arb.inService, pendingList := u.arb.pendingList, preemptedNow := u.arb.preemptedNow }
  grants : ∀ e ∈ u.arb.preemptedNow, e.2 = grantOf s e.1
  members : ∀ k : Fin 16, k ∈ u.arb.preemptedNow.map (·.1) ↔ s.lines[k].state ≠ .pending ∧ u.lines[k].state = .pending
  once : (u.arb.preemptedNow.map (·.1)).Nodup
  sorted : u.arb.preemptedNow.Pairwise (GrantedBefore s.arb.grantCounter)
  rotations : ∀ g : Fin 6, u.groups[g] = { s.groups[g] with rotation := toTop (raisedIn s u g) s.groups[g].rotation }
  waiting : ∀ k : Fin 16, s.lines[k].state = .pending → u.lines[k].state = .pending
  serving : u.arb.inService = s.arb.inService.filter fun k => u.lines[k].state != .pending
  refreshed : s.arb.pendingList = priorityOrder s → u.arb.pendingList = priorityOrder u

theorem toTop_nil (order : List (Fin 16)) : toTop [] order = order := by simp [toTop]

theorem Raised.start {s : State} (lists : ListsAgree s) (clear : s.arb.preemptedNow = []) : Raised s s where
  frame := .refl s
  arb := rfl
  grants e he := by rw [clear] at he; exact absurd he List.not_mem_nil
  members k := by rw [clear]; exact iff_of_false List.not_mem_nil fun ⟨still, waits⟩ => still waits
  once := by rw [clear]; exact List.nodup_nil
  sorted := by rw [clear]; exact .nil
  rotations g := by rw [raisedIn, clear, List.map_nil, List.filter_nil, toTop_nil]
  waiting _ h := h
  serving := by
    refine (List.filter_eq_self.mpr fun k hk => ?_).symm
    obtain e | e := (lists.serving k).mp hk <;> rw [e] <;> rfl
  refreshed h := h

theorem Raised.counter {s u : State} (h : Raised s u) : u.arb.grantCounter = s.arb.grantCounter := by rw [h.arb]

theorem Raised.preempt {s u : State} (h : Raised s u) {k : Fin 16} (untouched : u.lines[k] = s.lines[k])
    (serves : s.lines[k].state ≠ .pending) : Raised s (preempt k u) := by
  have absent : k ∉ u.arb.preemptedNow.map (·.1) := fun mem => serves (untouched ▸ ((h.members k).mp mem).2)
  have others : u.arb.preemptedNow.filter (·.1 != k) = u.arb.preemptedNow :=
    List.filter_eq_self.mpr fun e he => bne_iff_ne.mpr fun same => absent (List.mem_map.mpr ⟨e, he, same⟩)
  have now : (Machine.preempt k u).arb.preemptedNow = insertByGrant s.arb.grantCounter (k, grantOf s k) u.arb.preemptedNow := by
    rw [preempt_preemptedNow, preemptedWith, others, h.counter, untouched]; rfl
  have perm := insertByGrant_perm s.arb.grantCounter (k, grantOf s k) u.arb.preemptedNow
  have keys : ((insertByGrant s.arb.grantCounter (k, grantOf s k) u.arb.preemptedNow).map (·.1)).Perm
      (k :: u.arb.preemptedNow.map (·.1)) := perm.map _
  have group (j : Fin 16) : groupOf u j = groupOf s j := h.frame.groupOf j
  refine ⟨h.frame.trans (preempt_besideDraws k u), by rw [preempt_arb, h.arb], fun e he => ?_, fun j => ?_, ?_, ?_, fun g => ?_,
    fun j waits => ?_, ?_, fun _ => preempt_pendingList k u⟩
  · rw [now] at he
    obtain rfl | he := List.mem_cons.mp (perm.mem_iff.mp he)
    · rfl
    · exact h.grants e he
  · rw [now, keys.mem_iff, List.mem_cons, h.members, preempt_state]
    by_cases same : j = k
    · subst same; rw [if_pos rfl]; exact iff_of_true (.inl rfl) ⟨serves, rfl⟩
    · rw [if_neg same]; exact or_iff_right same
  · rw [now]; exact keys.nodup_iff.mpr (List.nodup_cons.mpr ⟨absent, h.once⟩)
  · rw [now]; exact insertByGrant_pairwise _ _ _ h.sorted
  · rw [preempt_groups, group k]
    split
    · rename_i same
      have beside : preemptedBeside k u = raisedIn s (Machine.preempt k u) g := by
        rw [preemptedBeside, raisedIn, preempt_preemptedNow]
        simp only [group, same]
      have sub : ∀ j ∈ raisedIn s u g, j ∈ raisedIn s (Machine.preempt k u) g := fun j hj => by
        obtain ⟨listed, of⟩ := List.mem_filter.mp hj
        exact List.mem_filter.mpr ⟨by rw [now, keys.mem_iff]; exact List.mem_cons_of_mem _ listed, of⟩
      rw [beside, h.rotations g]
      dsimp only
      rw [toTop_toTop sub]
    · rename_i other
      have kept : raisedIn s (Machine.preempt k u) g = raisedIn s u g := by
        have out : ((fun j => groupOf s j == g) ∘ fun e : Fin 16 × Word32 => e.1) (k, grantOf s k) = false :=
          beq_eq_false_iff_ne.mpr fun same => other same.symm
        rw [raisedIn, raisedIn, now, List.filter_map, List.filter_map, insertByGrant_filter _ out]
      rw [kept]; exact h.rotations g
  · rw [preempt_state]; split
    · rfl
    · exact h.waiting j waits
  · rw [preempt_inService, h.serving, List.filter_filter]
    refine List.filter_congr fun j _ => ?_
    rw [preempt_state]
    by_cases same : j = k <;> simp [same]

theorem priorityOrder_resume {s : State} {k : Fin 16} (waits : s.lines[k].state = .suspended) :
    priorityOrder (resume k s) = priorityOrder s := by
  have state (j : Fin 16) : ((resume k s).lines[j].state == .pending) = (s.lines[j].state == .pending) := by
    rw [resume_lines]; split
    · rename_i same; subst same; rw [waits]; rfl
    · rfl
  rw [priorityOrder, priorityOrder, (resume_frame k s).2.1]
  simp only [state]

theorem Raised.resume {s u : State} (h : Raised s u) {k : Fin 16} (suspended : u.lines[k].state = .suspended) : Raised s (resume k u) := by
  obtain ⟨arb, groups, _⟩ := resume_frame k u
  have state (j : Fin 16) : (Machine.resume k u).lines[j].state = .pending ↔ u.lines[j].state = .pending := by
    rw [resume_lines]; split
    · rename_i same; subst same; rw [suspended]; exact iff_of_false nofun nofun
    · rfl
  have raised (g : Fin 6) : raisedIn s (Machine.resume k u) g = raisedIn s u g := by rw [raisedIn, raisedIn, arb]
  refine ⟨h.frame.trans (resume_besideDraws k u), by rw [arb, h.arb], by rw [arb]; exact h.grants,
    fun j => by rw [arb, state]; exact h.members j, by rw [arb]; exact h.once, by rw [arb]; exact h.sorted,
    fun g => by rw [groups, raised]; exact h.rotations g, fun j waits => (state j).mpr (h.waiting j waits), ?_, fun listed => ?_⟩
  · rw [arb, h.serving]
    refine List.filter_congr fun j _ => ?_
    rw [Bool.eq_iff_iff, bne_iff_ne, bne_iff_ne, ne_eq, ne_eq, state]
  · rw [arb, priorityOrder_resume suspended]; exact h.refreshed listed

/-- The lines of a group that were preempted stand together at its top, the earliest granted at the top, by the grants since theirs. -/
theorem Raised.tops {s u : State} (h : Raised s u) (g : Fin 6) : ∃ top : List (Fin 16), top.Nodup ∧
    (∀ k : Fin 16, k ∈ top ↔ s.lines[k].defn.group = g ∧ s.lines[k].state ≠ .pending ∧ u.lines[k].state = .pending) ∧
    top.Pairwise (fun j k => (s.arb.grantCounter - grantOf s k).toNat ≤ (s.arb.grantCounter - grantOf s j).toNat) ∧
    u.groups[g] = { s.groups[g] with rotation := top ++ s.groups[g].rotation.filter fun k => !top.contains k } := by
  refine ⟨raisedIn s u g, h.once.filter _, fun k => ?_, List.Pairwise.filter _ ?_, h.rotations g⟩
  · rw [raisedIn, List.mem_filter, h.members, beq_iff_eq]
    exact and_comm
  · refine List.pairwise_map.mpr (h.sorted.imp_of_mem fun {x y} hx hy before => ?_)
    rw [← h.grants x hx, ← h.grants y hy]
    exact before

end Sys2Proof.Machine
end


section
/-!
What the Arbiter does with a supply state and a grant capacity handed over, and the room it makes for a G0 line (R115 to R120): the
suspension at a loss, the restore in rank order, and the preemption of the lowest-ranked until the rest fit.
-/

namespace Sys2Proof.Machine

/-! ### Preempting the lines of a list -/

/-- The lines of a list are preempted one after the other. -/
def preemptAll (ks : List (Fin 16)) (s : State) : State := ks.foldl (fun u k => preempt k u) s

theorem preemptAll_lines : ∀ {ks : List (Fin 16)} (s : State), ks.Nodup → ∀ j : Fin 16,
    (preemptAll ks s).lines[j] = if j ∈ ks then s.lines[j].preempted else s.lines[j]
  | [], _, _, _ => by rw [if_neg List.not_mem_nil]; rfl
  | k :: ks, s, once, j => by
    obtain ⟨fresh, once⟩ := List.nodup_cons.mp once
    rw [show preemptAll (k :: ks) s = preemptAll ks (preempt k s) from rfl, preemptAll_lines _ once, preempt_lines]
    by_cases same : j = k
    · subst same; rw [if_neg fresh, if_pos rfl, if_pos List.mem_cons_self]
    · rw [if_neg same]
      exact if_congr (by rw [List.mem_cons, or_iff_right same]) rfl rfl

theorem Raised.preemptAll {s : State} : ∀ {ks : List (Fin 16)} {u : State}, Raised s u → ks.Nodup →
    (∀ k ∈ ks, u.lines[k] = s.lines[k] ∧ s.lines[k].state ≠ .pending) → Raised s (preemptAll ks u)
  | [], _, h, _, _ => h
  | k :: ks, u, h, once, untouched => by
    obtain ⟨fresh, once⟩ := List.nodup_cons.mp once
    obtain ⟨same, serves⟩ := untouched k List.mem_cons_self
    show Raised s (Machine.preemptAll ks (Machine.preempt k u))
    refine (h.preempt same serves).preemptAll once fun j hj => ?_
    rw [preempt_lines, if_neg (show j ≠ k from fun e => fresh (e ▸ hj))]
    exact untouched j (List.mem_cons_of_mem _ hj)

/-- Preempting until a state is as wanted preempts a first part of the list, and no more than is needed. -/
theorem preemptUntil_split (enough : State → Bool) : ∀ (ks : List (Fin 16)) (s : State), ∃ pre rest, ks = pre ++ rest ∧
    preemptUntil enough ks s = preemptAll pre s ∧ (rest = [] ∨ enough (preemptAll pre s) = true) ∧
    ∀ p k q, pre = p ++ k :: q → enough (preemptAll p s) = false
  | [], s => ⟨[], [], rfl, rfl, .inl rfl, fun p k q e => by simp at e⟩
  | k :: ks, s => by
    cases wanted : enough s with
    | true => exact ⟨[], k :: ks, rfl, by rw [preemptUntil, wanted]; rfl, .inr wanted, fun p k q e => by simp at e⟩
    | false =>
      obtain ⟨pre, rest, split, result, stops, needed⟩ := preemptUntil_split enough ks (preempt k s)
      refine ⟨k :: pre, rest, by rw [split]; rfl, by rw [preemptUntil, wanted]; exact result, stops, fun p j q e => ?_⟩
      obtain ⟨rfl, _⟩ | ⟨p', rfl, tail⟩ := List.cons_eq_append_iff.mp e
      · exact wanted
      · exact needed p' j q tail

/-- The lines of a list after the preemption until a state is as wanted, when a state as wanted stays so under further preemptions: a line
is preempted when the preemption of those before it was not enough. -/
theorem preemptUntil_line {enough : State → Bool} {s : State} {p q : List (Fin 16)} {k : Fin 16} (once : (p ++ k :: q).Nodup)
    (stays : ∀ a b c, p ++ k :: q = a ++ b ++ c → enough (preemptAll a s) = true → enough (preemptAll (a ++ b) s) = true) :
    (preemptUntil enough (p ++ k :: q) s).lines[k] =
      if enough (preemptAll p s) = true then s.lines[k] else s.lines[k].preempted := by
  obtain ⟨pre, rest, split, result, stops, needed⟩ := preemptUntil_split enough (p ++ k :: q) s
  have nodup : pre.Nodup := (List.nodup_append.mp (split ▸ once)).1
  have fresh : k ∉ p := fun mem => (List.nodup_append.mp once).2.2 k mem k List.mem_cons_self rfl
  rw [result, preemptAll_lines s nodup]
  obtain ⟨a, rfl, tail⟩ | ⟨c, rfl, tail⟩ := List.append_eq_append_iff.mp split
  · obtain ⟨rfl, restEq⟩ | ⟨a', rfl, _⟩ := List.cons_eq_append_iff.mp tail
    · have wanted := stops.resolve_left (by rw [restEq]; exact List.cons_ne_nil _ _)
      rw [List.append_nil] at wanted ⊢
      rw [if_neg fresh, if_pos wanted]
    · rw [if_pos (by simp), if_neg (by rw [needed p k a' rfl]; nofun)]
  · have wanted := stops.resolve_left (by rw [tail]; simp)
    have kept := stays pre c (k :: q) (by rw [List.append_assoc]) wanted
    rw [if_neg fun mem => fresh (List.mem_append_left _ mem), if_pos kept]

theorem preemptUntil_other {enough : State → Bool} {s : State} {ks : List (Fin 16)} {j : Fin 16} (once : ks.Nodup) (out : j ∉ ks) :
    (preemptUntil enough ks s).lines[j] = s.lines[j] := by
  obtain ⟨pre, rest, rfl, result, _⟩ := preemptUntil_split enough ks s
  rw [result, preemptAll_lines s (List.nodup_append.mp once).1, if_neg fun mem => out (List.mem_append_left _ mem)]

theorem Raised.preemptUntil {s : State} (lists : ListsAgree s) (clear : s.arb.preemptedNow = []) {enough : State → Bool}
    {ks : List (Fin 16)} (once : ks.Nodup) (flowing : ∀ k ∈ ks, s.lines[k].state = .flowing) : Raised s (preemptUntil enough ks s) := by
  obtain ⟨pre, rest, rfl, result, _⟩ := preemptUntil_split enough ks s
  rw [result]
  exact (Raised.start lists clear).preemptAll (List.nodup_append.mp once).1 fun k hk =>
    ⟨rfl, by rw [flowing k (List.mem_append_left _ hk)]; nofun⟩

theorem preemptAll_meters : ∀ (ks : List (Fin 16)) (s : State), (preemptAll ks s).meters = s.meters
  | [], _ => rfl
  | k :: ks, s => (preemptAll_meters ks (preempt k s)).trans (preempt_meters k s)

theorem preemptUntil_meters (enough : State → Bool) (ks : List (Fin 16)) (s : State) : (preemptUntil enough ks s).meters = s.meters := by
  obtain ⟨pre, rest, _, result, _⟩ := preemptUntil_split enough ks s
  rw [result, preemptAll_meters]

theorem flowingFlow_as {s u : State} (frame : SameBesideDraws s u) {flows : Fin 16 → Bool}
    (as : ∀ k : Fin 16, u.lines[k].state = .flowing ↔ flows k = true) : flowingFlow u = flowSum s (allLines.filter flows) := by
  rw [flowSum_filter, flowingFlow_eq]
  refine Finset.sum_congr rfl fun k _ => ?_
  by_cases on : u.lines[k].state = .flowing
  · rw [flowShare_flowing on, if_pos ((as k).mp on)]; exact frame.flowOf k
  · rw [flowShare_still on, if_neg fun h => on ((as k).mpr h)]

theorem flowSum_mono (s : State) {p q : Fin 16 → Bool} (sub : ∀ k, p k = true → q k = true) :
    flowSum s (allLines.filter p) ≤ flowSum s (allLines.filter q) := by
  rw [flowSum_filter, flowSum_filter]
  refine Finset.sum_le_sum fun k _ => ?_
  by_cases on : p k = true
  · rw [if_pos on, if_pos (sub k on)]
  · rw [if_neg on]; exact Nat.zero_le _

theorem preemptAll_state {s : State} {ks : List (Fin 16)} (once : ks.Nodup) (k : Fin 16) :
    (preemptAll ks s).lines[k].state = if k ∈ ks then .pending else s.lines[k].state := by
  rw [preemptAll_lines s once]; split <;> rfl

/-- The flow left when some draws in service have been preempted. -/
theorem preemptAll_flow {s : State} (lists : ListsAgree s) (clear : s.arb.preemptedNow = []) {ks : List (Fin 16)} (once : ks.Nodup)
    (flowing : ∀ k ∈ ks, s.lines[k].state = .flowing) : flowingFlow (preemptAll ks s) =
      flowSum s (allLines.filter fun j => s.lines[j].state == .flowing && !ks.contains j) := by
  have raised := (Raised.start lists clear).preemptAll once fun k hk => ⟨rfl, by rw [flowing k hk]; nofun⟩
  refine flowingFlow_as raised.frame fun k => ?_
  rw [preemptAll_state once]
  by_cases mem : k ∈ ks <;> simp [-Fin.getElem_fin, mem]

/-! ### The loss of supply (R117) -/

/-- A pass in which no line fits, and for none of which room can be made, only writes its stopped-at line (R98). -/
theorem passWalk_still {s : State} (full : ∀ k ∈ s.arb.pendingList, ¬ fits s k = true ∧ ¬ roomCanBeMade s k = true) :
    ∀ (fuel : Nat) (visited : List (Fin 16)), ∃ at?, passWalk fuel visited s = passEnds at? s
  | 0, _ => ⟨none, rfl⟩
  | fuel + 1, visited => by
    unfold passWalk; split
    · exact ⟨none, rfl⟩
    · rename_i k found
      obtain ⟨noFit, noRoom⟩ := full k (List.mem_of_find?_eq_some found)
      split
      · exact passWalk_still full fuel _
      · rw [ite_self]
        exact ⟨some k, rfl⟩

theorem grantPass_withoutSupply {s : State} (none : s.arb.capacityHeld = 0) (positive : ∀ k : Fin 16, 0 < s.lines[k].defn.flow)
    (still : ∀ k : Fin 16, s.lines[k].state ≠ .flowing) : ∃ at?, grantPass s = passEnds at? s := by
  refine passWalk_still (fun k _ => ?_) 17 []
  have flow : 0 < flowOf s k := positive k
  have nothing : preemptible s = [] :=
    List.eq_nil_iff_forall_not_mem.mpr fun j hj => still j (mem_preemptible.mp hj).1.2
  constructor
  · rw [fits_iff, freeCapacity, none]; omega
  · rw [roomCanBeMade_iff, freeCapacity, none, nothing]
    simp only [flowSum, List.map_nil, List.sum_nil]
    omega

theorem supplyLost_ends {s : State} (h : DrawsLaw s) : ∃ at?, supplyLost s = passEnds at? (supplyGone s) := by
  rw [supplyLost_eq h.lists.servingOnce]
  exact grantPass_withoutSupply rfl (h.supplyGone).flows.positive (supplyGone_still h.lists)

/-! ### The restore (R119) -/

/-- One suspended draw has been taken at a restore. -/
theorem Raised.restoreOne {s u : State} (h : Raised s u) {k : Fin 16} (untouched : u.lines[k] = s.lines[k])
    (suspended : s.lines[k].state = .suspended) : Raised s (restoreOne u k) := by
  unfold Machine.restoreOne; split
  · exact h.resume (by rw [untouched]; exact suspended)
  · exact h.preempt untouched (by rw [suspended]; nofun)

theorem Raised.restoreAll {s : State} : ∀ {ks : List (Fin 16)} {u : State}, Raised s u → ks.Nodup →
    (∀ k ∈ ks, u.lines[k] = s.lines[k] ∧ s.lines[k].state = .suspended) → Raised s (ks.foldl Machine.restoreOne u)
  | [], _, h, _, _ => h
  | k :: ks, u, h, once, untouched => by
    obtain ⟨fresh, once⟩ := List.nodup_cons.mp once
    obtain ⟨same, suspended⟩ := untouched k List.mem_cons_self
    rw [List.foldl_cons]
    refine (h.restoreOne same suspended).restoreAll once fun j hj => ?_
    rw [restoreOne_state (show j ≠ k from fun e => fresh (e ▸ hj))]
    exact untouched j (List.mem_cons_of_mem _ hj)

theorem restoreAll_other {j : Fin 16} : ∀ {ks : List (Fin 16)} (s : State), j ∉ ks → (ks.foldl restoreOne s).lines[j] = s.lines[j]
  | [], _, _ => rfl
  | k :: ks, s, out => by
    obtain ⟨other, out⟩ := not_or.mp fun h => out (List.mem_cons.mpr h)
    rw [List.foldl_cons, restoreAll_other _ out, restoreOne_state other]

/-- A line that resumes at a restore (R119). -/
def DrawLine.resumed (l : DrawLine) : DrawLine :=
  { l with state := .flowing, draw := l.draw.map fun d => { d with suspendedSince := none } }

theorem restoreOne_line (s : State) (k : Fin 16) : (restoreOne s k).lines[k] =
    if flowOf s k ≤ freeCapacity s then s.lines[k].resumed else s.lines[k].preempted := by
  unfold restoreOne; split
  · rw [resume_lines, if_pos rfl]; rfl
  · rw [preempt_lines, if_pos rfl]

/-- The restored draws are judged in rank order, each on its flow and on the flow of those resumed ahead of it (R92, R119). -/
theorem restoreAll_line {s : State} (h : DrawsLaw s) (clear : s.arb.preemptedNow = []) (still : ∀ k : Fin 16, s.lines[k].state ≠ .flowing)
    {k : Fin 16} (suspended : s.lines[k].state = .suspended) {ahead : Fin 16 → Bool} (hahead : ∀ j, ahead j = true ↔ Ahead s j k) :
    ((suspendedLines s).foldl restoreOne s).lines[k] =
      if s.lines[k].defn.flow + flowSum s (allLines.filter fun j =>
        ahead j && ((suspendedLines s).foldl restoreOne s).lines[j].state == .flowing) ≤ s.arb.capacityHeld
      then s.lines[k].resumed else s.lines[k].preempted := by
  have once := suspendedLines_nodup h.lists
  have ordered : (suspendedLines s).Pairwise (Ahead s) := (rankOrder_ahead h.lists.servingOnce).filter _
  have members := mem_suspendedLines h.lists
  obtain ⟨p, q, split⟩ := List.append_of_mem ((members k).mpr suspended)
  generalize suspendedLines s = ks at *
  subst split
  obtain ⟨pOnce, kqOnce, apart⟩ := List.nodup_append.mp once
  obtain ⟨freshQ, qOnce⟩ := List.nodup_cons.mp kqOnce
  have freshP : k ∉ p := fun mem => apart k mem k List.mem_cons_self rfl
  rw [List.foldl_append, List.foldl_cons]
  obtain ⟨w, hw⟩ : ∃ w, w = p.foldl restoreOne s := ⟨_, rfl⟩
  have raised : Raised s w := hw ▸ (Raised.start h.lists clear).restoreAll pOnce fun j hj =>
    ⟨rfl, (members j).mp (List.mem_append_left _ hj)⟩
  have line : w.lines[k] = s.lines[k] := by rw [hw, restoreAll_other s freshP]
  rw [← hw, restoreAll_other (restoreOne w k) freshQ, restoreOne_line, line]
  have flow : flowingFlow w = flowSum s (allLines.filter fun j =>
      ahead j && (q.foldl restoreOne (restoreOne w k)).lines[j].state == .flowing) := by
    refine flowingFlow_as raised.frame fun j => ?_
    rw [Bool.and_eq_true, hahead, beq_iff_eq]
    have before := (mem_before_iff Ahead.asymm ordered j).1
    by_cases mem : j ∈ p
    · have notK : j ≠ k := fun e => freshP (e ▸ mem)
      have notQ : j ∉ q := fun h => apart j mem j (List.mem_cons_of_mem _ h) rfl
      rw [restoreAll_other (restoreOne w k) notQ, restoreOne_state notK]
      exact (and_iff_right (before.mp mem).2).symm
    · refine iff_of_false ?_ fun ⟨first, flows⟩ => ?_
      · rw [hw, restoreAll_other s mem]; exact still j
      · have unlisted : j ∉ p ++ k :: q := fun listed => mem (before.mpr ⟨listed, first⟩)
        obtain ⟨notK, notQ⟩ := not_or.mp fun later => unlisted (List.mem_append_right p (List.mem_cons.mpr later))
        rw [restoreAll_other (restoreOne w k) notQ, restoreOne_state notK, hw, restoreAll_other s mem] at flows
        exact still j flows
  have positive : 0 < s.lines[k].defn.flow := h.flows.positive k
  have capacity : w.arb.capacityHeld = s.arb.capacityHeld := by rw [raised.arb]
  have own : flowOf w k = s.lines[k].defn.flow := raised.frame.flowOf k
  refine if_congr ?_ rfl rfl
  rw [freeCapacity, capacity, own, flow]
  omega

end Sys2Proof.Machine
end


section
/-!
The preemptions that a fall of the grant capacity and a pending G0 line ask for (R115, R120), and what a supply state handed over leaves
(R117, R119, R120).
-/

namespace Sys2Proof.Machine

/-! ### A fall of the grant capacity (R120) -/

theorem not_contains_iff {ks : List (Fin 16)} {j : Fin 16} : (!ks.contains j) = true ↔ j ∉ ks := by simp

theorem flowSum_cons (s : State) {p q : Fin 16 → Bool} {k : Fin 16} (out : q k = false) (split : ∀ j, p j = true ↔ j = k ∨ q j = true) :
    flowSum s (allLines.filter p) = flowOf s k + flowSum s (allLines.filter q) := by
  have each (j : Fin 16) : (if p j = true then flowOf s j else 0) = (if j = k then flowOf s j else 0) + if q j = true then flowOf s j else 0 := by
    by_cases same : j = k
    · subst same; rw [if_pos ((split j).mpr (.inl rfl)), if_pos rfl, if_neg (by rw [out]; nofun), Nat.add_zero]
    · rw [if_neg same, Nat.zero_add]
      exact if_congr ((split j).trans (or_iff_right same)) rfl rfl
  rw [flowSum_filter, flowSum_filter]
  simp only [each, Finset.sum_add_distrib, Finset.sum_ite_eq', Finset.mem_univ, if_true]

section
variable {s : State} (lists : ListsAgree s) (clear : s.arb.preemptedNow = [])
include lists clear

theorem flowFits_preemptAll {ks : List (Fin 16)} (once : ks.Nodup) (flowing : ∀ k ∈ ks, s.lines[k].state = .flowing) :
    flowFits (preemptAll ks s) = true ↔
      flowSum s (allLines.filter fun j => s.lines[j].state == .flowing && !ks.contains j) ≤ s.arb.capacityHeld := by
  have raised := (Raised.start lists clear).preemptAll once fun k hk => ⟨rfl, by rw [flowing k hk]; nofun⟩
  rw [flowFits, decide_eq_true_eq, preemptAll_flow lists clear once flowing, raised.arb]

/-- A flowing draw is kept when its flow and that of the flowing draws ahead of it fit, and preempted otherwise (R92, R120). -/
theorem preemptUntilFits_line {k : Fin 16} (flows : s.lines[k].state = .flowing) {ahead : Fin 16 → Bool}
    (hahead : ∀ j, ahead j = true ↔ Ahead s j k) : (preemptUntil flowFits (flowingLowestFirst s) s).lines[k] =
      if s.lines[k].defn.flow + flowSum s (allLines.filter fun j => ahead j && s.lines[j].state == .flowing) ≤ s.arb.capacityHeld
      then s.lines[k] else s.lines[k].preempted := by
  have once := flowingLowestFirst_nodup lists.servingOnce
  have behind := flowingLowestFirst_behind lists.servingOnce
  have members (j : Fin 16) : j ∈ flowingLowestFirst s ↔ s.lines[j].state = .flowing :=
    mem_flowingLowestFirst.trans ⟨And.right, fun on => ⟨(lists.serving j).mpr (.inl on), on⟩⟩
  obtain ⟨p, q, split⟩ := List.append_of_mem ((members k).mpr flows)
  rw [split] at once behind members ⊢
  have part {a b : List (Fin 16)} (e : p ++ k :: q = a ++ b) : a.Nodup ∧ ∀ j ∈ a, s.lines[j].state = .flowing :=
    ⟨(List.nodup_append.mp (e ▸ once)).1, fun j hj => (members j).mp (e ▸ List.mem_append_left _ hj)⟩
  rw [preemptUntil_line once fun a b c e wanted => ?_]
  · obtain ⟨pOnce, pFlowing⟩ := part rfl
    have fresh : k ∉ p := fun mem => (List.nodup_append.mp once).2.2 k mem k List.mem_cons_self rfl
    have sum : flowSum s (allLines.filter fun j => s.lines[j].state == .flowing && !p.contains j) =
        flowOf s k + flowSum s (allLines.filter fun j => ahead j && s.lines[j].state == .flowing) := by
      refine flowSum_cons s ?_ fun j => ?_
      · exact Bool.eq_false_iff.mpr fun on => ((hahead k).mp (Bool.and_eq_true_iff.mp on).1).asymm ((hahead k).mp (Bool.and_eq_true_iff.mp on).1)
      · obtain ⟨before, after⟩ := mem_before_iff (R := fun j k => Ahead s k j) (fun h => h.asymm) behind j
        rw [Bool.and_eq_true, Bool.and_eq_true, hahead, beq_iff_eq, ← members, not_contains_iff]
        rw [and_comm (a := Ahead s j k), ← after]
        refine ⟨fun ⟨listed, out⟩ => ?_, ?_⟩
        · exact List.mem_cons.mp ((List.mem_append.mp listed).resolve_left out)
        · rintro (rfl | hq)
          · exact ⟨List.mem_append_right _ List.mem_cons_self, fresh⟩
          · exact ⟨List.mem_append_right _ (List.mem_cons_of_mem _ hq),
              fun hp => (List.nodup_append.mp once).2.2 j hp j (List.mem_cons_of_mem _ hq) rfl⟩
    exact if_congr (by rw [flowFits_preemptAll lists clear pOnce pFlowing, sum]; rfl) rfl rfl
  · obtain ⟨abOnce, abFlowing⟩ := part e
    obtain ⟨aOnce, aFlowing⟩ := part (e.trans (List.append_assoc a b c))
    rw [flowFits_preemptAll lists clear aOnce aFlowing] at wanted
    rw [flowFits_preemptAll lists clear abOnce abFlowing]
    refine (flowSum_mono s fun j => ?_).trans wanted
    rw [Bool.and_eq_true, Bool.and_eq_true, not_contains_iff, not_contains_iff]
    exact fun ⟨on, out⟩ => ⟨on, fun mem => out (List.mem_append_left b mem)⟩

/-! ### Room for a G0 line (R115) -/

omit lists clear in
/-- With some draws gone there is room for a line: its flow fits beside those left, and there is a place in service (R96). -/
def Room (s : State) (k : Fin 16) (gone : Fin 16 → Bool) : Prop :=
  s.lines[k].defn.flow + flowSum s (allLines.filter fun i => s.lines[i].state == .flowing && !gone i) ≤ s.arb.capacityHeld ∧
    (s.arb.inService.filter fun i => !gone i).length < 8

omit lists clear in
theorem Room.mono {k : Fin 16} {gone gone' : Fin 16 → Bool} (sub : ∀ i, gone i = true → gone' i = true) (h : Room s k gone) :
    Room s k gone' := by
  have left (i : Fin 16) (stays : (!gone' i) = true) : (!gone i) = true := by
    cases was : gone i with
    | false => rfl
    | true => rw [sub i was] at stays; exact stays
  obtain ⟨flow, place⟩ := h
  refine ⟨le_trans (Nat.add_le_add_left (flowSum_mono s fun i => ?_) _) flow, lt_of_le_of_lt ?_ place⟩
  · simp only [Bool.and_eq_true]; exact fun ⟨on, stays⟩ => ⟨on, left i stays⟩
  · exact (List.monotone_filter_right _ left).length_le

theorem fits_preemptAll (positive : ∀ j : Fin 16, 0 < s.lines[j].defn.flow) (k : Fin 16) {ks : List (Fin 16)} (once : ks.Nodup)
    (flowing : ∀ j ∈ ks, s.lines[j].state = .flowing) : fits (preemptAll ks s) k = true ↔ Room s k fun i => ks.contains i := by
  have raised := (Raised.start lists clear).preemptAll once fun k hk => ⟨rfl, by rw [flowing k hk]; nofun⟩
  have serving : (preemptAll ks s).arb.inService = s.arb.inService.filter fun i => !ks.contains i := by
    rw [raised.serving]
    refine List.filter_congr fun i hi => ?_
    rw [preemptAll_state once]
    by_cases mem : i ∈ ks
    · simp [mem]
    · obtain e | e := (lists.serving i).mp hi <;> simp [-Fin.getElem_fin, mem, e]
  have own : flowOf (preemptAll ks s) k = s.lines[k].defn.flow := raised.frame.flowOf k
  have capacity : (preemptAll ks s).arb.capacityHeld = s.arb.capacityHeld := by rw [raised.arb]
  have flow := positive k
  rw [fits_iff, freeCapacity, own, capacity, preemptAll_flow lists clear once flowing, serving, Room]
  omega

end

/-- Whether room can be made is whether there would be room with every preemptible draw gone (R115). -/
theorem roomCanBeMade_iff_room {s : State} (h : DrawsLaw s) (k : Fin 16) {giving : Fin 16 → Bool}
    (hgiving : ∀ i, giving i = true ↔ s.lines[i].state = .flowing ∧ s.lines[i].defn.group ≠ 0) :
    roomCanBeMade s k = true ↔ Room s k giving := by
  have members (i : Fin 16) : i ∈ preemptible s ↔ giving i = true := by
    rw [mem_preemptible, hgiving]
    exact ⟨fun ⟨⟨_, on⟩, other⟩ => ⟨on, other⟩, fun ⟨on, other⟩ => ⟨⟨(h.lists.serving i).mpr (.inl on), on⟩, other⟩⟩
  have perm : (preemptible s).Perm (s.arb.inService.filter giving) :=
    (List.perm_ext_iff_of_nodup (preemptible_nodup h.lists.servingOnce) (h.lists.servingOnce.filter _)).mpr fun i => by
      rw [members, List.mem_filter]
      exact ⟨fun give => ⟨(h.lists.serving i).mpr (.inl ((hgiving i).mp give).1), give⟩, And.right⟩
  have all : (preemptible s).Perm (allLines.filter giving) :=
    (List.perm_ext_iff_of_nodup (preemptible_nodup h.lists.servingOnce) ((List.nodup_finRange 16).filter _)).mpr fun i => by
      rw [members, List.mem_filter, and_iff_right (List.mem_finRange i)]
  have places := List.length_eq_length_filter_add (l := s.arb.inService) giving
  have count := perm.length_eq
  have given : flowSum s (preemptible s) = flowSum s (allLines.filter giving) := (all.map (flowOf s)).sum_eq
  have sum : flowingFlow s = flowSum s (allLines.filter giving) +
      flowSum s (allLines.filter fun i => s.lines[i].state == .flowing && !giving i) := by
    rw [flowingFlow, flowSum_filter, flowSum_filter, flowSum_filter, ← Finset.sum_add_distrib]
    refine Finset.sum_congr rfl fun i _ => ?_
    have on : giving i = true → isFlowing s i = true := fun give => beq_iff_eq.mpr ((hgiving i).mp give).1
    cases give : giving i with
    | true => rw [if_pos (on give)]; simp
    | false => simp [isFlowing]
  have fit := h.flows.fit
  have positive := h.flows.positive k
  rw [roomCanBeMade_iff, freeCapacity, given, Room]
  rw [show flowOf s k = s.lines[k].defn.flow from rfl]
  omega

/-- The draws that give way to a G0 line are preempted lowest-ranked first, until flow and place suffice (R115). -/
theorem makeRoom_line {s : State} (h : DrawsLaw s) (clear : s.arb.preemptedNow = []) (k : Fin 16) {giving : Fin 16 → Bool}
    (hgiving : ∀ i, giving i = true ↔ s.lines[i].state = .flowing ∧ s.lines[i].defn.group ≠ 0) {j : Fin 16} (gives : giving j = true)
    {behind : Fin 16 → Bool} (hbehind : ∀ i, behind i = true ↔ Ahead s j i) :
    (Room s k (fun i => giving i && behind i) → (makeRoom k s).lines[j] = s.lines[j]) ∧
    (¬ Room s k (fun i => giving i && behind i) → (makeRoom k s).lines[j] = s.lines[j].preempted) := by
  have once := preemptible_nodup h.lists.servingOnce
  have ordered : (preemptible s).Pairwise fun i j => Ahead s j i := (flowingLowestFirst_behind h.lists.servingOnce).filter _
  have members (i : Fin 16) : i ∈ preemptible s ↔ giving i = true := by
    rw [mem_preemptible, hgiving]
    exact ⟨fun ⟨⟨_, on⟩, other⟩ => ⟨on, other⟩, fun ⟨on, other⟩ => ⟨⟨(h.lists.serving i).mpr (.inl on), on⟩, other⟩⟩
  rw [makeRoom]
  obtain ⟨p, q, split⟩ := List.append_of_mem ((members j).mpr gives)
  rw [split] at once ordered members ⊢
  have part {a b : List (Fin 16)} (e : p ++ j :: q = a ++ b) : a.Nodup ∧ ∀ i ∈ a, s.lines[i].state = .flowing :=
    ⟨(List.nodup_append.mp (e ▸ once)).1, fun i hi => ((hgiving i).mp ((members i).mp (e ▸ List.mem_append_left _ hi))).1⟩
  have enough {a b : List (Fin 16)} (e : p ++ j :: q = a ++ b) : fits (preemptAll a s) k = true ↔ Room s k fun i => a.contains i :=
    fits_preemptAll h.lists clear h.flows.positive k (part e).1 (part e).2
  have gone : (fun i => p.contains i) = fun i => giving i && behind i := by
    funext i
    obtain ⟨before, _⟩ := mem_before_iff (R := fun i j => Ahead s j i) (fun h => h.asymm) ordered i
    rw [Bool.eq_iff_iff, List.contains_iff_mem, Bool.and_eq_true, hbehind, ← members]
    exact before
  have line := preemptUntil_line (enough := fun u => fits u k) (s := s) once fun a b c e wanted => by
    rw [enough (e.trans (List.append_assoc a b c))] at wanted
    rw [enough e]
    exact wanted.mono fun i mem => List.contains_iff_mem.mpr (List.mem_append_left b (List.contains_iff_mem.mp mem))
  have asRoom : fits (preemptAll p s) k = true ↔ Room s k fun i => giving i && behind i := gone ▸ enough rfl
  exact ⟨fun room => line.trans (if_pos (asRoom.mpr room)), fun short => line.trans (if_neg fun fit => short (asRoom.mp fit))⟩

theorem makeRoom_raised {s : State} (h : DrawsLaw s) (clear : s.arb.preemptedNow = []) (k : Fin 16) : Raised s (makeRoom k s) :=
  Raised.preemptUntil h.lists clear (preemptible_nodup h.lists.servingOnce) fun _ hj => (mem_preemptible.mp hj).1.2

theorem makeRoom_kept {s : State} (h : DrawsLaw s) (k : Fin 16) {j : Fin 16}
    (keeps : ¬(s.lines[j].state = .flowing ∧ s.lines[j].defn.group ≠ 0)) : (makeRoom k s).lines[j] = s.lines[j] :=
  preemptUntil_other (preemptible_nodup h.lists.servingOnce) fun listed =>
    keeps ⟨(mem_preemptible.mp listed).1.2, (mem_preemptible.mp listed).2⟩

/-! ### What a supply state handed over leaves (R117, R119, R120) -/

/-- A pass suspends no draw and resumes none (R98). -/
theorem grantPass_suspended {s : State} (h : ListsAgree s) (k : Fin 16) :
    (grantPass s).lines[k].state = .suspended ↔ s.lines[k].state = .suspended := by
  refine ⟨fun after => ?_, fun before => ?_⟩
  · refine grantPass_induct (P := fun u => u.lines[k].state = .suspended → s.lines[k].state = .suspended)
      (fun j u _ _ hu on => hu ?_) (fun j u _ _ _ hu on => hu ?_) (fun _ _ hu => hu) s id after
    · rw [grant_state] at on; split at on
      · cases on
      · exact on
    · rw [grant_state] at on; split at on
      · cases on
      · exact makeRoom_keeps (P := fun v => v.lines[k].state = .suspended → u.lines[k].state = .suspended) (fun i v hv on => hv (by
          rw [preempt_state] at on; split at on
          · cases on
          · exact on)) j u id on
  · have unlisted : k ∉ s.arb.pendingList := fun listed => by
      have waits := (h.waiting k).mp listed
      rw [before] at waits; cases waits
    rw [((grantPass_outOfPlay s).1 k (by rw [before]; nofun) (by rw [before]; nofun) unlisted).1]
    exact before

/-- What a loss of supply leaves: every flowing draw suspended, and the hold started if there was one (R117). -/
theorem supplyLost_effect {s : State} (h : DrawsLaw s) :
    (∀ k : Fin 16, (supplyLost s).lines[k] = if s.lines[k].state = .flowing then s.lines[k].suspendedAt s.now else s.lines[k]) ∧
    (supplyLost s).arb.inService = s.arb.inService ∧ (supplyLost s).arb.pendingList = s.arb.pendingList ∧
    (supplyLost s).groups = s.groups ∧ (supplyLost s).trains = s.trains ∧
    ((∀ k : Fin 16, s.lines[k].state ≠ .flowing) → (supplyLost s).arb.hold = s.arb.hold) ∧
    ((∃ k : Fin 16, s.lines[k].state = .flowing) → (supplyLost s).arb.hold = some ⟨0, s.arb.supplyLossHold⟩) := by
  obtain ⟨at?, e⟩ := supplyLost_ends h
  have flowing := h.lists.mem_flowingLines
  have hold : (passEnds at? (supplyGone s)).arb.hold =
      if (flowingLines s).isEmpty = true then s.arb.hold else some (.start s.arb.supplyLossHold) := rfl
  rw [e, hold]
  refine ⟨fun k => by rw [passEnds, modArb_lines, supplyGone_lines h.lists], rfl, rfl, by rw [passEnds, modArb_groups, supplyGone],
    by rw [passEnds, modArb_trains, supplyGone], fun still => ?_, fun ⟨k, flows⟩ => ?_⟩
  · exact if_pos (List.isEmpty_iff.mpr (List.eq_nil_iff_forall_not_mem.mpr fun k mem => still k ((flowing k).mp mem)))
  · exact if_neg fun none => List.ne_nil_of_mem ((flowing k).mpr flows) (List.isEmpty_iff.mp none)

/-- The state a restore leaves to the pass that ends it (R119). -/
def restored (capacity : Nat) (s : State) : State := (suspendedLines (supplyBack capacity s)).foldl restoreOne (supplyBack capacity s)

section
variable {s : State} (h : DrawsLaw s) (clear : s.arb.preemptedNow = []) (capacity : Nat)
include h clear

theorem restored_raised (down : s.arb.supplyHeld = .down) : Raised (supplyBack capacity s) (restored capacity s) :=
  have back := (h.supplyBack capacity down).lists
  (Raised.start back clear).restoreAll (suspendedLines_nodup back) fun k hk => ⟨rfl, (mem_suspendedLines back k).mp hk⟩

omit clear in
theorem restored_drawsLaw (down : s.arb.supplyHeld = .down) : DrawsLaw (restored capacity s) :=
  have back := h.supplyBack capacity down
  back.restoreAll _ (suspendedLines_nodup back.lists) fun k hk => (mem_suspendedLines back.lists k).mp hk

omit clear in
theorem restored_kept (down : s.arb.supplyHeld = .down) {k : Fin 16} (other : s.lines[k].state ≠ .suspended) :
    (restored capacity s).lines[k] = s.lines[k] :=
  restoreAll_other (supplyBack capacity s) fun listed => other ((mem_suspendedLines (h.supplyBack capacity down).lists k).mp listed)

theorem restored_line (down : s.arb.supplyHeld = .down) {k : Fin 16} (suspended : s.lines[k].state = .suspended) {ahead : Fin 16 → Bool}
    (hahead : ∀ j, ahead j = true ↔ Ahead s j k) : (restored capacity s).lines[k] =
      if s.lines[k].defn.flow + flowSum s (allLines.filter fun j => ahead j && (restored capacity s).lines[j].state == .flowing) ≤ capacity
      then s.lines[k].resumed else s.lines[k].preempted :=
  restoreAll_line (h.supplyBack capacity down) clear (h.flows.still down) suspended hahead

theorem restored_running (down : s.arb.supplyHeld = .down) (k : Fin 16) : (restored capacity s).lines[k].state ≠ .suspended := by
  by_cases suspended : s.lines[k].state = .suspended
  · classical
    rw [restored_line h clear capacity down suspended (ahead := fun j => decide (Ahead s j k)) fun j => decide_eq_true_iff]
    split <;> exact nofun
  · rw [restored_kept h capacity down suspended]; exact suspended

theorem capacityKept_raised : Raised (capacitySet capacity s) (capacityKept capacity s) :=
  have lists : ListsAgree (capacitySet capacity s) := h.lists.same rfl rfl rfl rfl rfl
  Raised.preemptUntil lists clear (flowingLowestFirst_nodup lists.servingOnce) fun _ hk => (mem_flowingLowestFirst.mp hk).2

omit clear in
theorem capacityKept_kept {k : Fin 16} (other : s.lines[k].state ≠ .flowing) : (capacityKept capacity s).lines[k] = s.lines[k] :=
  have lists : ListsAgree (capacitySet capacity s) := h.lists.same rfl rfl rfl rfl rfl
  preemptUntil_other (s := capacitySet capacity s) (flowingLowestFirst_nodup lists.servingOnce) fun listed =>
    other (mem_flowingLowestFirst.mp listed).2

theorem capacityKept_line {k : Fin 16} (flows : s.lines[k].state = .flowing) {ahead : Fin 16 → Bool}
    (hahead : ∀ j, ahead j = true ↔ Ahead s j k) : (capacityKept capacity s).lines[k] =
      if s.lines[k].defn.flow + flowSum s (allLines.filter fun j => ahead j && s.lines[j].state == .flowing) ≤ capacity
      then s.lines[k] else s.lines[k].preempted :=
  preemptUntilFits_line (s := capacitySet capacity s) (h.lists.same rfl rfl rfl rfl rfl) clear flows hahead

end

end Sys2Proof.Machine
end


section
/-!
The statement on a supply state handed over and on the room made for a G0 line (R115 to R120), from the effects of the loss, the restore,
the change of the capacity and the making of room.
-/

namespace Sys2Proof.Machine

theorem Raised.eq_with {s u : State} (h : Raised s u) : u = { s with
    lines := u.lines, groups := u.groups, meters := u.meters, trains := u.trains
    arb := { s.arb with
      inService := s.arb.inService.filter fun k => u.lines[k].state != .pending
      pendingList := u.arb.pendingList, preemptedNow := u.arb.preemptedNow } } := by
  have frame := h.frame.toSameBesideArbiter.eq_with
  rw [h.arb, h.serving] at frame
  exact frame

/-- The lines preempted at an event stand at the top of their groups, told from any state with the lines, the groups and the grant counter of
the state before it. -/
theorem Raised.tops_of {s b u : State} (h : Raised b u) (lines : b.lines = s.lines) (groups : b.groups = s.groups)
    (counter : b.arb.grantCounter = s.arb.grantCounter) (g : Fin 6) : ∃ top : List (Fin 16), top.Nodup ∧
    (∀ k : Fin 16, k ∈ top ↔ s.lines[k].defn.group = g ∧ s.lines[k].state ≠ .pending ∧ u.lines[k].state = .pending) ∧
    top.Pairwise (fun j k => (s.arb.grantCounter - grantOf s k).toNat ≤ (s.arb.grantCounter - grantOf s j).toNat) ∧
    u.groups[g] = { s.groups[g] with rotation := top ++ s.groups[g].rotation.filter fun k => !top.contains k } := by
  have tops := h.tops g
  have grants (k : Fin 16) : grantOf b k = grantOf s k := by rw [grantOf, grantOf, lines]
  simp only [grants] at tops
  rw [lines, groups, counter] at tops
  exact tops

/-! ### Which of the hand-overs it is -/

section
variable {s : State} {capacity : Nat}

theorem takeSupply_lost (up : s.arb.supplyHeld = .up) : takeSupply .down capacity s = supplyLost s := by
  simp only [takeSupply, up]

theorem takeSupply_restored (down : s.arb.supplyHeld = .down) : takeSupply .up capacity s = grantPass (restored capacity s) := by
  simp only [takeSupply, down, supplyRestored_eq, restored]

theorem takeSupply_moved (up : s.arb.supplyHeld = .up) (moved : s.arb.capacityHeld ≠ capacity) :
    takeSupply .up capacity s = grantPass (capacityKept capacity s) := by
  simp only [takeSupply, up, moved, if_false, capacityChanged_eq]

theorem takeSupply_kept {supply : SupplyState} (same : s.arb.supplyHeld = supply) (sameCapacity : s.arb.capacityHeld = capacity) :
    takeSupply supply capacity s = s := by
  subst same
  cases held : s.arb.supplyHeld <;> simp only [takeSupply, held, sameCapacity, if_true]

end

/-! ### The statement -/

section
variable {s : State} (h : DrawsLaw s) (clear : s.arb.preemptedNow = []) (capacity : Nat)
include h clear

/-- A restore leaves no hold and no draw suspended (R119). -/
theorem restored_effect (down : s.arb.supplyHeld = .down) : (takeSupply .up capacity s).arb.hold = none ∧
    ∀ k : Fin 16, (takeSupply .up capacity s).lines[k].state ≠ .suspended := by
  rw [takeSupply_restored down]
  refine ⟨?_, fun k suspended => ?_⟩
  · rw [(grantPass_besideDraws _).hold, (restored_raised h clear capacity down).arb]; rfl
  · exact restored_running h clear capacity down k
      ((grantPass_suspended (restored_drawsLaw h capacity down).lists k).mp suspended)

/-- A change of the capacity keeps the hold and the suspended draws (R120). -/
theorem capacityChanged_effect (up : s.arb.supplyHeld = .up) : (takeSupply .up capacity s).arb.hold = s.arb.hold ∧
    ∀ k : Fin 16, (takeSupply .up capacity s).lines[k].state = .suspended ↔ s.lines[k].state = .suspended := by
  by_cases same : s.arb.capacityHeld = capacity
  · rw [takeSupply_kept up same]; exact ⟨rfl, fun _ => Iff.rfl⟩
  rw [takeSupply_moved up same]
  refine ⟨?_, fun k => ?_⟩
  · rw [(grantPass_besideDraws _).hold, (capacityKept_raised h clear capacity).arb]; rfl
  rw [grantPass_suspended (h.capacityKept capacity up).lists]
  by_cases flows : s.lines[k].state = .flowing
  · classical
    rw [capacityKept_line h clear capacity flows (ahead := fun j => decide (Ahead s j k)) fun j => decide_eq_true_iff, flows]
    refine iff_of_false ?_ nofun
    split
    · rw [flows]; nofun
    · exact nofun
  · rw [capacityKept_kept h capacity flows]

end

/-- Settles O46. -/
theorem supplyHandOverSuspendsAndRestores : Obligations.SupplyHandOverSuspendsAndRestores := by
  intro s ahead preempted grantsSince raised law hahead hpreempted hgrants hraised
  obtain ⟨h, clear⟩ := arbiterLaw_iff.mp law
  obtain rfl : preempted = DrawLine.preempted := funext hpreempted
  obtain rfl : grantsSince = fun k => (s.arb.grantCounter - grantOf s k).toNat := funext hgrants
  have toRaised {b u : State} (r : Raised b u) (lines : b.lines = s.lines) (groups : b.groups = s.groups)
      (counter : b.arb.grantCounter = s.arb.grantCounter) : raised u :=
    (hraised u).mpr (r.tops_of lines groups counter)
  refine ⟨?_, ?_⟩
  · rintro t supply capacity none rfl
    obtain ⟨supplyHeld, capacityHeld⟩ := takeSupply_held none h.flows.down
    refine ⟨supplyHeld, capacityHeld, fun same sameCapacity => ?_, fun up down => ?_, fun down up => ?_, fun up up' => ?_,
      fun up moved => ?_⟩
    · exact takeSupply_kept same sameCapacity
    · subst down; rw [takeSupply_lost up]; exact supplyLost_effect h
    · subst up
      obtain ⟨hold, running⟩ := restored_effect h clear capacity down
      exact ⟨hold, running, (h.takeSupply .up capacity).flows.fit.trans_eq capacityHeld⟩
    · subst up'
      obtain ⟨hold, suspended⟩ := capacityChanged_effect h clear capacity up
      exact ⟨hold, suspended, (h.takeSupply .up capacity).flows.fit.trans_eq capacityHeld⟩
    · subst up
      cases held : s.arb.supplyHeld with
      | down =>
        have r := restored_raised h clear capacity held
        refine ⟨restored capacity s, takeSupply_restored held, toRaised r rfl rfl rfl, fun _ => ⟨fun k other => restored_kept h capacity held other,
          fun k suspended => restored_line h clear capacity held suspended fun j => hahead j k⟩, nofun, r.refreshed, ?_⟩
        rw [if_pos rfl]; exact r.eq_with
      | up =>
        have r := capacityKept_raised h clear capacity
        have changed := moved.resolve_left (by rw [held]; nofun)
        refine ⟨capacityKept capacity s, takeSupply_moved held changed, toRaised r rfl rfl rfl, nofun,
          fun _ => ⟨preemptUntil_meters _ _ _, fun k other => capacityKept_kept h capacity other,
            fun k flows => capacityKept_line h clear capacity flows fun j => hahead j k⟩, r.refreshed, ?_⟩
        rw [if_neg nofun, ← held]; exact r.eq_with
  · rintro k u giving room waits urgent rfl hgiving hroom
    obtain rfl : room = Room s k := funext fun gone => propext (hroom gone)
    have r := makeRoom_raised h clear k
    refine ⟨toRaised r rfl rfl rfl, roomCanBeMade_iff_room h k hgiving, fun can => ?_, fun j kept => ?_, fun j gives short => ?_, r.serving⟩
    · exact makeRoom_fits h ((roomCanBeMade_iff_room h k hgiving).mpr can)
    · by_cases gives : giving j = true
      · have can := kept.resolve_left (by rw [gives]; nofun)
        exact (makeRoom_line h clear k hgiving gives fun i => hahead j i).1 can
      · exact makeRoom_kept h k fun give => gives ((hgiving j).mpr give)
    · exact (makeRoom_line h clear k hgiving gives fun i => hahead j i).2 short

end Sys2Proof.Machine
end


section
/-!
The places of the fields of a record (R183, R185). A record is a row of pieces; `Layout` says which pieces stand where, and one lemma for each
kind of piece reads the number a piece carries off the record.
-/

namespace Sys2Proof.Machine

/-! ### The numbers that pieces carry (R183) -/

/-- The number in some bytes, least significant byte first. -/
def numberOf (bytes : List Byte) : Nat := bytes.foldr (fun b n => b.toNat + 256 * n) 0

theorem fieldAt_eq (bytes : List Byte) (place width : Nat) : fieldAt bytes place width = numberOf ((bytes.drop place).take width) := rfl

theorem numberOf_enc1 (n : Nat) : numberOf (enc1 n) = n % 256 := by simp [numberOf, enc1]

theorem numberOf_enc2 (n : Nat) : numberOf (enc2 n) = n % 65536 := by
  simp only [numberOf, enc2, List.foldr_cons, List.foldr_nil, BitVec.toNat_ofNat]; omega

theorem numberOf_enc4 (n : Nat) : numberOf (enc4 n) = n % 4294967296 := by
  simp only [numberOf, enc4, enc2, List.cons_append, List.nil_append, List.foldr_cons, List.foldr_nil, BitVec.toNat_ofNat]; omega

theorem numberOf_encWord (w : Word32) : numberOf (encWord w) = w.toNat := by
  rw [encWord, numberOf_enc4]; exact Nat.mod_eq_of_lt w.isLt

theorem numberOf_encSigned4 (i : Int) : (numberOf (encSigned4 i) : Int) = i % 4294967296 := by
  rw [encSigned4, numberOf_encWord, BitVec.toNat_ofInt]; omega

theorem numberOf_encFlag (b : Bool) : numberOf (encFlag b) = 1 ↔ b = true := by
  rw [encFlag, numberOf_enc1]; cases b <;> decide

@[simp] theorem encWord_length (w : Word32) : (encWord w).length = 4 := rfl
@[simp] theorem encSigned4_length (i : Int) : (encSigned4 i).length = 4 := rfl
@[simp] theorem encOpt1_length (o : Option Nat) : (encOpt1 o).length = 1 := by cases o <;> rfl
@[simp] theorem encOpt2_length (o : Option Nat) : (encOpt2 o).length = 2 := by cases o <;> rfl

/-- Whether an optional field with a presence byte is there, and the number sent for it (R183). -/
theorem encPresent2_eq (o : Option Nat) : encPresent2 o = encFlag o.isSome ++ enc2 (o.getD 0) := by cases o <;> rfl
theorem encPresent4_eq (o : Option Nat) : encPresent4 o = encFlag o.isSome ++ enc4 (o.getD 0) := by cases o <;> rfl

/-! ### Layouts -/

/-- A record lies in pieces of the lengths given. -/
structure Layout (record : List Byte) (pieces : List (List Byte)) (lengths : List Nat) : Prop where
  bytes : record = pieces.flatten
  lengths : pieces.map List.length = lengths

section
variable {record : List Byte} {pieces : List (List Byte)} {lengths : List Nat} (h : Layout record pieces lengths)
include h

theorem Layout.length : record.length = lengths.sum := by rw [h.bytes, List.length_flatten, h.lengths]

/-- From the place of a piece on, the record holds the piece and what follows it. -/
theorem Layout.drop (i : Nat) {piece : List Byte} (found : pieces[i]? = some piece) :
    ∃ rest, record.drop (lengths.take i).sum = piece ++ rest := by
  obtain ⟨lt, get⟩ := List.getElem?_eq_some_iff.mp found
  have before : ((pieces.take i).flatten).length = (lengths.take i).sum := by
    rw [List.length_flatten, List.map_take, h.lengths]
  refine ⟨(pieces.drop (i + 1)).flatten, ?_⟩
  conv_lhs => rw [h.bytes, ← List.take_append_drop i pieces, List.flatten_append]
  rw [← before, List.drop_left, List.drop_eq_getElem_cons lt, get, List.flatten_cons]

/-- What stands within a piece, from a place in it on, stands in the record that much behind the piece's own place. -/
theorem Layout.within (i : Nat) {piece : List Byte} {place j width : Nat} (fits : j + width ≤ piece.length)
    (found : pieces[i]? = some piece) (start : (lengths.take i).sum = place) :
    fieldAt record (place + j) width = fieldAt piece j width := by
  obtain ⟨rest, tail⟩ := h.drop i found
  rw [fieldAt_eq, fieldAt_eq, ← List.drop_drop, ← start, tail, List.drop_append_of_le_length (by omega),
    List.take_append_of_le_length (by rw [List.length_drop]; omega)]

theorem Layout.field (i : Nat) {piece : List Byte} {place : Nat} (found : pieces[i]? = some piece := by rfl)
    (start : (lengths.take i).sum = place := by rfl) : fieldAt record place piece.length = numberOf piece := by
  refine (h.within i (j := 0) (Nat.zero_add _).le found start).trans ?_
  rw [fieldAt_eq, List.drop_zero, List.take_length]

theorem Layout.one (i : Nat) {n place : Nat} (found : pieces[i]? = some (enc1 n) := by rfl)
    (start : (lengths.take i).sum = place := by rfl) : fieldAt record place 1 = n % 256 :=
  (h.field i found start).trans (numberOf_enc1 n)

theorem Layout.small (i : Nat) {n place : Nat} (small : n < 256) (found : pieces[i]? = some (enc1 n) := by rfl)
    (start : (lengths.take i).sum = place := by rfl) : fieldAt record place 1 = n :=
  (h.one i found start).trans (Nat.mod_eq_of_lt small)

theorem Layout.two (i : Nat) {n place : Nat} (found : pieces[i]? = some (enc2 n) := by rfl)
    (start : (lengths.take i).sum = place := by rfl) : fieldAt record place 2 = n % 65536 :=
  (h.field i found start).trans (numberOf_enc2 n)

theorem Layout.four (i : Nat) {n place : Nat} (found : pieces[i]? = some (enc4 n) := by rfl)
    (start : (lengths.take i).sum = place := by rfl) : fieldAt record place 4 = n % 4294967296 :=
  (h.field i found start).trans (numberOf_enc4 n)

theorem Layout.word (i : Nat) {w : Word32} {place : Nat} (found : pieces[i]? = some (encWord w) := by rfl)
    (start : (lengths.take i).sum = place := by rfl) : fieldAt record place 4 = w.toNat :=
  (h.field i found start).trans (numberOf_encWord w)

theorem Layout.signed (i : Nat) {n : Int} {place : Nat} (found : pieces[i]? = some (encSigned4 n) := by rfl)
    (start : (lengths.take i).sum = place := by rfl) : (fieldAt record place 4 : Int) = n % 4294967296 := by
  rw [← numberOf_encSigned4, ← h.field i found start]; rfl

theorem Layout.flag (i : Nat) {b : Bool} {place : Nat} (found : pieces[i]? = some (encFlag b) := by rfl)
    (start : (lengths.take i).sum = place := by rfl) : fieldAt record place 1 = 1 ↔ b = true := by
  rw [← numberOf_encFlag, ← h.field i found start]; rfl

theorem Layout.bit (i : Nat) {b : Bool} {place : Nat} (found : pieces[i]? = some (encFlag b) := by rfl)
    (start : (lengths.take i).sum = place := by rfl) : fieldAt record place 1 = if b then 1 else 0 := by
  rw [h.one i found start]; cases b <;> rfl

theorem Layout.absent1 (i : Nat) {o : Option Nat} {place : Nat} (absent : o = none)
    (found : pieces[i]? = some (encOpt1 o) := by rfl) (start : (lengths.take i).sum = place := by rfl) :
    fieldAt record place 1 = 255 := by
  subst absent; exact (h.field i found start).trans (numberOf_enc1 255)

theorem Layout.present1 (i : Nat) {o : Option Nat} {n place : Nat} (present : o = some n) (small : n < 256)
    (found : pieces[i]? = some (encOpt1 o) := by rfl) (start : (lengths.take i).sum = place := by rfl) :
    fieldAt record place 1 = n := by
  subst present; exact ((h.field i found start).trans (numberOf_enc1 n)).trans (Nat.mod_eq_of_lt small)

theorem Layout.absent2 (i : Nat) {o : Option Nat} {place : Nat} (absent : o = none)
    (found : pieces[i]? = some (encOpt2 o) := by rfl) (start : (lengths.take i).sum = place := by rfl) :
    fieldAt record place 2 = 65535 := by
  subst absent; exact (h.field i found start).trans (numberOf_enc2 65535)

theorem Layout.present2 (i : Nat) {o : Option Nat} {n place : Nat} (present : o = some n)
    (found : pieces[i]? = some (encOpt2 o) := by rfl) (start : (lengths.take i).sum = place := by rfl) :
    fieldAt record place 2 = n % 65536 := by
  subst present; exact (h.field i found start).trans (numberOf_enc2 n)

end

/-! ### Rows of entries of one width -/

/-- An entry of a row whose entries all have one width stands at its index times the width. -/
theorem fieldAt_flatMap {α : Type} {f : α → List Byte} {width : Nat} (each : ∀ a, (f a).length = width) :
    ∀ {xs : List α} {i : Nat} {x : α} (rest : List Byte), xs[i]? = some x → ∀ {j w : Nat}, j + w ≤ width →
      fieldAt (xs.flatMap f ++ rest) (width * i + j) w = fieldAt (f x) j w
  | [], i, x, _, found, _, _, _ => by simp at found
  | y :: ys, 0, x, rest, found, j, w, fits => by
    obtain rfl : y = x := by simpa using found
    rw [Nat.mul_zero, Nat.zero_add, fieldAt_eq, fieldAt_eq, List.flatMap_cons, List.append_assoc,
      List.drop_append_of_le_length (by rw [each]; omega), List.take_append_of_le_length (by rw [List.length_drop, each]; omega)]
  | y :: ys, i + 1, x, rest, found, j, w, fits => by
    rw [List.flatMap_cons, List.append_assoc, fieldAt_eq,
      show width * (i + 1) + j = (f y).length + (width * i + j) by rw [each, Nat.mul_add, Nat.mul_one]; omega, ← List.drop_drop,
      List.drop_left, ← fieldAt_eq]
    exact fieldAt_flatMap each rest (by simpa using found) fits

theorem flatMap_length_of_width {α : Type} {f : α → List Byte} {width : Nat} (each : ∀ a, (f a).length = width) (xs : List α) :
    (xs.flatMap f).length = width * xs.length := by
  induction xs with
  | nil => rfl
  | cons x xs ih => rw [List.flatMap_cons, List.length_append, ih, each, List.length_cons, Nat.mul_add, Nat.mul_one, Nat.add_comm]

end Sys2Proof.Machine
end


section
/-!
The records of the tanks, the channels, the inputs, the lines and the groups, as rows of pieces (R24, R41, R58, R102, R185).
-/

namespace Sys2Proof.Machine

/-! ### The tank record (R24) -/

theorem strappingPoint_length (p : StrapPoint) : (enc2 p.head ++ enc2 p.volume).length = 4 := rfl

theorem encPadded_length {n : Nat} {xs : List Nat} (fits : xs.length ≤ n) (pad : Byte) : (encPadded n pad xs).length = n := by
  rw [encPadded, List.length_append, flatMap_length_of_width enc1_length, List.length_replicate]; omega

/-- The twelve points of a strapping table, the unused ones 0. -/
def strappingRow (points : List StrapPoint) : List Byte :=
  (points.flatMap fun p => enc2 p.head ++ enc2 p.volume) ++ List.replicate (48 - 4 * points.length) 0

theorem strappingRow_length {points : List StrapPoint} (fits : points.length ≤ 12) : (strappingRow points).length = 48 := by
  rw [strappingRow, List.length_append, flatMap_length_of_width strappingPoint_length, List.length_replicate]
  omega

/-- The pieces of a tank record. -/
def tankPieces (t : Fin 12) (k : Tank) : List (List Byte) :=
  [enc1 t.val, k.defn.tag, enc1 k.defn.side.code, enc2 k.defn.capacity, enc2 k.defn.lowMark, enc2 k.defn.fillStop,
    enc2 k.defn.tolerance, enc2 k.defn.quietTime, enc1 k.defn.startState.toTankState.code, enc1 k.state.code, encFlag k.seeded,
    enc2 k.seedVolume, encOpt1 (k.seedOrigin.map SeedOrigin.code), enc2 k.volume, encWord k.unbooked, encWord k.credited,
    encWord k.debited, enc2 k.quietTimer, encFlag k.quiet, encOpt2 k.levelHead, encOpt2 k.levelVolume, enc1 k.agreement.code,
    enc2 k.trusted, enc2 k.fillMeasure, encFlag k.low, encFlag k.full, encFlag k.duty, enc1 k.fillTrains.length,
    encPadded 3 0xFF (k.fillTrains.map (·.val)), enc1 k.transferRole.code, encFlag k.shoreTarget, enc1 k.strapping.length,
    strappingRow k.strapping]

theorem tankRecord_layout (t : Fin 12) {k : Tank} (tag : k.defn.tag.length = 8) (fills : k.fillTrains.length ≤ 3)
    (points : k.strapping.length ≤ 12) : Layout (tankRecord t k) (tankPieces t k)
      [1, 8, 1, 2, 2, 2, 2, 2, 1, 1, 1, 2, 1, 2, 4, 4, 4, 2, 1, 2, 2, 1, 2, 2, 1, 1, 1, 1, 3, 1, 1, 1, 48] where
  bytes := by
    unfold tankRecord strappingFields tankPieces strappingRow
    simp only [List.flatten_cons, List.flatten_nil, List.append_nil, List.append_assoc]
  lengths := by
    have targets : (encPadded 3 0xFF (k.fillTrains.map (·.val))).length = 3 := encPadded_length (by rw [List.length_map]; exact fills) _
    simp only [tankPieces, List.map_cons, List.map_nil, enc1_length, enc2_length, encWord_length, encFlag_length, encOpt1_length,
      encOpt2_length, tag, targets, strappingRow_length points]

theorem TankState.code_eq_two {st : TankState} : st.code % 256 = 2 ↔ st = .inService := by cases st <;> decide
theorem Agreement.code_eq_two {a : Agreement} : a.code % 256 = 2 ↔ a = .disagree := by cases a <;> decide

section
variable {t : Fin 12} {k : Tank} (tag : k.defn.tag.length = 8) (fills : k.fillTrains.length ≤ 3) (points : k.strapping.length ≤ 12)
include tag fills points

theorem tankRecord_tag : ((tankRecord t k).drop 1).take 8 = k.defn.tag := by
  obtain ⟨rest, e⟩ := (tankRecord_layout t tag fills points).drop 1 rfl
  exact (congrArg (List.take 8) e).trans (by rw [← tag]; exact List.take_left)

theorem tankRecord_fillTrain {i : Nat} {n : Fin 3} (found : k.fillTrains[i]? = some n) :
    fieldAt (tankRecord t k) (56 + i) 1 = n.val := by
  obtain ⟨lt, _⟩ := List.getElem?_eq_some_iff.mp found
  have three : (encPadded 3 0xFF (k.fillTrains.map (·.val))).length = 3 := encPadded_length (by rw [List.length_map]; exact fills) _
  have entry := fieldAt_flatMap (xs := k.fillTrains.map (·.val)) (i := i) enc1_length
    (List.replicate (3 - (k.fillTrains.map (·.val)).length) 0xFF) (by rw [List.getElem?_map, found]; rfl) (j := 0) (w := 1) (by omega)
  rw [Nat.one_mul, Nat.add_zero] at entry
  rw [(tankRecord_layout t tag fills points).within 28 (piece := encPadded 3 0xFF (k.fillTrains.map (·.val))) (place := 56) (by omega) rfl rfl]
  exact entry.trans ((numberOf_enc1 n.val).trans (by omega))

theorem tankRecord_point {i : Nat} {p : StrapPoint} (found : k.strapping[i]? = some p) :
    fieldAt (tankRecord t k) (62 + 4 * i) 2 = p.head % 65536 ∧ fieldAt (tankRecord t k) (64 + 4 * i) 2 = p.volume % 65536 := by
  obtain ⟨lt, _⟩ := List.getElem?_eq_some_iff.mp found
  have length := strappingRow_length points
  have entry {j : Nat} (fits : j + 2 ≤ 4) :
      fieldAt (tankRecord t k) (62 + (4 * i + j)) 2 = fieldAt (enc2 p.head ++ enc2 p.volume) j 2 :=
    ((tankRecord_layout t tag fills points).within 32 (piece := strappingRow k.strapping) (place := 62) (by omega) rfl rfl).trans
      (fieldAt_flatMap strappingPoint_length _ found fits)
  refine ⟨(entry (j := 0) (by omega)).trans (numberOf_enc2 p.head), ?_⟩
  rw [show 64 + 4 * i = 62 + (4 * i + 2) by omega]
  exact (entry (j := 2) (by omega)).trans (numberOf_enc2 p.volume)

end

/-! ### The records of a channel and of an input (R41, R58) -/

/-- The pieces of a channel record. -/
def meterPieces (s : State) (m : Fin 24) : List (List Byte) :=
  let c := s.meters[m]
  [enc1 m.val, encFlag c.defined, enc1 c.defn.mode.code, enc2 c.defn.kFactor, enc1 c.defn.role.code.1, enc1 c.defn.role.code.2,
    enc2 c.residue, encWord c.netTotal, enc2 (rateField c.rate).toNat, encFlag c.phaseA, encFlag c.phaseB, enc2 c.phaseErrors,
    encFlag c.strayNoticed, encFlag (roleActive c.defn.role s)]

theorem meterRecord_layout (s : State) (m : Fin 24) : Layout (meterRecord s m) (meterPieces s m) [1, 1, 1, 2, 1, 1, 2, 4, 2, 1, 1, 2, 1, 1] where
  bytes := by
    unfold meterRecord meterPieces
    simp only [List.flatten_cons, List.flatten_nil, List.append_nil, List.append_assoc]
  lengths := rfl

/-- A rate that fits its field is sent in two's complement (R41, R183). -/
theorem rateField_fits {rate : Int} (low : -32768 ≤ rate) (high : rate ≤ 32767) : ((rateField rate).toNat : Int) = rate % 65536 := by
  rw [rateField, if_pos ⟨low, high⟩, BitVec.toNat_ofInt]; omega

theorem flatMap_enc2_row {xs : List Nat} (rest : List Byte) {i x : Nat} (found : xs[i]? = some x) :
    fieldAt (xs.flatMap enc2 ++ rest) (2 * i) 2 = x % 65536 :=
  (fieldAt_flatMap enc2_length rest found (j := 0) (w := 2) (by omega)).trans (numberOf_enc2 x)

/-- The eight places of a window of raw values, the unused ones 0. -/
def windowRow (window : List Nat) : List Byte := window.flatMap enc2 ++ List.replicate (16 - 2 * window.length) 0

theorem windowRow_length {window : List Nat} (fits : window.length ≤ 8) : (windowRow window).length = 16 := by
  rw [windowRow, List.length_append, flatMap_length_of_width enc2_length, List.length_replicate]; omega

/-- The pieces of an input record. -/
def inputPieces (i : Fin 16) (x : FrequencyInput) : List (List Byte) :=
  [enc1 i.val, encFlag x.defined, enc1 (inputRoleCode x.defined x.role).1, enc1 (inputRoleCode x.defined x.role).2,
    encFlag x.lastFrequency.isSome, enc2 (x.lastFrequency.getD 0), encOpt2 x.lastRaw, enc1 x.fault.code, enc1 x.outRun, enc1 x.inRun,
    enc1 x.window.length, windowRow x.window, encOpt2 x.head]

theorem inputRecord_layout (i : Fin 16) {x : FrequencyInput} (fits : x.window.length ≤ 8) :
    Layout (inputRecord i x) (inputPieces i x) [1, 1, 1, 1, 1, 2, 2, 1, 1, 1, 1, 16, 2] where
  bytes := by
    unfold inputRecord inputPieces windowRow
    simp only [encPresent2_eq, List.flatten_cons, List.flatten_nil, List.append_nil, List.append_assoc]
  lengths := by
    simp only [inputPieces, List.map_cons, List.map_nil, enc1_length, enc2_length, encFlag_length, encOpt2_length, windowRow_length fits]

theorem FaultState.code_eq_one {f : FaultState} : f.code % 256 = 1 ↔ f = .fault := by cases f <;> decide

theorem inputRecord_window {i : Fin 16} {x : FrequencyInput} (fits : x.window.length ≤ 8) {j v : Nat} (found : x.window[j]? = some v) :
    fieldAt (inputRecord i x) (13 + 2 * j) 2 = v % 65536 := by
  obtain ⟨lt, _⟩ := List.getElem?_eq_some_iff.mp found
  have length := windowRow_length fits
  exact ((inputRecord_layout i fits).within 11 (piece := windowRow x.window) (place := 13) (by omega) rfl rfl).trans
    (flatMap_enc2_row _ found)

/-! ### The records of a line and of a group (R102) -/

/-- The pieces of a line record before the draw. -/
def linePieces (s : State) (k : Fin 16) : List (List Byte) :=
  let l := s.lines[k]
  [enc1 k.val, encFlag l.defined, enc1 l.defn.group.val, enc1 l.defn.flow, enc2 l.defn.defaultBatch, enc2 l.defn.maxBatch,
    enc2 l.defn.maxDuration, enc2 l.defn.stallTime, enc1 l.defn.source.code.1, enc1 l.defn.source.code.2, encFlag l.metered,
    encFlag l.contactClosed, encFlag l.asserted, encFlag l.masked, enc1 l.state.code,
    encOpt1 (if l.defined then placeIn k s.groups[l.defn.group].rotation else none),
    encOpt1 (if l.state == .pending then placeIn k s.arb.pendingList else none),
    encFlag (admissible s k), encFlag (fits s k)]

theorem lineRecord_eq (s : State) (k : Fin 16) : lineRecord s k = (linePieces s k).flatten ++ drawFields s.lines[k].draw := by
  unfold lineRecord linePieces
  simp only [List.flatten_cons, List.flatten_nil, List.append_nil, List.append_assoc]

theorem linePieces_lengths (s : State) (k : Fin 16) :
    (linePieces s k).map List.length = [1, 1, 1, 1, 2, 2, 2, 2, 1, 1, 1, 1, 1, 1, 1, 1, 1, 1, 1] := by
  simp only [linePieces, List.map_cons, List.map_nil, enc1_length, enc2_length, encFlag_length, encOpt1_length]

theorem drawFields_length (o : Option Draw) : (drawFields o).length = 24 := by
  cases o with
  | none => rfl
  | some d => simp only [drawFields, encPresent4_eq, List.length_append, enc1_length, enc2_length, enc4_length, encFlag_length, encOpt2_length]

/-- The draw of a line record as one piece. -/
theorem lineRecord_layout (s : State) (k : Fin 16) : Layout (lineRecord s k) (linePieces s k ++ [drawFields s.lines[k].draw])
    [1, 1, 1, 1, 2, 2, 2, 2, 1, 1, 1, 1, 1, 1, 1, 1, 1, 1, 1, 24] where
  bytes := by rw [lineRecord_eq, List.flatten_append, List.flatten_cons, List.flatten_nil, List.append_nil]
  lengths := by rw [List.map_append, linePieces_lengths, List.map_cons, List.map_nil, drawFields_length]; rfl

/-- Without a draw the draw fields are all 0 (R183, log 15). -/
theorem lineRecord_noDraw {s : State} {k : Fin 16} (none : s.lines[k].draw = none) : ∀ b ∈ (lineRecord s k).drop 23, b = 0 := by
  have before : ((linePieces s k).flatten).length = 23 := by rw [List.length_flatten, linePieces_lengths]; rfl
  rw [lineRecord_eq, ← before, List.drop_left, none]
  exact fun b hb => List.eq_of_mem_replicate (n := 24) hb

/-- The pieces of the draw fields of a line with a draw. -/
def drawPieces (d : Draw) : List (List Byte) :=
  [enc1 1, encOpt2 d.requested, enc2 d.delivered, enc1 d.origin.code.1, enc1 d.origin.code.2, enc2 d.wait, encFlag d.aged,
    encFlag (d.grantSequence.map (·.toNat)).isSome, enc4 ((d.grantSequence.map (·.toNat)).getD 0), enc2 d.duration, enc2 d.stall,
    encFlag (d.suspendedSince.map (·.toNat)).isSome, enc4 ((d.suspendedSince.map (·.toNat)).getD 0)]

theorem lineRecord_drawLayout {s : State} {k : Fin 16} {d : Draw} (draw : s.lines[k].draw = some d) :
    Layout (lineRecord s k) (linePieces s k ++ drawPieces d)
      [1, 1, 1, 1, 2, 2, 2, 2, 1, 1, 1, 1, 1, 1, 1, 1, 1, 1, 1, 1, 2, 2, 1, 1, 2, 1, 1, 4, 2, 2, 1, 4] where
  bytes := by
    rw [lineRecord_eq, draw, List.flatten_append]
    congr 1
    unfold drawFields drawPieces
    simp only [encPresent4_eq, List.flatten_cons, List.flatten_nil, List.append_nil, List.append_assoc]
  lengths := by
    rw [List.map_append, linePieces_lengths]
    simp only [drawPieces, List.map_cons, List.map_nil, enc1_length, enc2_length, enc4_length, encFlag_length, encOpt2_length]
    rfl

theorem LineState.code_eq_three {st : LineState} : st.code % 256 = 3 ↔ st = .flowing := by cases st <;> decide

/-- The pieces of a group record. -/
def groupPieces (s : State) (g : Fin 6) : List (List Byte) :=
  let r := s.groups[g]
  [enc1 g.val, enc1 r.defn.admitLevel, enc2 r.defn.patience, enc1 (s.arb.pendingList.filter fun k => groupOf s k == g).length,
    enc1 (s.arb.inService.filter fun k => groupOf s k == g).length, enc1 r.rotation.length, r.rotation.flatMap fun k => enc1 k.val]

theorem groupRecord_layout (s : State) (g : Fin 6) :
    Layout (groupRecord s g) (groupPieces s g) [1, 1, 2, 1, 1, 1, s.groups[g].rotation.length] where
  bytes := by
    unfold groupRecord groupPieces
    simp only [List.flatten_cons, List.flatten_nil, List.append_nil, List.append_assoc]
  lengths := by
    simp only [groupPieces, List.map_cons, List.map_nil, enc1_length, enc2_length, flatMap_enc1_length]

/-- A row of line indices. -/
theorem flatMap_enc1_row {ks : List (Fin 16)} (rest : List Byte) {i : Nat} {k : Fin 16} (found : ks[i]? = some k) :
    fieldAt ((ks.flatMap fun k => enc1 k.val) ++ rest) i 1 = k.val := by
  have entry := fieldAt_flatMap (f := fun k : Fin 16 => enc1 k.val) (width := 1) (fun _ => rfl) rest found (j := 0) (w := 1) (by omega)
  rw [Nat.one_mul, Nat.add_zero] at entry
  exact entry.trans ((numberOf_enc1 k.val).trans (by omega))

theorem groupRecord_rotation {s : State} {g : Fin 6} {i : Nat} {k : Fin 16} (found : s.groups[g].rotation[i]? = some k) :
    fieldAt (groupRecord s g) (7 + i) 1 = k.val := by
  obtain ⟨lt, _⟩ := List.getElem?_eq_some_iff.mp found
  have row := flatMap_enc1_row [] found
  rw [List.append_nil] at row
  refine ((groupRecord_layout s g).within 6 (piece := s.groups[g].rotation.flatMap fun k => enc1 k.val) (place := 7) ?_ rfl rfl).trans row
  rw [flatMap_enc1_length]; omega

end Sys2Proof.Machine
end


section
/-!
The records of the trains, the sets, the transfers, the Arbiter, the plant, the link and the snapshot, as rows of pieces, and the statement on
the READ requests (R102, R134, R156, R170, R179, R182, R185).
-/

namespace Sys2Proof.Machine

/-! ### The train record (R156) -/

/-- The pieces of a train record. -/
def trainPieces (s : State) (n : Fin 3) : List (List Byte) :=
  let w := s.trains[n]
  let out := outputsOf s
  [enc1 n.val, enc1 w.defn.ratedPower, enc2 w.defn.primeTime, enc2 w.defn.rampTime, enc2 w.defn.qualificationHold, enc2 w.defn.divertMax,
    enc2 w.defn.salinityLimit, enc2 w.defn.flushVolume, enc2 w.defn.flushWaitMax, enc2 w.defn.minRun, enc2 w.defn.minRest,
    enc2 w.defn.productStall, enc1 w.defn.flushLine.val, enc1 w.mode.code, enc1 w.state.code, encOpt1 (w.stopCause.map StopCause.code),
    encOpt1 (w.faultCause.map FaultCause.code), encFlag w.retry, encFlag w.rested, encOpt1 (w.target.map (·.val)),
    encOpt2 w.reading.field, enc2 (w.stage.getD .idle).count, enc2 (w.stage.getD .idle).length, enc2 w.qualification.count,
    enc2 w.qualification.length, enc2 w.stall.count, enc2 w.stall.length, enc2 w.runTimer, encWord w.startedAt,
    encFlag (w.producingSince.map (·.toNat)).isSome, enc4 ((w.producingSince.map (·.toNat)).getD 0), encFlag (w.rest.map (·.count)).isSome,
    enc2 ((w.rest.map (·.count)).getD 0), enc2 (w.rest.getD .idle).length, enc2 w.flushRemaining, encFlag w.flushPlaced,
    enc2 w.flushWait.count, enc2 w.flushWait.length, encWord w.runningSeconds, encWord w.produced, encWord w.diverted,
    encFlag out.feedPump[n], encFlag out.hpPump[n], encFlag out.divertValve[n], encFlag out.productValve[n],
    encOpt1 (placeIn n s.startOrder), enc1 s.waters.code, enc1 s.eval.callCount, enc1 (autoRunning s), encFlag (flushLineValid s n)]

theorem trainRecord_layout (s : State) (n : Fin 3) : Layout (trainRecord s n) (trainPieces s n)
    [1, 1, 2, 2, 2, 2, 2, 2, 2, 2, 2, 2, 1, 1, 1, 1, 1, 1, 1, 1, 2, 2, 2, 2, 2, 2, 2, 2, 4, 1, 4, 1, 2, 2, 2, 1, 2, 2, 4, 4, 4, 1, 1, 1, 1,
      1, 1, 1, 1, 1] where
  bytes := by
    unfold trainRecord trainPieces trainTimes timerFields
    simp only [encPresent2_eq, encPresent4_eq, Option.getD_some, List.flatMap_cons, List.flatMap_nil, List.flatten_cons, List.flatten_nil,
      List.append_nil, List.append_assoc]
  lengths := by
    simp only [trainPieces, List.map_cons, List.map_nil, enc1_length, enc2_length, enc4_length, encWord_length, encFlag_length,
      encOpt1_length, encOpt2_length]

theorem TrainState.code_eq_four {st : TrainState} : st.code % 256 = 4 ↔ st = .producing := by cases st <;> decide

theorem productValve_iff (s : State) (n : Fin 3) : (outputsOf s).productValve[n] = true ↔ s.trains[n].state = .producing := by
  rw [outputsOf, updAll_get, beq_iff_eq]

/-! ### The record of the sets (R134) -/

/-- The pieces of one set. -/
def setPieces (s : State) (x : Fin 2) : List (List Byte) :=
  let p := s.sets.sets[x]
  [enc2 p.defn.capacity, enc1 p.defn.ratedPower, enc1 p.state.code, encFlag p.proofClosed, enc1 p.startTimer.count, enc1 p.lossTimer,
    encFlag p.usable, encFlag (outputsOf s).setRun[x]]

/-- The pieces of the record of the sets. -/
def setsPieces (s : State) : List (List Byte) :=
  let r := s.sets
  setPieces s 0 ++ setPieces s 1 ++
    [enc1 r.duty.val, enc1 r.supply.code, enc2 r.grantCapacity, enc2 r.settings.reserve, enc1 r.settings.startProof,
      enc1 r.settings.changeover, enc2 r.settings.alternation, enc2 s.arb.supplyLossHold,
      encFlag (r.alternationTimer.map (·.count)).isSome, enc4 ((r.alternationTimer.map (·.count)).getD 0),
      enc2 (r.alternationTimer.getD .idle).length]

theorem setFields_eq (s : State) (x : Fin 2) : setFields s x = (setPieces s x).flatten := by
  unfold setFields setPieces
  simp only [List.flatten_cons, List.flatten_nil, List.append_nil, List.append_assoc]

theorem setsRecord_layout (s : State) : Layout (setsRecord s) (setsPieces s)
    [2, 1, 1, 1, 1, 1, 1, 1, 2, 1, 1, 1, 1, 1, 1, 1, 1, 1, 2, 2, 1, 1, 2, 2, 1, 4, 2] where
  bytes := by
    unfold setsRecord setsPieces
    simp only [setFields_eq, encPresent4_eq, List.flatten_append, List.flatten_cons, List.flatten_nil, List.append_nil, List.append_assoc]
  lengths := rfl

theorem SetState.code_eq_three {st : SetState} : st.code % 256 = 3 ↔ st = .running := by cases st <;> decide
theorem SupplyState.code_eq_one {st : SupplyState} : st.code % 256 = 1 ↔ st = .up := by cases st <;> decide

/-! ### The transfer record (R170) -/

theorem transferRunFields_eq (o : Option TransferRun) : transferRunFields o =
    encFlag o.isSome ++ enc1 ((o.map (·.origin.code)).getD 0) ++ enc1 ((o.map (·.source.val)).getD 0) ++
      enc1 ((o.map (·.dest.val)).getD 0) ++ enc2 ((o.map (·.litres)).getD 0) := by cases o <;> rfl

theorem shoreRunFields_eq (o : Option ShoreRun) : shoreRunFields o =
    encFlag o.isSome ++ enc1 ((o.map (·.target.val)).getD 0) ++ enc2 ((o.map (·.litres)).getD 0) := by cases o <;> rfl

theorem transferEndFields_length (o : Option TransferEnd) : (transferEndFields o).length = 8 := by cases o <;> rfl
theorem shoreEndFields_length (o : Option ShoreEnd) : (shoreEndFields o).length = 7 := by cases o <;> rfl

/-- The pieces of a transfer record. -/
def transferPieces (s : State) : List (List Byte) :=
  [enc1 s.transfer.pump.ratedPower, enc2 s.transfer.pump.stallTime, encFlag s.transfer.run.isSome,
    enc1 ((s.transfer.run.map (·.origin.code)).getD 0), enc1 ((s.transfer.run.map (·.source.val)).getD 0),
    enc1 ((s.transfer.run.map (·.dest.val)).getD 0), enc2 ((s.transfer.run.map (·.litres)).getD 0), encSigned4 s.transfer.moved,
    enc2 s.transfer.stall.count, enc2 s.transfer.stall.length, transferEndFields s.transfer.lastEnd, encFlag s.shore.run.isSome,
    enc1 ((s.shore.run.map (·.target.val)).getD 0), enc2 ((s.shore.run.map (·.litres)).getD 0), encSigned4 s.shore.filled,
    shoreEndFields s.shore.lastEnd, enc2 s.power.allowance, enc1 (setReserve s), enc2 (effectiveAllowance s), enc2 (committedLoad s),
    enc1 s.power.holders.length, encPadded 4 0xFF (s.power.holders.map Holder.code)]

theorem transferRecord_layout {s : State} (fits : s.power.holders.length ≤ 4) : Layout (transferRecord s) (transferPieces s)
    [1, 2, 1, 1, 1, 1, 2, 4, 2, 2, 8, 1, 1, 2, 4, 7, 2, 1, 2, 2, 1, 4] where
  bytes := by
    unfold transferRecord transferPieces timerFields
    simp only [transferRunFields_eq, shoreRunFields_eq, Option.getD_some, List.flatten_cons, List.flatten_nil, List.append_nil,
      List.append_assoc]
  lengths := by
    have four : (encPadded 4 0xFF (s.power.holders.map Holder.code)).length = 4 := encPadded_length (by rw [List.length_map]; exact fits) _
    simp only [transferPieces, List.map_cons, List.map_nil, enc1_length, enc2_length, encSigned4_length, encFlag_length,
      transferEndFields_length, shoreEndFields_length, four]

/-! ### The Arbiter's record (R102) -/

theorem encPresent2_length (o : Option Nat) : (encPresent2 o).length = 3 := by cases o <;> rfl

/-- The pieces of the Arbiter's record. -/
def arbiterPieces (s : State) : List (List Byte) :=
  let a := s.arb
  [enc1 a.mode.code, enc1 a.levelHeld, enc1 a.supplyHeld.code, enc2 a.capacityHeld, enc2 (flowingFlow s), enc2 (freeCapacity s),
    encPresent2 (a.hold.map (·.count)), enc2 a.supplyLossHold, encOpt1 (a.stoppedAt.map (·.val)), enc2 (maskSet s),
    enc1 a.pendingList.length, a.pendingList.flatMap fun k => enc1 k.val, enc1 a.inService.length,
    a.inService.flatMap fun k => enc1 k.val ++ enc1 s.lines[k].state.code]

theorem arbiterRecord_layout (s : State) : Layout (arbiterRecord s) (arbiterPieces s)
    [1, 1, 1, 2, 2, 2, 3, 2, 1, 2, 1, s.arb.pendingList.length, 1, 2 * s.arb.inService.length] where
  bytes := by
    unfold arbiterRecord arbiterPieces
    simp only [List.flatten_cons, List.flatten_nil, List.append_nil, List.append_assoc]
  lengths := by
    have serving := flatMap_length_of_width (f := fun k : Fin 16 => enc1 k.val ++ enc1 s.lines[k].state.code) (width := 2) (fun _ => rfl)
      s.arb.inService
    simp only [arbiterPieces, List.map_cons, List.map_nil, enc1_length, enc2_length, encPresent2_length, encOpt1_length,
      flatMap_enc1_length, serving]

theorem ArbiterMode.code_eq_one {m : ArbiterMode} : m.code % 256 = 1 ↔ m = .manual := by cases m <;> decide

theorem arbiterRecord_waiting {s : State} {i : Nat} {k : Fin 16} (found : s.arb.pendingList[i]? = some k) :
    fieldAt (arbiterRecord s) (18 + i) 1 = k.val := by
  obtain ⟨lt, _⟩ := List.getElem?_eq_some_iff.mp found
  have row := flatMap_enc1_row [] found
  rw [List.append_nil] at row
  refine ((arbiterRecord_layout s).within 11 (piece := s.arb.pendingList.flatMap fun k => enc1 k.val) (place := 18) ?_ rfl rfl).trans row
  rw [flatMap_enc1_length]; omega

/-! ### The plant status summary and the link (R182) -/

/-- The pieces of the status record. -/
def statusPieces (s : State) : List (List Byte) :=
  let e := s.eval
  [enc2 Config.partCode, enc1 Config.revision, encWord s.now, enc4 e.reserve, enc4 e.capacity, encOpt2 e.ratio, enc1 e.computed,
    enc1 e.floor, enc1 e.level, enc1 e.callCount, encSigned4 e.imbalance, sideField (dutySide s), sideField (fillSide s),
    encOpt1 (e.dutyTank.map (·.val)), enc1 e.dutyCandidates.length, enc1 e.fillCandidates.length, enc2 e.reviewTimer,
    enc2 e.settings.reviewPeriod, e.settings.supplyBands.flatMap enc2, enc1 e.settings.hysteresis, e.settings.productionBands.flatMap enc2,
    enc1 e.settings.productionHysteresis, enc2 e.settings.balanceBand, enc2 e.settings.balanceLimit,
    allTanks.flatMap fun t => enc1 s.tanks[t].state.code, enc1 s.sets.supply.code, enc2 s.sets.grantCapacity, enc1 s.arb.mode.code,
    enc1 s.arb.pendingList.length, enc1 s.arb.inService.length, allTrains.flatMap fun n => enc1 s.trains[n].state.code,
    enc1 s.waters.code, enc2 s.power.allowance, enc2 (effectiveAllowance s), enc2 (committedLoad s), encFlag s.transfer.run.isSome,
    encFlag s.shore.run.isSome, encWord s.strayTotal, enc1 s.link.queue.length, encFlag s.link.overflow, encFlag (attn s),
    enc1 (lineCode (authority s)), encFlag s.link.snapshot.isSome, encFlag s.link.writing.isSome]

theorem tankStates_length (s : State) : (allTanks.flatMap fun t => enc1 s.tanks[t].state.code).length = 12 :=
  (flatMap_length_of_width (width := 1) (fun _ => rfl) allTanks).trans (by rw [allTanks, List.length_finRange])

theorem trainStates_length (s : State) : (allTrains.flatMap fun n => enc1 s.trains[n].state.code).length = 3 :=
  (flatMap_length_of_width (width := 1) (fun _ => rfl) allTrains).trans (by rw [allTrains, List.length_finRange])

theorem statusRecord_layout {s : State} (supply : s.eval.settings.supplyBands.length = 7)
    (production : s.eval.settings.productionBands.length = 3) : Layout (statusRecord s) (statusPieces s)
      [2, 1, 4, 4, 4, 2, 1, 1, 1, 1, 4, 1, 1, 1, 1, 1, 2, 2, 14, 1, 6, 1, 2, 2, 12, 1, 2, 1, 1, 1, 3, 1, 2, 2, 2, 1, 1, 4, 1, 1, 1, 1, 1,
        1] where
  bytes := by
    unfold statusRecord statusPieces
    simp only [List.flatten_cons, List.flatten_nil, List.append_nil, List.append_assoc]
  lengths := by
    simp only [statusPieces, sideField, List.map_cons, List.map_nil, enc1_length, enc2_length, enc4_length, encWord_length,
      encSigned4_length, encFlag_length, encOpt1_length, encOpt2_length, flatMap_length_of_width enc2_length, supply, production,
      tankStates_length, trainStates_length]

theorem getElem?_allTanks (t : Fin 12) : allTanks[t.val]? = some t := by simp [allTanks]

theorem statusRecord_band {s : State} (supply : s.eval.settings.supplyBands.length = 7)
    (production : s.eval.settings.productionBands.length = 3) {i b : Nat} (found : s.eval.settings.supplyBands[i]? = some b) :
    fieldAt (statusRecord s) (34 + 2 * i) 2 = b % 65536 := by
  obtain ⟨lt, _⟩ := List.getElem?_eq_some_iff.mp found
  have row := flatMap_enc2_row [] found
  rw [List.append_nil] at row
  refine ((statusRecord_layout supply production).within 18 (piece := s.eval.settings.supplyBands.flatMap enc2) (place := 34) ?_ rfl
    rfl).trans row
  rw [flatMap_length_of_width enc2_length]; omega

theorem statusRecord_tank {s : State} (supply : s.eval.settings.supplyBands.length = 7)
    (production : s.eval.settings.productionBands.length = 3) (t : Fin 12) :
    fieldAt (statusRecord s) (60 + t.val) 1 = 2 ↔ s.tanks[t].state = .inService := by
  have row := fieldAt_flatMap (f := fun t : Fin 12 => enc1 s.tanks[t].state.code) (width := 1) (fun _ => rfl) [] (getElem?_allTanks t)
    (j := 0) (w := 1) (by omega)
  rw [List.append_nil, Nat.one_mul, Nat.add_zero] at row
  have within : t.val + 1 ≤ (allTanks.flatMap fun t => enc1 s.tanks[t].state.code).length := by rw [tankStates_length]; omega
  rw [(statusRecord_layout supply production).within 24 (place := 60) within rfl rfl, row]
  exact (iff_of_eq (congrArg (· = 2) (numberOf_enc1 _))).trans TankState.code_eq_two

/-- The pieces of the link record. -/
def linkPieces (s : State) : List (List Byte) :=
  let l := s.link
  [enc2 l.lineA.discards, encFlag l.lineA.busy, enc2 l.lineB.discards, encFlag l.lineB.busy, encFlag l.localAsserted,
    enc1 (lineCode (authority s)), enc1 l.trigger, enc1 l.queue.length, encFlag l.overflow, encFlag (attn s), encFlag l.snapshot.isSome,
    encWord ((l.snapshot.map (·.time)).getD 0), encFlag l.writing.isSome, enc1 l.lastWrite.code]

theorem linkRecord_layout (s : State) : Layout (linkRecord s) (linkPieces s) [2, 1, 2, 1, 1, 1, 1, 1, 1, 1, 1, 4, 1, 1] where
  bytes := by
    unfold linkRecord linkPieces
    simp only [List.flatten_cons, List.flatten_nil, List.append_nil, List.append_assoc]
  lengths := rfl

theorem lineCode_eq_one {ln : LinkLine} : lineCode ln % 256 = 1 ↔ ln = .b := by cases ln <;> decide

theorem authority_eq_b {s : State} : authority s = .b ↔ s.link.localAsserted = true := by
  cases h : s.link.localAsserted <;> simp [authority, h]

/-! ### The pages of the snapshot (R179) -/

theorem tankFigures_length (image : Snapshot) (t : Fin 12) :
    (enc2 image.tanks[t].volume ++ encOpt2 image.tanks[t].levelVolume ++ enc2 image.tanks[t].trusted).length = 6 := by
  rw [List.length_append, List.length_append, enc2_length, enc2_length, encOpt2_length]

/-- The pieces of page 0. -/
def pageTanks (image : Snapshot) : List (List Byte) :=
  [encWord image.time, allTanks.flatMap fun t =>
    enc2 image.tanks[t].volume ++ encOpt2 image.tanks[t].levelVolume ++ enc2 image.tanks[t].trusted]

theorem snapshotTanks_layout (image : Snapshot) : Layout (snapshotTanks image) (pageTanks image) [4, 72] where
  bytes := by
    unfold snapshotTanks pageTanks
    simp only [List.flatten_cons, List.flatten_nil, List.append_nil]
  lengths := by
    simp only [pageTanks, List.map_cons, List.map_nil, encWord_length, flatMap_length_of_width (tankFigures_length image), allTanks,
      List.length_finRange]

theorem tankFigures_layout (image : Snapshot) (t : Fin 12) :
    Layout (enc2 image.tanks[t].volume ++ encOpt2 image.tanks[t].levelVolume ++ enc2 image.tanks[t].trusted)
      [enc2 image.tanks[t].volume, encOpt2 image.tanks[t].levelVolume, enc2 image.tanks[t].trusted] [2, 2, 2] where
  bytes := by simp only [List.flatten_cons, List.flatten_nil, List.append_nil, List.append_assoc]
  lengths := by simp only [List.map_cons, List.map_nil, enc2_length, encOpt2_length]

theorem snapshotTanks_figure (image : Snapshot) (t : Fin 12) {j w : Nat} (fits : j + w ≤ 6) :
    fieldAt (snapshotTanks image) (4 + (6 * t.val + j)) w =
      fieldAt (enc2 image.tanks[t].volume ++ encOpt2 image.tanks[t].levelVolume ++ enc2 image.tanks[t].trusted) j w := by
  have row := fieldAt_flatMap (tankFigures_length image) [] (getElem?_allTanks t) fits
  rw [List.append_nil] at row
  refine ((snapshotTanks_layout image).within 1 (place := 4) ?_ rfl rfl).trans row
  rw [flatMap_length_of_width (tankFigures_length image), allTanks, List.length_finRange]
  have := t.isLt
  omega

/-- The pieces of page 1. -/
def pageMeters (image : Snapshot) : List (List Byte) :=
  [encWord image.time, allMeters.flatMap fun m => encWord image.netTotals[m], encWord image.strayTotal]

theorem snapshotMeters_layout (image : Snapshot) : Layout (snapshotMeters image) (pageMeters image) [4, 96, 4] where
  bytes := by
    unfold snapshotMeters pageMeters
    simp only [List.flatten_cons, List.flatten_nil, List.append_nil, List.append_assoc]
  lengths := by
    have each (m : Fin 24) : (encWord image.netTotals[m]).length = 4 := rfl
    simp only [pageMeters, List.map_cons, List.map_nil, encWord_length, flatMap_length_of_width each, allMeters, List.length_finRange]

theorem snapshotMeters_total (image : Snapshot) (m : Fin 24) :
    fieldAt (snapshotMeters image) (4 + 4 * m.val) 4 = image.netTotals[m].toNat := by
  have each (m : Fin 24) : (encWord image.netTotals[m]).length = 4 := rfl
  have row := fieldAt_flatMap each [] (show allMeters[m.val]? = some m by simp [allMeters]) (j := 0) (w := 4) (by omega)
  rw [List.append_nil, Nat.add_zero] at row
  refine ((snapshotMeters_layout image).within 1 (piece := allMeters.flatMap fun m => encWord image.netTotals[m]) (place := 4) ?_ rfl
    rfl).trans (row.trans (numberOf_encWord _))
  rw [flatMap_length_of_width each, allMeters, List.length_finRange]
  have := m.isLt
  omega


theorem Notice.bytes_layout (n : Notice) : Layout n.bytes
    [encWord n.time, enc1 n.body.record.1, enc1 n.body.record.2.1, enc1 n.body.record.2.2.1, encWord n.body.record.2.2.2] [4, 1, 1, 1, 4] where
  bytes := by
    unfold Notice.bytes
    simp only [List.flatten_cons, List.flatten_nil, List.append_nil, List.append_assoc]
  lengths := rfl

/-! ### The requests -/

/-- A query on a free line whose owner answers in a known way. -/
theorem query_outcome {own : Owner} {ln : LinkLine} {tag : Byte} {body : List Byte} {s : State} {answered : State × Reply}
    (free : LineFree ln s) (query : own.class_ = .query) (length : own.lengthOk body = true)
    (run : own.run body (takeLine ln s) = answered) :
    done (takeRequest own ln tag body s) = .next (answeredBy ln own.kind tag answered) := by
  rw [query_answered own ln tag body s free query length, run]

theorem u8At_enc1 {x : Nat} (small : x < 256) : u8At (enc1 x) 0 = x := (u8At_enc1_last x).trans (Nat.mod_eq_of_lt small)

/-- A READ with an index answers the record of that index. -/
theorem readIndexed_ok {n : Nat} (small : n ≤ 256) (record : State → Fin n → List Byte) (i : Fin n) (s : State) :
    readIndexed n record (enc1 i.val) s = (s, ⟨.ok, record s i⟩) := by
  rw [readIndexed, u8At_enc1 (by omega), indexOf_val]; rfl

theorem readIndexed_badIndex {n x : Nat} (small : x < 256) (high : n ≤ x) (record : State → Fin n → List Byte) (s : State) :
    readIndexed n record (enc1 x) s = (s, ⟨.badIndex, []⟩) := by
  rw [readIndexed, u8At_enc1 small, indexOf_none high]; rfl

/-- Settles O7: the replies from the READ owners' answers, the bytes from the layouts of the records. -/
theorem readsReport : Obligations.ReadsReport := by
  refine ⟨fun ln tag s free => ⟨?_, ?_, ?_, ?_, ?_⟩, fun ln tag s free => ⟨fun t => ?_, fun m => ?_, fun i => ?_, fun k => ?_, fun g => ?_,
    fun n => ?_, fun x small => ⟨fun high => ?_, fun high => ?_, fun high => ?_, fun high => ?_, fun high => ?_, fun high => ?_⟩⟩, fun s => ?_⟩
  · exact query_outcome (own := ownReadStatus) free rfl rfl rfl
  · exact query_outcome (own := ownReadArbiter) free rfl rfl rfl
  · exact query_outcome (own := ownReadSets) free rfl rfl rfl
  · exact query_outcome (own := ownReadTransfer) free rfl rfl rfl
  · exact query_outcome (own := ownReadLink) free rfl rfl rfl
  · refine query_outcome (own := ownReadTank) free rfl rfl ((readIndexed_ok (by omega) (fun s t => tankRecord t s.tanks[t]) t _).trans ?_)
    rw [takeLine_tanks]
  · exact query_outcome (own := ownReadMeter) free rfl rfl (readIndexed_ok (by omega) meterRecord m _)
  · refine query_outcome (own := ownReadFrequencyInput) free rfl rfl ((readIndexed_ok (by omega) (fun s i => inputRecord i s.inputs[i]) i _).trans ?_)
    rw [takeLine_inputs]
  · exact query_outcome (own := ownReadLine) free rfl rfl (readIndexed_ok (by omega) lineRecord k _)
  · exact query_outcome (own := ownReadGroup) free rfl rfl (readIndexed_ok (by omega) groupRecord g _)
  · exact query_outcome (own := ownReadTrain) free rfl rfl (readIndexed_ok (by omega) trainRecord n _)
  · exact query_outcome (own := ownReadTank) free rfl rfl (readIndexed_badIndex small high (fun s t => tankRecord t s.tanks[t]) _)
  · exact query_outcome (own := ownReadMeter) free rfl rfl (readIndexed_badIndex small high meterRecord _)
  · exact query_outcome (own := ownReadFrequencyInput) free rfl rfl (readIndexed_badIndex small high (fun s i => inputRecord i s.inputs[i]) _)
  · exact query_outcome (own := ownReadLine) free rfl rfl (readIndexed_badIndex small high lineRecord _)
  · exact query_outcome (own := ownReadGroup) free rfl rfl (readIndexed_badIndex small high groupRecord _)
  · exact query_outcome (own := ownReadTrain) free rfl rfl (readIndexed_badIndex small high trainRecord _)
  refine ⟨?tank, ?meter, ?input, ?line, ?group, ?train, ?sets, ?transfer, ?arbiter, ?status, ?link, ?snapshot, ?notice⟩
  case tank =>
    intro t k r tag fills points hr
    have h : Layout r _ _ := hr ▸ tankRecord_layout t tag fills points
    refine ⟨h.length, h.small 0 (by omega), hr ▸ tankRecord_tag tag fills points, h.two 3, h.two 4, h.two 5, h.two 6, h.two 7, ?_, h.flag 10,
      h.two 11, h.two 13, h.word 14, h.word 15, h.word 16, h.two 17, h.absent2 20, fun v present => h.present2 20 present, ?_, h.two 22,
      h.two 23, h.flag 26, h.small 27 (by omega), fun i n found => hr ▸ tankRecord_fillTrain tag fills points found, h.flag 30, h.small 31 (by omega),
      fun i p found => hr ▸ tankRecord_point tag fills points found⟩
    · rw [h.one 9]; exact TankState.code_eq_two
    · rw [h.one 21]; exact Agreement.code_eq_two
  case meter =>
    intro m r hr
    have h : Layout r _ _ := hr ▸ meterRecord_layout s m
    refine ⟨h.length, h.small 0 (by omega), h.flag 1, h.two 3, h.two 6, h.word 7, fun low high => ?_, h.flag 9, h.flag 10, h.two 11,
      h.flag 12⟩
    rw [h.two 8, Nat.mod_eq_of_lt (rateField _).isLt]
    exact rateField_fits low high
  case input =>
    intro i x r fits hr
    have h : Layout r _ _ := hr ▸ inputRecord_layout i fits
    refine ⟨h.length, h.small 0 (by omega), h.flag 1, fun none => ⟨?_, ?_⟩, fun f some => ⟨?_, ?_⟩, ?_, h.small 10 (by omega),
      fun j v found => hr ▸ inputRecord_window fits found, h.absent2 12, fun v present => h.present2 12 present⟩
    · rw [h.bit 4, none]; rfl
    · rw [h.two 5, none]; rfl
    · rw [h.bit 4, some]; rfl
    · rw [h.two 5, some]; rfl
    · rw [h.one 7]; exact FaultState.code_eq_one
  case line =>
    intro k r hr
    have h : Layout r _ _ := hr ▸ lineRecord_layout s k
    refine ⟨h.length, h.small 0 (by omega), h.small 2 (by omega), h.one 3, h.two 5, h.two 7, h.flag 12, h.flag 13, ?_, h.flag 17,
      fun none => hr ▸ lineRecord_noDraw none, fun d draw => ?_⟩
    · rw [h.one 14]; exact LineState.code_eq_three
    have h : Layout r _ _ := hr ▸ lineRecord_drawLayout draw
    refine ⟨h.small 19 (by omega), h.two 21, fun q => h.present2 20, h.absent2 20, h.two 24, fun w grant => ⟨?_, ?_⟩, h.two 28, h.two 29,
      fun w since => ⟨?_, ?_⟩⟩
    · rw [h.bit 26, grant]; rfl
    · rw [h.four 27, grant]; exact Nat.mod_eq_of_lt w.isLt
    · rw [h.bit 30, since]; rfl
    · rw [h.four 31, since]; exact Nat.mod_eq_of_lt w.isLt
  case group =>
    intro g r short hr
    have h : Layout r _ _ := hr ▸ groupRecord_layout s g
    refine ⟨?_, h.small 0 (by omega), h.one 1, h.two 2, h.small 5 short, fun i k found => hr ▸ groupRecord_rotation found⟩
    rw [h.length]; simp only [List.sum_cons, List.sum_nil]; omega
  case train =>
    intro n r hr
    have h : Layout r _ _ := hr ▸ trainRecord_layout s n
    refine ⟨h.length, h.small 0 (by omega), h.one 1, h.two 6, h.two 11, h.small 12 (by omega), ?_,
      fun none => h.absent1 19 (o := s.trains[n].target.map (·.val)) (by rw [none]; rfl),
      fun t target => h.present1 19 (o := s.trains[n].target.map (·.val)) (by rw [target]; rfl) (by omega),
      fun fault => h.absent2 20 (o := s.trains[n].reading.field) (by rw [fault]; rfl),
      fun v reads => h.present2 20 (o := s.trains[n].reading.field) (by rw [reads]; rfl),
      h.two 27, h.word 28, h.two 34, h.word 38, h.word 39, h.word 40, ?_, h.one 47⟩
    · rw [h.one 14]; exact TrainState.code_eq_four
    · rw [h.flag 44]; exact productValve_iff s n
  case sets =>
    intro r hr
    have h : Layout r _ _ := hr ▸ setsRecord_layout s
    refine ⟨h.length, Fin.forall_fin_two.mpr ⟨⟨h.two 0, h.one 1, ?_, h.one 4, h.one 5⟩, ⟨h.two 8, h.one 9, ?_, h.one 12, h.one 13⟩⟩,
      h.small 16 (by omega), ?_, h.two 18, h.two 19, h.two 23⟩
    · rw [h.one 2]; exact SetState.code_eq_three
    · rw [h.one 10]; exact SetState.code_eq_three
    · rw [h.one 17]; exact SupplyState.code_eq_one
  case transfer =>
    intro r holders hr
    have h : Layout r _ _ := hr ▸ transferRecord_layout holders
    refine ⟨h.length, h.one 0, h.two 1, ?_, fun w run => ⟨?_, ?_, ?_⟩, h.signed 7, ?_, h.signed 14, h.two 16, h.two 18, h.two 19,
      h.small 20 (by omega)⟩
    · rw [h.flag 2]; exact Option.isSome_iff_ne_none
    · rw [h.one 4, run]; exact Nat.mod_eq_of_lt (Nat.lt_trans w.source.isLt (by decide))
    · rw [h.one 5, run]; exact Nat.mod_eq_of_lt (Nat.lt_trans w.dest.isLt (by decide))
    · rw [h.two 6, run]; rfl
    · rw [h.flag 11]; exact Option.isSome_iff_ne_none
  case arbiter =>
    intro r hr waiting serving
    have h : Layout r _ _ := hr ▸ arbiterRecord_layout s
    refine ⟨?_, ?_, h.one 1, ?_, h.two 3, h.two 4, h.small 10 waiting, fun i k found => hr ▸ arbiterRecord_waiting found,
      h.small 12 serving rfl ?_⟩
    · rw [h.length]; simp only [List.sum_cons, List.sum_nil]; omega
    · rw [h.one 0]; exact ArbiterMode.code_eq_one
    · rw [h.one 2]; exact SupplyState.code_eq_one
    · simp only [List.take_succ_cons, List.take_zero, List.sum_cons, List.sum_nil]; omega
  case status =>
    intro r hr supply production
    have h : Layout r _ _ := hr ▸ statusRecord_layout supply production
    refine ⟨h.length, h.two 0, h.one 1, h.word 2, h.four 3, h.four 4, h.absent2 5, h.one 8, h.one 9, h.signed 10,
      fun none => h.absent1 13 (o := s.eval.dutyTank.map (·.val)) (by rw [none]; rfl),
      fun t duty => h.present1 13 (o := s.eval.dutyTank.map (·.val)) (by rw [duty]; rfl) (by omega),
      fun i b found => hr ▸ statusRecord_band supply production found, fun t => hr ▸ statusRecord_tank supply production t, ?_, h.two 32,
      h.word 37, h.one 38, h.flag 39, ?_⟩
    · rw [h.one 25]; exact SupplyState.code_eq_one
    · rw [h.flag 43]; exact Option.isSome_iff_ne_none
  case link =>
    intro r hr
    have h : Layout r _ _ := hr ▸ linkRecord_layout s
    refine ⟨h.length, h.two 0, h.two 2, h.flag 4, ?_, authority_eq_b, h.one 6, h.one 7⟩
    rw [h.one 5]; exact lineCode_eq_one
  case snapshot =>
    intro image
    have tanks := snapshotTanks_layout image
    have meters := snapshotMeters_layout image
    refine ⟨tanks.length, meters.length, tanks.word 0, meters.word 0, fun t => ⟨?_, ?_⟩, snapshotMeters_total image, meters.word 2⟩
    · exact (snapshotTanks_figure image t (j := 0) (w := 2) (by omega)).trans (numberOf_enc2 _)
    · rw [show 8 + 6 * t.val = 4 + (6 * t.val + 4) by omega, snapshotTanks_figure image t (by omega)]
      exact (tankFigures_layout image t).two 2
  case notice =>
    intro n
    exact ⟨(n.bytes_layout).length, (n.bytes_layout).word 0⟩

end Sys2Proof.Machine
end


section
/-!
Refusals (R174, R175): a refused request changes nothing and is answered with its status alone, and the operation kinds refuse an
index or a code out of range.
-/

namespace Sys2Proof.Machine

/-! ### Every owner accepts, or refuses with the status alone -/

/-- The answer is no refusal, or it is one that leaves the state as it was and sends the status alone (R175). -/
def AcceptsOrRefuses (s : State) (answered : State × Reply) : Prop :=
  answered.2.status = .ok ∨ answered.2.status = .okAdjusted ∨ answered.2.status = .none ∨ ∃ st, answered = refuse st s

namespace AcceptsOrRefuses

variable {s u : State}

theorem refused (st : Status) : AcceptsOrRefuses s (refuse st s) := .inr (.inr (.inr ⟨st, rfl⟩))

theorem ok (fields : List Byte) : AcceptsOrRefuses s (u, ⟨.ok, fields⟩) := .inl rfl

theorem none (fields : List Byte) : AcceptsOrRefuses s (u, ⟨.none, fields⟩) := .inr (.inr (.inl rfl))

theorem accepted (adjusted : Bool) (fields : List Byte) : AcceptsOrRefuses s (acceptWith adjusted fields u) := by
  cases adjusted
  · exact .inl rfl
  · exact .inr (.inl rfl)

theorem checked {table : List (Bool × Status)} {go : State × Reply} (passed : AcceptsOrRefuses s go) :
    AcceptsOrRefuses s (checked table s go) := by
  obtain ⟨-, e⟩ | ⟨st, e⟩ := checked_passes table s go <;> rw [e]
  · exact passed
  · exact refused st

end AcceptsOrRefuses

/-- Whatever a request's body holds, its owner accepts it or refuses it. -/
def Owner.Judges (own : Owner) : Prop := ∀ body s, AcceptsOrRefuses s (own.run body s)

theorem queryOwners_judge : ∀ own ∈ queryOwners, own.Judges := by
  have read (n : Nat) (record : State → Fin n → List Byte) (body : List Byte) (s : State) :
      AcceptsOrRefuses s (readIndexed n record body s) := by
    unfold readIndexed; split
    · exact .refused _
    · exact .ok _
  have fetched : ownFetchNotices.Judges := fun body s => by
    simp only [ownFetchNotices, runFetchNotices, fetch]; split
    · split
      · exact .none _
      · exact .ok _
    · exact .refused _
  have taken : ownTakeSnapshot.Judges := fun _ s => by
    simp only [ownTakeSnapshot, runTakeSnapshot]; split <;> exact .ok _
  have paged : ownReadSnapshot.Judges := fun body s => by
    simp only [ownReadSnapshot, runReadSnapshot]; split
    · split
      · exact .refused _
      · split <;> exact .ok _
    · exact .refused _
  have released : ownReleaseSnapshot.Judges := fun _ s => by
    simp only [ownReleaseSnapshot, runReleaseSnapshot]; split
    · exact .ok _
    · exact .none _
  simp only [queryOwners, List.forall_mem_cons]
  exact ⟨fun _ _ => .ok _, read 12 _, read 24 _, read 16 _, read 16 _, read 6 _, fun _ _ => .ok _, read 3 _, fun _ _ => .ok _,
    fun _ _ => .ok _, fun _ _ => .ok _, fetched, taken, paged, released, List.forall_mem_nil _⟩

/-! #### The configuration kinds -/

theorem defineTank_judges : ownDefineTank.Judges := fun body s => by
  simp only [ownDefineTank, runDefineTank]; split
  · exact .refused _
  · unfold defineTank; dsimp only; split
    · exact .checked (.ok _)
    · split
      · exact .refused _
      · exact .checked (.accepted _ _)

theorem defineMeter_judges : ownDefineMeter.Judges := fun body s => by
  simp only [ownDefineMeter, runDefineMeter]; split
  · exact .refused _
  · unfold defineMeter; split
    · exact .checked (.ok _)
    · split
      · exact .refused _
      · split
        · exact .refused _
        · exact .refused _
        · exact .checked (.ok _)

theorem defineInput_judges : ownDefineFrequencyInput.Judges := fun body s => by
  simp only [ownDefineFrequencyInput, runDefineFrequencyInput]; split
  · exact .refused _
  · unfold defineInput; split
    · exact .refused _
    · exact .checked (.ok _)

theorem defineLines_judges : ownDefineLines.Judges := fun body s => by
  simp only [ownDefineLines, runDefineLines]; split
  · exact .refused _
  · split
    · exact .refused _
    · split
      · exact .checked (.ok _)
      · split
        · exact .refused _
        · unfold defineLineSet; split
          · exact .refused _
          · exact .checked (.accepted _ _)

theorem defineTrain_judges : ownDefineTrain.Judges := fun body s => by
  simp only [ownDefineTrain, runDefineTrain]; split
  · exact .refused _
  · unfold defineTrain; split
    · exact .refused _
    · split
      · exact .refused _
      · exact .checked (.accepted _ _)

theorem configurationOwners_judge : ∀ own ∈ configurationOwners, own.Judges := by
  have loadStrapping : ownLoadStrapping.Judges := fun body s => by
    simp only [ownLoadStrapping, runLoadStrapping]; split
    · exact .refused _
    · exact .checked (.ok _)
  have defineGroup : ownDefineGroup.Judges := fun body s => by
    simp only [ownDefineGroup, runDefineGroup]; split
    · exact .refused _
    · exact .checked (.accepted _ _)
  simp only [configurationOwners, List.forall_mem_cons]
  exact ⟨defineTank_judges, loadStrapping, defineMeter_judges, defineInput_judges, defineLines_judges, defineGroup,
    fun _ _ => .checked (.ok _), fun _ _ => .checked (.ok _), fun _ _ => .checked (.accepted _ _), defineTrain_judges,
    fun _ _ => .checked (.accepted _ _), fun _ _ => .checked (.accepted _ _), fun _ _ => .checked (.ok _), fun _ _ => .ok _,
    List.forall_mem_nil _⟩

/-! #### The operation kinds -/

theorem tankOwners_judge : ownSeedTank.Judges ∧ ownReseedTank.Judges ∧ ownTankService.Judges := by
  refine ⟨fun body s => ?_, fun body s => ?_, fun body s => ?_⟩
  · simp only [ownSeedTank, runSeedTank]; split
    · exact .refused _
    · exact .checked (.accepted _ _)
  · simp only [ownReseedTank, runReseedTank]; split
    · exact .refused _
    · unfold reseedTank; split
      · exact .refused _
      · split
        · exact .refused _
        · exact .accepted _ _
  · simp only [ownTankService, runTankService]; split
    · exact .refused _
    · exact .refused _
    · unfold tankService; split
      · exact .refused _
      · exact .ok _

theorem drawOwners_judge : ownDraw.Judges ∧ ownCancelDraw.Judges ∧ ownEndDraw.Judges := by
  refine ⟨fun body s => ?_, fun body s => ?_, fun body s => ?_⟩
  · simp only [ownDraw, runDraw]; split
    · exact .refused _
    · exact .checked (.accepted _ _)
  · simp only [ownCancelDraw, runCancelDraw]; split
    · exact .refused _
    · unfold cancelDraw; split
      · exact .accepted _ _
      · exact .accepted _ _
      · exact .accepted _ _
      all_goals exact .refused _
  · simp only [ownEndDraw, runEndDraw]; split
    · unfold endNonSpecific; split
      · exact .accepted _ _
      · exact .none _
    · split
      · exact .refused _
      · unfold endSpecific; split
        · exact .accepted _ _
        · exact .accepted _ _
        all_goals exact .refused _

theorem arbiterOwners_judge : ownMaskLines.Judges ∧ ownSetRotation.Judges ∧ ownArbiterMode.Judges ∧ ownDispatch.Judges ∧
    ownResetLine.Judges := by
  refine ⟨fun body s => ?_, fun body s => ?_, fun body s => ?_, fun body s => ?_, fun body s => ?_⟩
  · simp only [ownMaskLines, runMaskLines]; split
    · exact .refused _
    · exact .checked (.ok _)
  · simp only [ownSetRotation, runSetRotation]; split
    · exact .refused _
    · exact .checked (.ok _)
  · simp only [ownArbiterMode, runArbiterMode]; split
    · exact .refused _
    · exact .ok _
  · simp only [ownDispatch, runDispatch]; split
    · unfold dispatchOne; split
      · exact .none _
      · split
        · exact .accepted _ _
        · exact .none _
    · exact .refused _
  · simp only [ownResetLine, runResetLine]; split
    · exact .refused _
    · exact .checked (.accepted _ _)

theorem trainOwners_judge : ownTrainMode.Judges ∧ ownStartTrain.Judges ∧ ownStopTrain.Judges ∧ ownFlushTrain.Judges ∧
    ownResetTrain.Judges ∧ ownSetWaters.Judges := by
  refine ⟨fun body s => ?_, fun body s => ?_, fun body s => ?_, fun body s => ?_, fun body s => ?_, fun body s => ?_⟩
  · simp only [ownTrainMode, runTrainMode]; split
    · exact .refused _
    · exact .refused _
    · exact .ok _
  · simp only [ownStartTrain, runStartTrain]; split
    · exact .refused _
    · exact .checked (.ok _)
  · simp only [ownStopTrain, runStopTrain]; split
    · exact .refused _
    · exact .checked (.ok _)
  · simp only [ownFlushTrain, runFlushTrain]; split
    · exact .refused _
    · unfold flushTrain; dsimp only; split
      · exact .refused _
      · split
        · exact .ok _
        · split
          · exact .ok _
          · exact .refused _
  · simp only [ownResetTrain, runResetTrain]; split
    · exact .refused _
    · exact .checked (.ok _)
  · simp only [ownSetWaters, runSetWaters]; split
    · exact .refused _
    · exact .ok _

theorem operationOwners_judge : ∀ own ∈ operationOwners, own.Judges := by
  have startTransfer : ownStartTransfer.Judges := fun body s => by
    simp only [ownStartTransfer, runStartTransfer]; split
    · exact .checked (.ok _)
    · exact .refused _
  have startShoreFill : ownStartShoreFill.Judges := fun body s => by
    simp only [ownStartShoreFill, runStartShoreFill]; split
    · exact .refused _
    · exact .checked (.ok _)
  have pressureSetService : ownPressureSetService.Judges := fun body s => by
    simp only [ownPressureSetService, runPressureSetService]; split
    · exact .refused _
    · exact .refused _
    · exact .ok _
  have resetPressureSet : ownResetPressureSet.Judges := fun body s => by
    simp only [ownResetPressureSet, runResetPressureSet]; split
    · exact .refused _
    · exact .checked (.ok _)
  obtain ⟨seed, reseed, service⟩ := tankOwners_judge
  obtain ⟨draw, cancel, ended⟩ := drawOwners_judge
  obtain ⟨mask, rotation, mode, dispatch, resetLine⟩ := arbiterOwners_judge
  obtain ⟨trainMode, start, stop, flush, resetTrain, waters⟩ := trainOwners_judge
  simp only [operationOwners, List.cons_append, List.nil_append, List.forall_mem_cons]
  exact ⟨seed, reseed, service, draw, cancel, ended, mask, rotation, mode, dispatch, resetLine, trainMode, start, stop, flush,
    resetTrain, waters, fun _ _ => .accepted _ _, fun _ _ => .accepted _ _, startTransfer, fun _ _ => .checked (.accepted _ _),
    startShoreFill, fun _ _ => .checked (.accepted _ _), pressureSetService, resetPressureSet, List.forall_mem_nil _⟩

theorem requestOwners_judge : ∀ own ∈ requestOwners, own.Judges := by
  intro own mem
  rw [requestOwners, List.mem_append, List.mem_append] at mem
  obtain (query | configuration) | operation := mem
  · exact queryOwners_judge own query
  · exact configurationOwners_judge own configuration
  · exact operationOwners_judge own operation

/-- A request that the Link or its owner refuses leaves the state and sends the status alone (R175). -/
theorem handleRequest_judges {own : Owner} (mem : own ∈ requestOwners) (ln : LinkLine) (body : List Byte) (s : State) :
    AcceptsOrRefuses s (handleRequest own ln body s) := by
  unfold handleRequest; split
  · exact .refused _
  · exact requestOwners_judge own mem body s

/-! ### An index or a code out of range in an operation -/

theorem indexOf_enc1 {n x : Nat} (byte : x < 256) (high : n ≤ x) (rest : List Byte) : indexOf n (u8At (enc1 x ++ rest) 0) = .none := by
  rw [u8At_enc1_zero, Nat.mod_eq_of_lt byte, indexOf_none high]

theorem serviceStateOf_none {x : Nat} (bad : x < 2 ∨ 4 < x) : serviceStateOf x = .none := by
  unfold serviceStateOf; split
  · omega
  · omega
  · omega
  · rfl

theorem trainModeOf_none {x : Nat} (bad : 3 ≤ x) : trainModeOf x = .none := by
  obtain ⟨k, rfl⟩ := Nat.exists_eq_add_of_le' bad; rfl

theorem settingOf_none {x : Nat} (bad : 2 ≤ x) : settingOf x = .none := by
  obtain ⟨k, rfl⟩ := Nat.exists_eq_add_of_le' bad; rfl

theorem arbiterModeOf_none {x : Nat} (bad : 2 ≤ x) : arbiterModeOf x = .none := by
  obtain ⟨k, rfl⟩ := Nat.exists_eq_add_of_le' bad; rfl

theorem watersOf_none {x : Nat} (bad : 2 ≤ x) : watersOf x = .none := by
  obtain ⟨k, rfl⟩ := Nat.exists_eq_add_of_le' bad; rfl

/-- An owner refuses every body whose first byte is no index of its `n` objects. -/
def Owner.Indexes (own : Owner) (n : Nat) : Prop :=
  ∀ body s, indexOf n (u8At body 0) = .none → own.run body s = refuse .badIndex s

theorem tankOwners_index : ownSeedTank.Indexes 12 ∧ ownReseedTank.Indexes 12 ∧ ownTankService.Indexes 12 ∧
    ownStartTransfer.Indexes 12 ∧ ownStartShoreFill.Indexes 12 := by
  refine ⟨fun body s h => ?_, fun body s h => ?_, fun body s h => ?_, fun body s h => ?_, fun body s h => ?_⟩
  · simp only [ownSeedTank, runSeedTank, h]
  · simp only [ownReseedTank, runReseedTank, h]
  · simp only [ownTankService, runTankService, h]
  · simp only [ownStartTransfer, runStartTransfer, h]
  · simp only [ownStartShoreFill, runStartShoreFill, h]

theorem startTransfer_secondIndex {body : List Byte} (h : indexOf 12 (u8At body 1) = .none) (s : State) :
    ownStartTransfer.run body s = refuse .badIndex s := by
  simp only [ownStartTransfer, runStartTransfer, h]
  cases indexOf 12 (u8At body 0) <;> rfl

theorem lineOwners_index : ownDraw.Indexes 16 ∧ ownCancelDraw.Indexes 16 ∧ ownSetRotation.Indexes 16 ∧ ownResetLine.Indexes 16 := by
  refine ⟨fun body s h => ?_, fun body s h => ?_, fun body s h => ?_, fun body s h => ?_⟩
  · simp only [ownDraw, runDraw, h]
  · simp only [ownCancelDraw, runCancelDraw, h]
  · simp only [ownSetRotation, runSetRotation, h]
  · simp only [ownResetLine, runResetLine, h]

theorem endDraw_index {body : List Byte} (specific : u8At body 0 ≠ 0xFF) (h : indexOf 16 (u8At body 0) = .none) (s : State) :
    ownEndDraw.run body s = refuse .badIndex s := by
  simp only [ownEndDraw, runEndDraw, if_neg specific, h]

theorem trainOwners_index : ownTrainMode.Indexes 3 ∧ ownStartTrain.Indexes 3 ∧ ownStopTrain.Indexes 3 ∧ ownFlushTrain.Indexes 3 ∧
    ownResetTrain.Indexes 3 := by
  refine ⟨fun body s h => ?_, fun body s h => ?_, fun body s h => ?_, fun body s h => ?_, fun body s h => ?_⟩
  · simp only [ownTrainMode, runTrainMode, h]
  · simp only [ownStartTrain, runStartTrain, h]
  · simp only [ownStopTrain, runStopTrain, h]
  · simp only [ownFlushTrain, runFlushTrain, h]
  · simp only [ownResetTrain, runResetTrain, h]

theorem setOwners_index : ownPressureSetService.Indexes 2 ∧ ownResetPressureSet.Indexes 2 := by
  refine ⟨fun body s h => ?_, fun body s h => ?_⟩
  · simp only [ownPressureSetService, runPressureSetService, h]
  · simp only [ownResetPressureSet, runResetPressureSet, h]

section
variable {ln : LinkLine} {s : State} (control : InControl ln s) (tag : Byte) {x : Nat} (byte : x < 256)
include control byte

/-- An operation whose first byte is no index of its owner's objects is refused BAD_INDEX. -/
theorem operation_badIndex {own : Owner} {n : Nat} (index : own.Indexes n) (high : n ≤ x)
    (operation : own.class_ = .operation) {rest : List Byte} (length : own.lengthOk (enc1 x ++ rest) = true) :
    done (takeRequest own ln tag (enc1 x ++ rest) s) = .next (answeredBy ln own.kind tag (takeLine ln s, ⟨.badIndex, []⟩)) :=
  operation_outcome control operation length (index _ _ (indexOf_enc1 byte high rest))

end

section
variable {x : Nat} (byte : x < 256) (s : State)
include byte

theorem trainMode_badMode (n : Fin 3) (bad : 3 ≤ x) : ownTrainMode.run (enc1 n.val ++ enc1 x) s = refuse .badValue s := by
  have mode : u8At (enc1 n.val ++ enc1 x) 1 = x := (u8At_enc1_succ n.val 0 _).trans (u8At_enc1 byte)
  simp only [ownTrainMode, runTrainMode, u8At_enc1_zero, train_byte, indexOf_val, mode, trainModeOf_none bad]

theorem pressureSetService_badSetting (n : Fin 2) (bad : 2 ≤ x) :
    ownPressureSetService.run (enc1 n.val ++ enc1 x) s = refuse .badValue s := by
  have setting : u8At (enc1 n.val ++ enc1 x) 1 = x := (u8At_enc1_succ n.val 0 _).trans (u8At_enc1 byte)
  simp only [ownPressureSetService, runPressureSetService, u8At_enc1_zero, set_byte, indexOf_val, setting, settingOf_none bad]

theorem tankService_badState (t : Fin 12) (bad : x < 2 ∨ 4 < x) : ownTankService.run (enc1 t.val ++ enc1 x) s = refuse .badValue s := by
  have wanted : u8At (enc1 t.val ++ enc1 x) 1 = x := (u8At_enc1_succ t.val 0 _).trans (u8At_enc1 byte)
  simp only [ownTankService, runTankService, u8At_enc1_zero, tank_byte, indexOf_val, wanted, serviceStateOf_none bad]

theorem maskLines_badSetting (word : Nat) (bad : 2 ≤ x) : ownMaskLines.run (enc2 word ++ enc1 x) s = refuse .badValue s := by
  have setting : u8At (enc2 word ++ enc1 x) 2 = x := (u8At_enc2_succ word 0 _).trans (u8At_enc1 byte)
  simp only [ownMaskLines, runMaskLines, setting, settingOf_none bad]

theorem arbiterMode_badMode (bad : 2 ≤ x) : ownArbiterMode.run (enc1 x) s = refuse .badValue s := by
  simp only [ownArbiterMode, runArbiterMode, u8At_enc1 byte, arbiterModeOf_none bad]

theorem setWaters_badSetting (bad : 2 ≤ x) : ownSetWaters.run (enc1 x) s = refuse .badValue s := by
  simp only [ownSetWaters, runSetWaters, u8At_enc1 byte, watersOf_none bad]

end

end Sys2Proof.Machine
end


section
/-!
The refusals of the configuration kinds but DEFINE LINES (R5, R39, R46, R50, R73, R75, R76, R84, R133, R155): the index, the codes, the
values and the definitions that each owner refuses, in the order of its checks.
-/

namespace Sys2Proof.Machine

/-! ### Tables of checks -/

/-- The first failing row of a table lies among rows of one status. -/
theorem checked_fail_among {table : List (Bool × Status)} {st : Status} (same : ∀ row ∈ table, row.2 = st)
    (fails : ∃ row ∈ table, row.1 = false) (rest : List (Bool × Status)) (s : State) (go : State × Reply) :
    checked (table ++ rest) s go = refuse st s := by
  induction table with
  | nil => obtain ⟨_, mem, _⟩ := fails; cases mem
  | cons row table ih =>
    obtain ⟨b, status⟩ := row
    obtain ⟨rfl, same⟩ := List.forall_mem_cons.mp same
    cases b with
    | false => exact checked_fail rfl _ _ _ _
    | true =>
      obtain ⟨row, mem, fails⟩ := fails
      obtain rfl | later := List.mem_cons.mp mem
      · cases fails
      · exact (checked_pass rfl _ _ _ _).trans (ih same ⟨row, later, fails⟩)

/-! ### Indices out of range -/

theorem configurationOwners_index : ownDefineTank.Indexes 12 ∧ ownLoadStrapping.Indexes 12 ∧ ownDefineMeter.Indexes 24 ∧
    ownDefineFrequencyInput.Indexes 16 ∧ ownDefineGroup.Indexes 6 ∧ ownDefineTrain.Indexes 3 := by
  refine ⟨fun body s h => ?_, fun body s h => ?_, fun body s h => ?_, fun body s h => ?_, fun body s h => ?_, fun body s h => ?_⟩
  · simp only [ownDefineTank, runDefineTank, h]
  · simp only [ownLoadStrapping, runLoadStrapping, h]
  · simp only [ownDefineMeter, runDefineMeter, h]
  · simp only [ownDefineFrequencyInput, runDefineFrequencyInput, h]
  · simp only [ownDefineGroup, runDefineGroup, h]
  · simp only [ownDefineTrain, runDefineTrain, h]

/-- A definition whose first byte is no index of its owner's objects is refused BAD_INDEX. -/
theorem configuration_badIndex {ln : LinkLine} {s : State} (may : MayDefine ln s) (tag : Byte) {x : Nat} (byte : x < 256) {own : Owner}
    {n : Nat} (index : own.Indexes n) (high : n ≤ x) (configuration : own.class_ = .configuration) {rest : List Byte}
    (length : own.lengthOk (enc1 x ++ rest) = true) :
    done (takeRequest own ln tag (enc1 x ++ rest) s) = .next (answeredBy ln own.kind tag (takeLine ln s, ⟨.badIndex, []⟩)) :=
  configuration_outcome may configuration length (index _ _ (indexOf_enc1 byte high rest))

theorem bodyLength_enc1 {n : Nat} {rest : List Byte} (h : rest.length = n) (x : Nat) : bodyLength (n + 1) (enc1 x ++ rest) = true := by
  rw [bodyLength, beq_iff_eq, List.length_append, h, Nat.add_comm]; rfl

theorem loadStrapping_length {x count : Nat} {rest : List Byte} (byte : count < 256) (h : rest.length = 4 * count) :
    ownLoadStrapping.lengthOk (enc1 x ++ (enc1 count ++ rest)) = true := by
  rw [loadStrapping_lengthOk]
  exact ⟨_, _, rest, rfl, by rw [h, BitVec.toNat_ofNat, Nat.mod_eq_of_lt byte]⟩

/-! ### DEFINE TANK (R5) -/

/-- The bytes of a DEFINE TANK whose codes name any side and any start state. -/
def tankBytes (t : Fin 12) (label : List Byte) (side capacity : Nat) (marks : List Byte) (start : Nat) : List Byte :=
  enc1 t.val ++ label ++ enc1 side ++ enc2 capacity ++ marks ++ enc1 start

section
variable {t : Fin 12} {label marks : List Byte} {side capacity start : Nat} (eight : label.length = 8)
include eight

theorem tankBytes_fields (marksEight : marks.length = 8) :
    u8At (tankBytes t label side capacity marks start) 0 = t.val ∧
      u8At (tankBytes t label side capacity marks start) 9 = side % 256 ∧
      u16At (tankBytes t label side capacity marks start) 10 = capacity % 65536 ∧
      u8At (tankBytes t label side capacity marks start) 20 = start % 256 := by
  have front : (enc1 t.val ++ label).length = 9 := by simp [eight]
  have whole : (enc1 t.val ++ label ++ enc1 side ++ enc2 capacity ++ marks).length = 20 := by simp [eight, marksEight]
  have body : tankBytes t label side capacity marks start =
      (enc1 t.val ++ label) ++ (enc1 side ++ (enc2 capacity ++ (marks ++ enc1 start))) := by simp only [tankBytes, List.append_assoc]
  refine ⟨by simp [tankBytes], ?_, ?_, ?_⟩
  · rw [body]; exact (u8At_append_right front _ 0).trans (by simp)
  · rw [body]; exact (u16At_append_right front _ 1).trans (by simp)
  · exact (u8At_append_right whole _ 0).trans (by simp)

theorem defineTank_lengthOk (marksEight : marks.length = 8) :
    ownDefineTank.lengthOk (tankBytes t label side capacity marks start) = true := by
  simp [ownDefineTank, bodyLength, tankBytes, eight, marksEight]

end

theorem sideOf_none {x : Nat} (bad : 3 ≤ x) : sideOf x = none := by
  obtain ⟨k, rfl⟩ := Nat.exists_eq_add_of_le' bad; rfl

theorem tankDefOf_none {body : List Byte} (bad : sideOf (u8At body 9) = none ∨ serviceStateOf (u8At body 20) = none) (k : Tank) :
    tankDefOf body k = none := by
  obtain side | start := bad
  · simp only [tankDefOf, side]
  · simp only [tankDefOf, start]; cases sideOf (u8At body 9) <;> rfl

theorem defineTank_notRead {t : Fin 12} {body : List Byte} {s : State} (nonzero : u16At body 10 ≠ 0)
    (notRead : tankDefOf body s.tanks[t] = none) : defineTank t body s = refuse .badValue s := by
  simp only [defineTank, if_neg nonzero, notRead]

theorem defineTank_badCode {t : Fin 12} {label marks : List Byte} {side capacity start : Nat} (eight : label.length = 8)
    (marksEight : marks.length = 8) (sideByte : side < 256) (startByte : start < 256) (positive : 0 < capacity)
    (word : capacity < 65536) (bad : 3 ≤ side ∨ start < 2 ∨ 4 < start) (s : State) :
    ownDefineTank.run (tankBytes t label side capacity marks start) s = refuse .badValue s := by
  obtain ⟨index, hside, hcap, hstart⟩ := tankBytes_fields (t := t) (side := side) (capacity := capacity) (start := start) eight marksEight
  rw [Nat.mod_eq_of_lt sideByte] at hside
  rw [Nat.mod_eq_of_lt word] at hcap
  rw [Nat.mod_eq_of_lt startByte] at hstart
  simp only [ownDefineTank, runDefineTank, index, indexOf_val]
  refine defineTank_notRead (by rw [hcap]; exact positive.ne') (tankDefOf_none ?_ _)
  rw [hside, hstart]
  exact bad.imp sideOf_none serviceStateOf_none

theorem defineTank_removal_busy {t : Fin 12} {label marks : List Byte} {s : State} (eight : label.length = 8) (marksEight : marks.length = 8)
    (role : s.tanks[t].holdsRole = true) (side start : Nat) :
    ownDefineTank.run (tankBytes t label side 0 marks start) s = refuse .busy s := by
  obtain ⟨index, -, hcap, -⟩ := tankBytes_fields (t := t) (side := side) (capacity := 0) (start := start) eight marksEight
  simp only [ownDefineTank, runDefineTank, index, indexOf_val, defineTank, hcap, Nat.zero_mod, if_true]
  exact checked_fail (by rw [role]; rfl) _ _ _ _

section
variable {t : Fin 12} {d : TankDef} (eight : d.tag.length = 8) (capacity : d.capacity < 65536)
  (lowMark : d.lowMark < 65536) (fillStop : d.fillStop < 65536) (tolerance : d.tolerance < 65536) (quiet : d.quietTime < 65536)
  (positive : 0 < d.capacity) {s : State}
include eight capacity lowMark fillStop tolerance quiet positive

theorem defineTank_unsound (unsound : d.inOrder s.tanks[t] = false) : defineTank t (tankBody t d) s = refuse .badValue s := by
  obtain ⟨-, -, hcap, -⟩ := tankBody_fields (t := t) eight
  rw [Nat.mod_eq_of_lt capacity] at hcap
  refine defineTank_notRead (by rw [hcap]; exact positive.ne') ?_
  rw [tankDefOf_tankBody _ eight capacity lowMark fillStop tolerance quiet, unsound]; rfl

theorem defineTank_busy (sound : d.inOrder s.tanks[t] = true) (role : s.tanks[t].holdsRole = true) :
    defineTank t (tankBody t d) s = refuse .busy s := by
  obtain ⟨-, -, hcap, -⟩ := tankBody_fields (t := t) eight
  rw [Nat.mod_eq_of_lt capacity] at hcap
  have read := tankDefOf_tankBody (t := t) s.tanks[t] eight capacity lowMark fillStop tolerance quiet
  rw [if_pos sound] at read
  simp only [defineTank, hcap, if_neg positive.ne', read]
  exact checked_fail (by rw [role]; rfl) _ _ _ _

end

/-! ### LOAD STRAPPING (R50) -/

theorem volume_le_lastVolume : ∀ {points : List StrapPoint}, pointsRise points = true → ∀ p ∈ points, p.volume ≤ lastVolume points
  | [_], _, _, mem => by rw [List.mem_singleton.mp mem]; exact le_rfl
  | p :: q :: rest, rises, r, mem => by
    have last : lastVolume (p :: q :: rest) = lastVolume (q :: rest) := rfl
    obtain ⟨above, later⟩ := List.pairwise_cons.mp (pointsRise_iff.mp rises)
    have rest := volume_le_lastVolume (pointsRise_iff.mpr later)
    rw [last]
    obtain rfl | mem := List.mem_cons.mp mem
    · exact (above q List.mem_cons_self).2.trans (rest q List.mem_cons_self)
    · exact rest r mem

section
variable {t : Fin 12} {points : List StrapPoint} (short : points.length < 256)
  (words : ∀ p ∈ points, p.head < 65536 ∧ p.volume < 65536) {s : State}
include short words

theorem loadStrapping_checks : ownLoadStrapping.run (strappingBody t points) s =
    checked (strappingChecks s.tanks[t] points) s (okReply (loadStrapping t points s)) :=
  runLoadStrapping_strappingBody t short (fun p mem => (words p mem).1) (fun p mem => (words p mem).2) s

theorem loadStrapping_undefined (undefined : s.tanks[t].state = .unconfigured) :
    ownLoadStrapping.run (strappingBody t points) s = refuse .notConfigured s := by
  rw [loadStrapping_checks short words]
  exact checked_fail (Tank.defined_eq_false_iff.mpr undefined) _ _ _ _

variable (defined : s.tanks[t].state ≠ .unconfigured)
include defined

theorem loadStrapping_unsound (bad : points.length = 1 ∨ 12 < points.length ∨ (∃ p ∈ points, 4000 < p.head) ∨
      ¬ points.Pairwise (fun p q => p.head < q.head ∧ p.volume ≤ q.volume) ∨ ∃ p ∈ points, s.tanks[t].defn.capacity < p.volume) :
    ownLoadStrapping.run (strappingBody t points) s = refuse .badValue s := by
  rw [loadStrapping_checks short words]
  refine (checked_pass (Tank.defined_iff.mpr defined) _ _ _ _).trans
    (checked_fail_among (table := (strappingChecks s.tanks[t] points).tail.take 4) ?_ ?_ _ _ _)
  · simp [strappingChecks]
  · by_contra passes
    simp only [strappingChecks, List.tail_cons, List.take_succ_cons, List.take_zero, List.mem_cons, List.not_mem_nil, or_false,
      not_exists, not_and, forall_eq_or_imp, forall_eq, Bool.not_eq_false, Bool.or_eq_true, beq_iff_eq, inRange_eq_true_iff,
      List.all_eq_true, decide_eq_true_eq] at passes
    obtain ⟨count, heads, rises, last⟩ := passes
    obtain one | many | ⟨p, mem, high⟩ | notRising | ⟨p, mem, high⟩ := bad
    · omega
    · omega
    · exact absurd (heads p mem) (by omega)
    · exact notRising (pointsRise_iff.mp rises)
    · exact absurd ((volume_le_lastVolume rises p mem).trans last) (by omega)

theorem loadStrapping_busy (notOne : points.length ≠ 1) (most : points.length ≤ 12) (heads : ∀ p ∈ points, p.head ≤ 4000)
    (volumes : ∀ p ∈ points, p.volume ≤ s.tanks[t].defn.capacity)
    (rise : points.Pairwise fun p q => p.head < q.head ∧ p.volume ≤ q.volume) (role : s.tanks[t].holdsRole = true) :
    ownLoadStrapping.run (strappingBody t points) s = refuse .busy s := by
  rw [loadStrapping_checks short words, strappingChecks, checked_pass (Tank.defined_iff.mpr defined), checked_pass, checked_pass,
    checked_pass (pointsRise_iff.mpr rise), checked_pass, checked_fail (by rw [role]; rfl)]
  · rw [decide_eq_true_eq]; exact getLast_le_of_pairwise volumes
  · simpa using heads
  · simp only [Bool.or_eq_true, beq_iff_eq, inRange_eq_true_iff]; omega

end

/-! ### DEFINE METER (R39) -/

/-- The bytes of a DEFINE METER whose codes name any mode and any role. -/
def meterBytes (m : Fin 24) (mode k kind index : Nat) : List Byte :=
  enc1 m.val ++ enc1 mode ++ enc2 k ++ enc1 kind ++ enc1 index

theorem meterBytes_fields (m : Fin 24) {mode k kind index : Nat} (modeByte : mode < 256) (word : k < 65536) (kindByte : kind < 256)
    (indexByte : index < 256) : u8At (meterBytes m mode k kind index) 0 = m.val ∧ u8At (meterBytes m mode k kind index) 1 = mode ∧
      u16At (meterBytes m mode k kind index) 2 = k ∧ u8At (meterBytes m mode k kind index) 4 = kind ∧
      u8At (meterBytes m mode k kind index) 5 = index := by
  simp [meterBytes, Nat.mod_eq_of_lt modeByte, Nat.mod_eq_of_lt word, Nat.mod_eq_of_lt kindByte, Nat.mod_eq_of_lt indexByte]

theorem runDefineMeter_checks (m : Fin 24) {d : MeterDef} (word : d.kFactor < 65536) (s : State) : runDefineMeter (meterBody m d) s =
    if d.kFactor = 0 then removeMeter m s
    else if 1000 < d.kFactor then refuse .badValue s
    else checked (meterChecks s m d.role) s (okReply (applyMeterDef m (some d) s)) := by
  obtain ⟨-, mode, kFactor, kind, index⟩ := meterBody_fields m d
  rw [Nat.mod_eq_of_lt word] at kFactor
  rw [runDefineMeter_meterBody]
  simp only [defineMeter, mode, kFactor, kind, index, meterModeOf_code, meterRoleOf_code]

theorem meterModeOf_none {x : Nat} (bad : 3 ≤ x) : meterModeOf x = none := by
  obtain ⟨k, rfl⟩ := Nat.exists_eq_add_of_le' bad; rfl

theorem meterModeOf_some {x : Nat} (good : x < 3) : ∃ mode, meterModeOf x = some mode := by
  interval_cases x <;> exact ⟨_, rfl⟩

theorem meterRoleOf_badValue {kind : Nat} (bad : 6 ≤ kind) (index : Nat) : meterRoleOf kind index = .error .badValue := by
  obtain ⟨k, rfl⟩ := Nat.exists_eq_add_of_le' bad; rfl

theorem meterRoleOf_badIndex {kind index : Nat} (bad : kind = 2 ∧ 3 ≤ index ∨ kind = 5 ∧ 16 ≤ index) :
    meterRoleOf kind index = .error .badIndex := by
  obtain ⟨rfl, high⟩ | ⟨rfl, high⟩ := bad
  · simp only [meterRoleOf, indexOf_none high]
  · simp only [meterRoleOf, indexOf_none high]

section
variable (m : Fin 24) {mode k kind index : Nat} (low : 1 ≤ k) (high : k ≤ 1000) (modeByte : mode < 256) (kindByte : kind < 256)
  (indexByte : index < 256) (s : State)
include low high modeByte kindByte indexByte

theorem defineMeter_badCode (bad : 3 ≤ mode ∨ 6 ≤ kind) : ownDefineMeter.run (meterBytes m mode k kind index) s = refuse .badValue s := by
  obtain ⟨hm, hmode, hk, hkind, hindex⟩ := meterBytes_fields m modeByte (show k < 65536 by omega) kindByte indexByte
  simp only [ownDefineMeter, runDefineMeter, hm, indexOf_val, defineMeter, hmode, hk, hkind, hindex, if_neg (show ¬ k = 0 by omega),
    if_neg (show ¬ 1000 < k by omega)]
  obtain badMode | badKind := bad
  · rw [meterModeOf_none badMode]
  · rw [meterRoleOf_badValue badKind]; cases meterModeOf mode <;> rfl

theorem defineMeter_badIndex (goodMode : mode < 3) (bad : kind = 2 ∧ 3 ≤ index ∨ kind = 5 ∧ 16 ≤ index) :
    ownDefineMeter.run (meterBytes m mode k kind index) s = refuse .badIndex s := by
  obtain ⟨hm, hmode, hk, hkind, hindex⟩ := meterBytes_fields m modeByte (show k < 65536 by omega) kindByte indexByte
  obtain ⟨counted, named⟩ := meterModeOf_some goodMode
  simp only [ownDefineMeter, runDefineMeter, hm, indexOf_val, defineMeter, hmode, hk, hkind, hindex, if_neg (show ¬ k = 0 by omega),
    if_neg (show ¬ 1000 < k by omega), named, meterRoleOf_badIndex bad]

end

section
variable {m : Fin 24} {d : MeterDef} (word : d.kFactor < 65536) {s : State}
include word

theorem defineMeter_highFactor (high : 1000 < d.kFactor) : runDefineMeter (meterBody m d) s = refuse .badValue s := by
  rw [runDefineMeter_checks m word, if_neg (show ¬ d.kFactor = 0 by omega), if_pos high]

theorem defineMeter_taken (low : 1 ≤ d.kFactor) (high : d.kFactor ≤ 1000) (taken : roleTaken s m d.role = true) :
    runDefineMeter (meterBody m d) s = refuse .badValue s := by
  rw [runDefineMeter_checks m word, if_neg (show ¬ d.kFactor = 0 by omega), if_neg (show ¬ 1000 < d.kFactor by omega), meterChecks,
    checked_fail (by rw [taken]; rfl)]

theorem defineMeter_busy (low : 1 ≤ d.kFactor) (high : d.kFactor ≤ 1000) (free : roleTaken s m d.role = false)
    (busy : roleBusy s.meters[m].defn.role s = true ∨ roleBusy d.role s = true) :
    runDefineMeter (meterBody m d) s = refuse .busy s := by
  rw [runDefineMeter_checks m word, if_neg (show ¬ d.kFactor = 0 by omega), if_neg (show ¬ 1000 < d.kFactor by omega), meterChecks,
    checked_pass (by rw [free]; rfl)]
  refine checked_fail_among (table := [(_, .busy), (_, .busy)]) ?_ ?_ [] _ _
  · simp
  · obtain old | new := busy
    · exact ⟨_, List.mem_cons_self, by rw [old]; rfl⟩
    · exact ⟨_, List.mem_cons_of_mem _ List.mem_cons_self, by rw [new]; rfl⟩

theorem defineMeter_removal_busy (removal : d.kFactor = 0) (busy : roleBusy s.meters[m].defn.role s = true) :
    runDefineMeter (meterBody m d) s = refuse .busy s := by
  rw [runDefineMeter_checks m word, if_pos removal, removeMeter, checked_fail (by rw [busy]; rfl)]

end

/-! ### DEFINE FREQUENCY INPUT (R46) -/

theorem inputRoleOf_badValue {kind : Nat} (bad : 4 ≤ kind) (target : Nat) : inputRoleOf kind target = .error .badValue := by
  obtain ⟨k, rfl⟩ := Nat.exists_eq_add_of_le' bad; rfl

theorem inputRoleOf_badIndex {kind target : Nat} (bad : kind = 2 ∧ 12 ≤ target ∨ kind = 3 ∧ 3 ≤ target) :
    inputRoleOf kind target = .error .badIndex := by
  obtain ⟨rfl, high⟩ | ⟨rfl, high⟩ := bad
  · simp only [inputRoleOf, indexOf_none high]
  · simp only [inputRoleOf, indexOf_none high]

theorem defineInput_badRole (i : Fin 16) {kind target : Nat} (kindByte : kind < 256) (targetByte : target < 256) {st : Status}
    (bad : inputRoleOf kind target = .error st) (s : State) :
    ownDefineFrequencyInput.run (enc1 i.val ++ enc1 kind ++ enc1 target) s = refuse st s := by
  have fields : u8At (enc1 i.val ++ enc1 kind ++ enc1 target) 0 = i.val ∧ u8At (enc1 i.val ++ enc1 kind ++ enc1 target) 1 = kind ∧
      u8At (enc1 i.val ++ enc1 kind ++ enc1 target) 2 = target := by
    simp [Nat.mod_eq_of_lt kindByte, Nat.mod_eq_of_lt targetByte]
  obtain ⟨hi, hkind, htarget⟩ := fields
  simp only [ownDefineFrequencyInput, runDefineFrequencyInput, hi, indexOf_val, defineInput, hkind, htarget, bad]

/-! ### The settings of the evaluator (R73, R75, R76) -/

theorem bandsOk_eq_false {bands : List Nat} {h limit : Nat}
    (bad : (∃ x ∈ bands, 1000 < x) ∨ limit < h ∨ ¬ bands.Pairwise fun a b => b ≤ a) : bandsOk bands h limit = false := by
  rw [← Bool.not_eq_true, bandsOk_iff]
  rintro ⟨small, within, falls⟩
  obtain ⟨x, mem, high⟩ | above | rises := bad
  · exact absurd (small x mem) (by omega)
  · omega
  · exact rises falls

theorem setBalance_unsound {band limit : Nat} (bandWord : band < 65536) (limitWord : limit < 65536)
    (bad : 20000 < band ∨ (1 ≤ limit ∧ limit < 501) ∨ 30000 < limit ∨ (limit ≠ 0 ∧ limit ≤ band)) (period : Nat) (s : State) :
    ownSetBalance.run (enc2 band ++ enc2 limit ++ enc2 period) s = refuse .badValue s := by
  have hband : u16At (enc2 band ++ enc2 limit ++ enc2 period) 0 = band := by simp [Nat.mod_eq_of_lt bandWord]
  have hlimit : u16At (enc2 band ++ enc2 limit ++ enc2 period) 2 = limit := by simp [Nat.mod_eq_of_lt limitWord]
  have unsound : balanceOk band limit = false := by
    rw [← Bool.not_eq_true]
    simp only [balanceOk, Bool.and_eq_true, Bool.or_eq_true, decide_eq_true_eq, beq_iff_eq, inRange_eq_true_iff]; omega
  simp only [ownSetBalance, runSetBalance, hband, hlimit]
  exact checked_fail unsound _ _ _ _

/-! ### DEFINE TRAIN (R155) -/

theorem defineTrain_badValue {n : Fin 3} {d : TrainDef} (power : d.ratedPower < 256) (salt : d.salinityLimit < 65536)
    (flush : d.flushVolume < 65536) (bad : 80 < d.ratedPower ∨ d.salinityLimit < 50 ∨ 2000 < d.salinityLimit ∨ d.flushVolume < 20 ∨
      1000 < d.flushVolume) (last : Nat) (s : State) : ownDefineTrain.run (trainBytes n d last) s = refuse .badValue s := by
  have unsound : trainValuesOk (trainBytes n d last) = false := by
    rw [← Bool.not_eq_true, trainValuesOk_trainBytes n last power salt flush]; omega
  simp only [ownDefineTrain, runDefineTrain, trainBytes_index, indexOf_val, defineTrain, unsound, Bool.not_false, if_true]

theorem defineTrain_badLine {n : Fin 3} {d : TrainDef} (power : d.ratedPower ≤ 80) (lowSalt : 50 ≤ d.salinityLimit)
    (highSalt : d.salinityLimit ≤ 2000) (lowFlush : 20 ≤ d.flushVolume) (highFlush : d.flushVolume ≤ 1000) {x : Nat} (byte : x < 256)
    (high : 16 ≤ x) (s : State) : ownDefineTrain.run (trainBytes n d x) s = refuse .badIndex s := by
  have sound : trainValuesOk (trainBytes n d x) = true :=
    (trainValuesOk_trainBytes n x (by omega) (by omega) (by omega)).mpr ⟨power, lowSalt, highSalt, lowFlush, highFlush⟩
  simp only [ownDefineTrain, runDefineTrain, trainBytes_index, indexOf_val, defineTrain, sound, Bool.not_true, Bool.false_eq_true,
    if_false, trainBytes_line n d byte, indexOf_none high]

theorem defineTrain_lengthOk (n : Fin 3) (d : TrainDef) (x : Nat) : ownDefineTrain.lengthOk (trainBytes n d x) = true := by
  simp only [ownDefineTrain, bodyLength, trainBytes, List.length_append, flatMap_enc2_length, trainTimes, enc1_length]; rfl

/-! ### DEFINE SETS (R133) -/

theorem defineSets_badValue {a b : SetDef} {r : SetSettings} {hold : Nat} (capA : a.capacity < 65536) (capB : b.capacity < 65536)
    (reserve : r.reserve < 65536) (powerA : a.ratedPower < 256) (powerB : b.ratedPower < 256)
    (bad : 600 < a.capacity ∨ 600 < b.capacity ∨ 250 < a.ratedPower ∨ 250 < b.ratedPower ∨ 600 < r.reserve) (s : State) :
    ownDefineSets.run (setsBody a b r hold) s = refuse .badValue s := by
  obtain ⟨hcapA, hpowerA, hcapB, hpowerB, hreserve, -⟩ := setsBody_fields (a := a) (b := b) (r := r) (hold := hold)
  rw [Nat.mod_eq_of_lt (by assumption)] at hcapA hpowerA hcapB hpowerB hreserve
  have first : setDefOf (setsBody a b r hold) 0 = a := by rw [setDefOf, if_pos rfl, hcapA, hpowerA]
  have second : setDefOf (setsBody a b r hold) 1 = b := by rw [setDefOf, if_neg (by decide), hcapB, hpowerB]
  refine checked_fail_among (table := (setsChecks s (setsBody a b r hold)).take 3) ?_ ?_ _ _ _
  · simp [setsChecks]
  · by_contra passes
    simp only [setsChecks, allSets_eq, List.all_cons, List.all_nil, Bool.and_true, first, second, hreserve, List.take_succ_cons,
      List.take_zero, List.mem_cons, List.not_mem_nil, or_false, not_exists, not_and, forall_eq_or_imp, forall_eq, Bool.not_eq_false,
      Bool.and_eq_true, decide_eq_true_eq] at passes
    omega

end Sys2Proof.Machine
end


section
/-!
The refusals of DEFINE LINES (R85), and O11: what every refusal leaves unchanged (R174, R175).
-/

namespace Sys2Proof.Machine

/-! ### DEFINE LINES (R85) -/

/-- The bytes of a DEFINE LINES that lists any bytes as its lines. -/
def listedBody (listed rest : List Byte) : List Byte := enc1 listed.length ++ listed ++ rest

section
variable {listed rest : List Byte}

theorem listedBody_rest (i : Nat) : u8At (listedBody listed rest) (1 + listed.length + i) = u8At rest i := by
  rw [listedBody, Nat.add_comm (1 + listed.length) i]
  exact u8At_append_right (by rw [List.length_append, enc1_length]) _ i

variable (short : listed.length < 256)
include short

theorem listedBody_count : u8At (listedBody listed rest) 0 = listed.length := by
  simp [listedBody, Nat.mod_eq_of_lt short]

theorem listedLines_listedBody : listedLines (listedBody listed rest) = listed.map BitVec.toNat := by
  apply List.ext_getElem
  · simp [listedLines, listedBody_count short]
  · intro i hi hj
    have place : i < listed.length := by simpa using hj
    simp only [listedLines, List.getElem_map, List.getElem_range]
    rw [listedBody, List.append_assoc, Nat.add_comm 1 i, u8At_enc1_succ, u8At, List.getD_eq_getElem?_getD,
      List.getElem?_append_left place, List.getElem?_eq_getElem place, Option.getD_some]

theorem listedBody_lengthOk (twelve : rest.length = 12) : ownDefineLines.lengthOk (listedBody listed rest) = true := by
  rw [defineLines_lengthOk]
  refine ⟨BitVec.ofNat 8 listed.length, listed ++ rest, rfl, ?_⟩
  rw [List.length_append, twelve, BitVec.toNat_ofNat, Nat.mod_eq_of_lt short, Nat.add_comm]

variable (nonempty : listed ≠ [])
include nonempty

theorem defineLines_badIndex (bad : ∃ b ∈ listed, 16 ≤ b.toNat) (s : State) :
    runDefineLines (listedBody listed rest) s = refuse .badIndex s := by
  have outside : ((listed.map BitVec.toNat).any fun k => decide (15 < k)) = true := by
    obtain ⟨b, mem, high⟩ := bad
    exact List.any_eq_true.mpr ⟨_, List.mem_map_of_mem mem, decide_eq_true high⟩
  simp only [runDefineLines, listedBody_count short, List.length_eq_zero_iff, if_neg nonempty, listedLines_listedBody short, outside,
    if_true]

theorem defineLines_badDefinition {flow : Nat} {st : Status} (inRange : ∀ b ∈ listed, b.toNat < 16) (flowByte : u8At rest 1 = flow)
    (low : 1 ≤ flow) (high : flow ≤ 200) (bad : lineDefOf (listedBody listed rest) (1 + listed.length) = .error st) (s : State) :
    runDefineLines (listedBody listed rest) s = refuse st s := by
  have inside : ((listed.map BitVec.toNat).any fun k => decide (15 < k)) = false := by
    rw [List.any_eq_false]
    intro k mem
    obtain ⟨b, listed, rfl⟩ := List.mem_map.mp mem
    rw [decide_eq_true_eq]; have := inRange b listed; omega
  simp only [runDefineLines, listedBody_count short, List.length_eq_zero_iff, if_neg nonempty, listedLines_listedBody short, inside,
    Bool.false_eq_true, if_false, listedBody_rest, flowByte, if_neg (show ¬ flow = 0 by omega), if_neg (show ¬ 200 < flow by omega),
    defineLineSet, bad]

end

theorem lineDefOf_badGroup {body : List Byte} {o : Nat} (bad : indexOf 6 (u8At body o) = none) : lineDefOf body o = .error .badIndex := by
  simp only [lineDefOf, bad]

theorem lineDefOf_badSource {body : List Byte} {o : Nat} {st : Status} (group : u8At body o < 6)
    (bad : sourceOf (u8At body (o + 10)) (u8At body (o + 11)) = .error st) : lineDefOf body o = .error st := by
  have named : indexOf 6 (u8At body o) = some ⟨_, group⟩ := indexOf_val ⟨_, group⟩
  simp only [lineDefOf, named, bad]

theorem sourceOf_badValue {kind : Nat} (bad : 3 ≤ kind) (train : Nat) : sourceOf kind train = .error .badValue := by
  obtain ⟨k, rfl⟩ := Nat.exists_eq_add_of_le' bad; rfl

theorem sourceOf_badIndex {train : Nat} (bad : 3 ≤ train) : sourceOf 2 train = .error .badIndex := by
  simp only [sourceOf, indexOf_none bad]

/-- What a body of DEFINE LINES holds after its lines, its codes naming any group, source and train. -/
def lineCodes (group flow : Nat) (middle : List Byte) (kind train : Nat) : List Byte :=
  enc1 group ++ enc1 flow ++ middle ++ enc1 kind ++ enc1 train

theorem lineCodes_fields {group flow kind train : Nat} {middle : List Byte} (eight : middle.length = 8) (groupByte : group < 256)
    (flowByte : flow < 256) (kindByte : kind < 256) (trainByte : train < 256) :
    (lineCodes group flow middle kind train).length = 12 ∧ u8At (lineCodes group flow middle kind train) 0 = group ∧
      u8At (lineCodes group flow middle kind train) 1 = flow ∧ u8At (lineCodes group flow middle kind train) 10 = kind ∧
      u8At (lineCodes group flow middle kind train) 11 = train := by
  have front : (enc1 group ++ enc1 flow ++ middle).length = 10 := by simp [eight]
  have codes (i : Nat) : u8At (lineCodes group flow middle kind train) (i + 10) = u8At (enc1 kind ++ enc1 train) i := by
    rw [lineCodes, List.append_assoc]; exact u8At_append_right front _ i
  refine ⟨by simp [lineCodes, eight], ?_, ?_, ?_, ?_⟩
  · simp [lineCodes, Nat.mod_eq_of_lt groupByte]
  · simp [lineCodes, Nat.mod_eq_of_lt flowByte]
  · exact (codes 0).trans (by simp [Nat.mod_eq_of_lt kindByte])
  · exact (codes 1).trans (by simp [Nat.mod_eq_of_lt trainByte])

section
variable {ks : List (Fin 16)} {d : LineDef} {s : State}

theorem defineLines_noLine : runDefineLines (linesBody [] d) s = refuse .badValue s := by
  have count : u8At (linesBody [] d) 0 = 0 := linesBody_count (by decide)
  simp only [runDefineLines, count, if_true]

variable (nonempty : ks ≠ []) (short : ks.length < 256) (flowByte : d.flow < 256)
include nonempty short flowByte

theorem defineLines_highFlow (high : 200 < d.flow) : runDefineLines (linesBody ks d) s = refuse .badValue s := by
  rw [runDefineLines_linesBody nonempty short, Nat.mod_eq_of_lt flowByte, if_neg (by omega), if_pos high]

variable (low : 1 ≤ d.flow) (high : d.flow ≤ 200) (default : d.defaultBatch < 65536) (max : d.maxBatch < 65536)
include low high default max

theorem defineLines_badBatches (bad : d.batchesOk = false) : runDefineLines (linesBody ks d) s = refuse .badValue s := by
  rw [runDefineLines_linesBody nonempty short, Nat.mod_eq_of_lt flowByte, if_neg (by omega), if_neg (by omega), defineLineSet,
    lineDefOf_linesBody ks default max, bad]; rfl

variable (good : d.batchesOk = true)
include good

theorem defineLines_checks : ∃ go, runDefineLines (linesBody ks d) s =
    checked [(flushSourceOk s (allLines.filter fun k => decide (k ∈ ks)) d.source, .badValue),
      (linesFree s (allLines.filter fun k => decide (k ∈ ks)), .busy)] s go := by
  rw [runDefineLines_linesBody nonempty short, Nat.mod_eq_of_lt flowByte, if_neg (by omega), if_neg (by omega), defineLineSet,
    lineDefOf_linesBody ks default max, good]
  exact ⟨_, rfl⟩

theorem defineLines_badFlush (bad : flushSourceOk s (allLines.filter fun k => decide (k ∈ ks)) d.source = false) :
    runDefineLines (linesBody ks d) s = refuse .badValue s := by
  obtain ⟨go, checks⟩ := defineLines_checks (s := s) nonempty short flowByte low high default max good
  rw [checks, checked_fail bad]

theorem defineLines_busy (flush : flushSourceOk s (allLines.filter fun k => decide (k ∈ ks)) d.source = true)
    (held : ∃ k ∈ ks, s.lines[k].state.holdsDraw = true) : runDefineLines (linesBody ks d) s = refuse .busy s := by
  obtain ⟨go, checks⟩ := defineLines_checks (s := s) nonempty short flowByte low high default max good
  have busy : linesFree s (allLines.filter fun k => decide (k ∈ ks)) = false := by
    obtain ⟨k, mem, holds⟩ := held
    rw [← Bool.not_eq_true, linesFree_iff]
    intro free; rw [free k (mem_setOf.mpr mem)] at holds; cases holds
  rw [checks, checked_pass flush, checked_fail busy]

end

end Sys2Proof.Machine
end


section
/-!
O11: a refused request changes nothing and its reply carries the status alone (R174, R175).
-/

namespace Sys2Proof.Machine

/-- Settles O11: every owner accepts or refuses, and the listed requests fail the check that their status names. -/
theorem refusedRequestChangesNothing : Obligations.RefusedRequestChangesNothing := by
  refine ⟨fun own mem ln body s s' r handled notOk notAdjusted notNone => ?refusal,
    fun ln tag x y litres s refusedAs as control byte => ?operations, fun ln tag s refusedAs as may => ?configuration⟩
  case refusal =>
    have judged := handleRequest_judges mem ln body s
    rw [handled] at judged
    obtain ok | adjusted | none | ⟨st, refused⟩ := judged
    · exact absurd ok notOk
    · exact absurd adjusted notAdjusted
    · exact absurd none notNone
    · obtain ⟨rfl, rfl⟩ := Prod.mk.inj refused
      exact ⟨rfl, rfl⟩
  case operations =>
    simp only [as]
    obtain ⟨seed, reseed, service, transfer, shore⟩ := tankOwners_index
    obtain ⟨draw, cancel, rotation, resetLine⟩ := lineOwners_index
    obtain ⟨mode, start, stop, flush, resetTrain⟩ := trainOwners_index
    obtain ⟨setService, resetSet⟩ := setOwners_index
    have badIndex := @operation_badIndex ln s control tag x byte
    refine ⟨fun high => ⟨badIndex seed high rfl rfl, badIndex reseed high rfl (rest := []) rfl, badIndex service high rfl rfl,
        badIndex transfer high rfl (rest := enc1 y ++ enc2 litres) rfl, ?_, badIndex shore high rfl rfl⟩,
      fun high => ⟨badIndex draw high rfl rfl, badIndex cancel high rfl (rest := []) rfl, fun specific => ?_,
        badIndex rotation high rfl (rest := []) rfl, badIndex resetLine high rfl (rest := []) rfl⟩,
      fun high => ⟨badIndex mode high rfl rfl, badIndex start high rfl (rest := []) rfl, badIndex stop high rfl (rest := []) rfl,
        badIndex flush high rfl (rest := []) rfl, badIndex resetTrain high rfl (rest := []) rfl,
        fun n => operation_outcome (own := ownTrainMode) control rfl rfl (trainMode_badMode byte _ n high)⟩,
      fun high => ⟨badIndex setService high rfl rfl, badIndex resetSet high rfl (rest := []) rfl,
        fun n => operation_outcome (own := ownPressureSetService) control rfl rfl (pressureSetService_badSetting byte _ n high),
        operation_outcome (own := ownMaskLines) control rfl rfl (maskLines_badSetting byte _ litres high),
        operation_outcome (own := ownArbiterMode) control rfl rfl (arbiterMode_badMode byte _ high),
        operation_outcome (own := ownSetWaters) control rfl rfl (setWaters_badSetting byte _ high)⟩,
      fun t bad => operation_outcome (own := ownTankService) control rfl rfl (tankService_badState byte _ t bad)⟩
    · refine operation_outcome (own := ownStartTransfer) control rfl rfl (startTransfer_secondIndex ?_ _)
      rw [List.append_assoc, u8At_enc1_succ]; exact indexOf_enc1 byte high _
    · refine operation_outcome (own := ownEndDraw) control rfl rfl (endDraw_index ?_ ?_ _) <;> rw [u8At_enc1 byte]
      · exact specific
      · exact indexOf_none high
  case configuration =>
    simp only [as]
    have tanks : (takeLine ln s).tanks = s.tanks := takeLine_tanks ln s
    have meters : (takeLine ln s).meters = s.meters := takeLine_meters ln s
    have inputs : (takeLine ln s).inputs = s.inputs := takeLine_inputs ln s
    have lines : (takeLine ln s).lines = s.lines := takeLine_lines ln s
    refine ⟨?indices, ?tanks, ?strapping, ?meters, ?inputs, ?bands, ?balance, ?trains, ?sets, ?lines, ?rawLines, ?rawTanks, ?rawMeters,
      ?rawInputs, ?rawTrains⟩
    case indices =>
      intro x rest byte
      obtain ⟨tank, strapping, meter, input, group, train⟩ := configurationOwners_index
      have badIndex := @configuration_badIndex ln s may tag x byte
      refine ⟨fun high length => badIndex tank high rfl (bodyLength_enc1 length x), fun high count small length => ?_,
        fun high length => badIndex meter high rfl (bodyLength_enc1 length x), fun high length => badIndex input high rfl (bodyLength_enc1 length x),
        fun high length => badIndex group high rfl (bodyLength_enc1 length x), fun high length => badIndex train high rfl (bodyLength_enc1 length x)⟩
      rw [List.append_assoc]
      exact badIndex strapping high rfl (loadStrapping_length small length)
    case tanks =>
      intro t d eight positive capacity lowMark fillStop tolerance quiet sound busy hsound hbusy
      rw [← TankDef.inOrder_iff, ← tanks] at hsound
      rw [← Tank.holdsRole_iff, ← tanks] at hbusy
      refine ⟨fun unsound => exec_defineTank_of_run may eight (defineTank_unsound eight capacity lowMark fillStop tolerance quiet
          positive ?_), fun inOrder role => exec_defineTank_of_run may eight (defineTank_busy eight capacity lowMark fillStop tolerance
          quiet positive (hsound.mp inOrder) (hbusy.mp role))⟩
      rw [← Bool.not_eq_true, ← hsound]; exact unsound
    case strapping =>
      intro t points short words
      have refusedBy {st : Status} := configuration_outcome (own := ownLoadStrapping) (tag := tag)
        (answered := refuse st (takeLine ln s)) may rfl (strappingBody_lengthOk t short)
      refine ⟨fun undefined => refusedBy (loadStrapping_undefined short words (by rw [tanks]; exact undefined)),
        fun defined bad => refusedBy (loadStrapping_unsound short words (by rw [tanks]; exact defined) (by rw [tanks]; exact bad))⟩
    case meters =>
      intro m d word
      refine ⟨fun high => ?_, fun low high taken htaken => ⟨fun isTaken => ?_, fun notTaken busy => ?_⟩, fun removal busy => ?_⟩
      · exact configuration_outcome (own := ownDefineMeter) may rfl rfl (defineMeter_highFactor word high)
      · refine configuration_outcome (own := ownDefineMeter) may rfl rfl (defineMeter_taken word low high ?_)
        rw [roleTaken_iff, meters]; exact htaken.mp isTaken
      · refine configuration_outcome (own := ownDefineMeter) may rfl rfl (defineMeter_busy word low high ?_ ?_)
        · rw [← Bool.not_eq_true, roleTaken_iff, meters, ← htaken]; exact notTaken
        · rw [meters, roleBusy_takeLine, roleBusy_takeLine]; exact busy
      · refine configuration_outcome (own := ownDefineMeter) may rfl rfl (defineMeter_removal_busy word removal ?_)
        rw [meters, roleBusy_takeLine]; exact busy
    case inputs =>
      intro i j r some other defined same
      refine configuration_outcome (own := ownDefineFrequencyInput) may rfl (inputBody_lengthOk i _)
        ((runDefineFrequencyInput_inputBody i _ _).trans (checked_fail ?_ _ _ _ _))
      have taken : inputRoleTaken (takeLine ln s) i r = true := inputRoleTaken_iff.mpr ⟨some, j, other, by rw [inputs]; exact ⟨defined, same⟩⟩
      rw [Option.getD_some, taken]; rfl
    case bands =>
      intro bands h words byte
      refine ⟨fun seven bad => ?_, fun three bad => ?_⟩
      · exact configuration_outcome (own := ownSetSupplyBands) may rfl (setSupplyBands_lengthOk seven h)
          ((runSetSupplyBands_eq words byte seven _).trans (checked_fail (bandsOk_eq_false bad) _ _ _ _))
      · exact configuration_outcome (own := ownSetProductionBands) may rfl (setProductionBands_lengthOk three h)
          ((runSetProductionBands_eq words byte three _).trans (checked_fail (bandsOk_eq_false bad) _ _ _ _))
    case balance =>
      intro band limit period bandWord limitWord bad
      exact configuration_outcome (own := ownSetBalance) may rfl rfl (setBalance_unsound bandWord limitWord bad period _)
    case trains =>
      intro n d power salt flush bad
      exact configuration_outcome (own := ownDefineTrain) may rfl (defineTrain_lengthOk n d _)
        (defineTrain_badValue power salt flush bad d.flushLine.val _)
    case sets =>
      intro a b r hold capA capB reserve powerA powerB bad
      exact configuration_outcome (own := ownDefineSets) may rfl rfl (defineSets_badValue capA capB reserve powerA powerB bad _)
    case lines =>
      intro ks d short flowByte default max
      refine ⟨fun empty => ?_, fun nonempty high => ?_, fun nonempty low high sound hsound => ⟨fun unsound => ?_, fun sound held => ?_⟩⟩
      · subst empty; exact exec_defineLines_of_run may short defineLines_noLine
      · exact exec_defineLines_of_run may short (defineLines_highFlow nonempty short flowByte high)
      all_goals
        rw [← lines, ← flushSourceOk_iff nonempty, ← and_assoc, ← and_assoc, and_assoc (a := 1 ≤ _), ← LineDef.batchesOk_iff] at hsound
      · refine exec_defineLines_of_run may short ?_
        rw [hsound, not_and_or, Bool.not_eq_true, Bool.not_eq_true] at unsound
        cases good : d.batchesOk with
        | false => exact defineLines_badBatches nonempty short flowByte low high default max good
        | true =>
          refine defineLines_badFlush nonempty short flowByte low high default max good (unsound.resolve_left ?_)
          rw [good]; decide
      · obtain ⟨good, flush⟩ := hsound.mp sound
        exact exec_defineLines_of_run may short (defineLines_busy nonempty short flowByte low high default max good flush
          (by rw [lines]; exact held))
    case rawLines =>
      intro listed rest group flow kind train middle nonempty short
      refine ⟨fun twelve bad => ?_, fun inRange low high eight groupByte kindByte trainByte hrest => ?_⟩
      · exact configuration_outcome (own := ownDefineLines) may rfl (listedBody_lengthOk short twelve)
          (defineLines_badIndex short nonempty bad _)
      obtain ⟨twelve, hgroup, hflow, hkind, htrain⟩ :=
        lineCodes_fields (flow := flow) eight groupByte (by omega) kindByte trainByte
      have refusedBy {st : Status} (bad : lineDefOf (listedBody listed rest) (1 + listed.length) = .error st) :=
        configuration_outcome (own := ownDefineLines) (tag := tag) may rfl
          (listedBody_lengthOk short (rest := rest) (by rw [hrest]; exact twelve))
          (defineLines_badDefinition short nonempty inRange (by rw [hrest]; exact hflow) low high bad (takeLine ln s))
      have group_eq : u8At (listedBody listed rest) (1 + listed.length) = group := by
        rw [hrest]; exact (listedBody_rest 0).trans hgroup
      have kind_eq : u8At (listedBody listed rest) (1 + listed.length + 10) = kind := by
        rw [hrest]; exact (listedBody_rest 10).trans hkind
      have train_eq : u8At (listedBody listed rest) (1 + listed.length + 11) = train := by
        rw [hrest]; exact (listedBody_rest 11).trans htrain
      refine ⟨fun badGroup => refusedBy (lineDefOf_badGroup ?_), fun goodGroup badKind => refusedBy (lineDefOf_badSource ?_ ?_),
        fun goodGroup flush badTrain => refusedBy (lineDefOf_badSource ?_ ?_)⟩
      · rw [group_eq, indexOf_none badGroup]
      · rw [group_eq]; exact goodGroup
      · rw [kind_eq, sourceOf_badValue badKind]
      · rw [group_eq]; exact goodGroup
      · rw [kind_eq, train_eq, flush, sourceOf_badIndex badTrain]
    case rawTanks =>
      intro t label marks side capacity start eight marksEight sideByte startByte word
      refine ⟨fun positive bad => ?_, fun role => ?_⟩
      · exact configuration_outcome (own := ownDefineTank) may rfl (defineTank_lengthOk eight marksEight)
          (defineTank_badCode eight marksEight sideByte startByte positive word bad _)
      rw [← Tank.holdsRole_iff, ← tanks] at role
      refine ⟨?_, fun points notOne most defined bounds rise => ?_⟩
      · exact configuration_outcome (own := ownDefineTank) may rfl (defineTank_lengthOk eight marksEight)
          (defineTank_removal_busy eight marksEight role side start)
      · have words (p : StrapPoint) (mem : p ∈ points) : p.head < 65536 ∧ p.volume < 65536 := by
          obtain ⟨head, -, volume⟩ := bounds p mem
          exact ⟨Nat.lt_of_le_of_lt head (by decide), volume⟩
        refine configuration_outcome (own := ownLoadStrapping) may rfl (strappingBody_lengthOk t (by omega))
          (loadStrapping_busy (by omega) words (by rw [tanks]; exact defined) notOne most (fun p mem => (bounds p mem).1) (fun p mem => ?_)
            rise role)
        rw [tanks]; exact (bounds p mem).2.1
    case rawMeters =>
      rintro m k mode kind index low high modeByte kindByte indexByte body rfl
      refine ⟨fun bad => ?_, fun goodMode bad => ?_⟩
      · exact configuration_outcome (own := ownDefineMeter) may rfl rfl
          (defineMeter_badCode m low high modeByte kindByte indexByte _ bad)
      · exact configuration_outcome (own := ownDefineMeter) may rfl rfl
          (defineMeter_badIndex m low high modeByte kindByte indexByte _ goodMode bad)
    case rawInputs =>
      rintro i kind target kindByte targetByte body rfl
      refine ⟨fun bad => ?_, fun bad => ?_⟩
      · exact configuration_outcome (own := ownDefineFrequencyInput) may rfl rfl
          (defineInput_badRole i kindByte targetByte (inputRoleOf_badValue bad target) _)
      · exact configuration_outcome (own := ownDefineFrequencyInput) may rfl rfl
          (defineInput_badRole i kindByte targetByte (inputRoleOf_badIndex bad) _)
    case rawTrains =>
      intro n d x power lowSalt highSalt lowFlush highFlush high byte
      exact configuration_outcome (own := ownDefineTrain) may rfl (defineTrain_lengthOk n d x)
        (defineTrain_badLine power lowSalt highSalt lowFlush highFlush byte high _)

end Sys2Proof.Machine
end
